-- ==== Sys2Proof/Word.lean ====
section
/-! DEFINITION. The plain types of the MS-412: bytes of the serial line, 32-bit positions and timestamps, pin levels, and the
index types of the part's units (00_scope.md 5.1 to 5.4). -/

namespace Sys2Proof

/-- One byte of the serial line (R157). -/
abbrev Byte := BitVec 8

/-- A position: a 32-bit value modulo 2^32 (00_scope.md 5.2). -/
abbrev Position := BitVec 32

/-- A count of ticks of 50 ns that wraps modulo 2^32 (00_scope.md 5.1, R1). -/
abbrev Timestamp := BitVec 32

/-- Encoder channels ENC0, ENC1. -/
abbrev EncoderId := Fin 2
/-- Pacers PAC0, PAC1. -/
abbrev PacerId := Fin 2
/-- Lanes L0 to L3. -/
abbrev LaneId := Fin 4
/-- Shot slots, by handle 0 to 255. -/
abbrev Handle := Fin 256
/-- Programs P0 to P31. -/
abbrev ProgramId := Fin 32
/-- Run slots RS0 to RS5. -/
abbrev RunSlotId := Fin 6
/-- Outputs 0 to 11: TRG0 to TRG3, then STB0 to STB7. -/
abbrev OutputId := Fin 12
/-- Camera channels CAM0 to CAM3. -/
abbrev CameraId := Fin 4
/-- Safe-stop inputs SAFE0, SAFE1. -/
abbrev SafeId := Fin 2

/-- The level of a digital pin. -/
inductive Level where
  | low
  | high
  deriving DecidableEq, Repr

/-- The levels of the three pins A, B and Z of an encoder channel (01_position_sources.md 1.2). -/
structure EncoderPins where
  a : Level
  b : Level
  z : Level
  deriving DecidableEq, Repr

end Sys2Proof
end

