-- ==== Sys2Proof/Config.lean ====
section
/-! DEFINITION. The fixed numbers of the MS-412 (Table 0-4) and the free values: what the manual leaves open is an opaque
constant here, so that no proof can see a value of it. -/

namespace Sys2Proof.Config

/-- Records the outcome queue holds (R145). -/
def outcomeDepth : Nat := 64
/-- Entries an expectation queue holds (R121). -/
def expectationDepth : Nat := 8
/-- Frames the receive buffer holds (R160). -/
def receiveFrames : Nat := 4
/-- Replies the reply buffer holds (R163). -/
def replyPlaces : Nat := 4
/-- Reports the report queue holds (R163). -/
def reportPlaces : Nat := 8
/-- The largest payload of a frame in bytes (R158, R168). -/
def largestPayload : Nat := 250
/-- Frames recorded per shot (R124). -/
def framesPerShot : Nat := 4
/-- 2^24: the largest horizon, pacer interval, confirm window and retrigger interval (Table 0-4). -/
def longSpan : Nat := 16777216
/-- Half ticks in the 1 ms gap limit (R159): 20,000 ticks of 50 ns. -/
def gapHalfTicks : Nat := 40000
/-- Half ticks in one 100 ns unit of the encoder filter (R3). -/
def filterUnitHalfTicks : Nat := 4
/-- Half ticks in the 2 ms within which a cold start queues START (R166). -/
def coldStartLimit : Nat := 80000
/-- Half ticks in the 200 µs within which a warm reset queues START (R167). -/
def warmStartLimit : Nat := 8000

/-- FREE VALUE. Where several events stand at one moment the manual takes each whole, in one order or the other, and says not
which (R86, R165). The n-th choice the part makes of itself. -/
opaque arbitration : Nat → Nat

/-- FREE VALUE. How many half ticks the part takes from the rise of RSTN (cold = true), or from the taking of RESET, to the
queueing of START. The manual gives only the limits (R166, R167). -/
opaque startDelay : (cold : Bool) → Nat

/-- FREE VALUE. How many half ticks the transmitter takes for a frame of `bytes` bytes at strap code `baud`. The manual gives
the bit rates with an error below 1 % (R157, section 11.11 note 1). -/
opaque frameTime : (baud : BitVec 2) → (bytes : Nat) → Nat

/-- FREE VALUE. How many half ticks lie between the middle and the end of a stop bit at strap code `baud`: half a bit, whose
length the manual gives with an error below 1 % (R157, R159, section 11.11 note 1). -/
opaque stopBitRest : (baud : BitVec 2) → Nat

end Sys2Proof.Config
end

