-- ==== Sys2Proof/Syntax.lean ====
section
/-! DEFINITION. The commands of the MS-412: one constructor for each row of spec/opcode_table.json. A REQUEST row is a frame of
that KIND that comes in on the serial line complete and with a good CRC: its operands are the TAG and the payload bytes, laid
out as Table 11-12 says (so a payload of a wrong length, which R161 refuses BAD_LENGTH, is an operand too). An EVENT row is a
change on a pin, or a moment of the part's own timebase that the rules name. -/

namespace Sys2Proof

/-- The two moments of a byte on RXD that the receiver knows: its start bit comes (R159), and it is taken, its stop bit reading
`stop` (R157). -/
inductive RxdMoment where
  | startBit
  | taken (stop : Level)
  deriving DecidableEq, Repr

inductive Instr where
  /-- IDENT, KIND 0x01 (R168). Payload: no fields. -/
  | ident (tag : Byte) (payload : List Byte)
  /-- STATUS, KIND 0x02 (R156). Payload: no fields. -/
  | status (tag : Byte) (payload : List Byte)
  /-- RESET, KIND 0x03 (R167). Payload: no fields; the warm reset. -/
  | reset (tag : Byte) (payload : List Byte)
  /-- UNKNOWN_KIND (R161): a frame whose KIND names no request of Table 11-12. -/
  | unknownKind (kind tag : Byte) (payload : List Byte)
  /-- ENCODER_SET, KIND 0x08 (R11). Payload: encoder, mode, edge, invert, filter, index edge, preset flag, preset position (4): 11
  bytes. -/
  | encoderSet (tag : Byte) (payload : List Byte)
  /-- ENCODER_READ, KIND 0x09 (R12). Payload: encoder, clear-index flag: 2 bytes. -/
  | encoderRead (tag : Byte) (payload : List Byte)
  /-- PACER_SET, KIND 0x0A (R15). Payload: pacer, interval (4), preset flag, preset position (4): 10 bytes. -/
  | pacerSet (tag : Byte) (payload : List Byte)
  /-- PACER_RUN, KIND 0x0B (R16). Payload: pacer, command: 2 bytes. -/
  | pacerRun (tag : Byte) (payload : List Byte)
  /-- PACER_READ, KIND 0x0C (R17). Payload: pacer: 1 byte. -/
  | pacerRead (tag : Byte) (payload : List Byte)
  /-- LANE_SET, KIND 0x10 (R19). Payload: Table 11-6: 19 bytes. -/
  | laneSet (tag : Byte) (payload : List Byte)
  /-- LANE_ARM, KIND 0x11 (R26). Payload: lane: 1 byte. -/
  | laneArm (tag : Byte) (payload : List Byte)
  /-- LANE_PAUSE, KIND 0x12 (R27). Payload: lane: 1 byte. -/
  | lanePause (tag : Byte) (payload : List Byte)
  /-- LANE_RESUME, KIND 0x13 (R28). Payload: lane: 1 byte. -/
  | laneResume (tag : Byte) (payload : List Byte)
  /-- LANE_DISARM, KIND 0x14 (R30). Payload: lane: 1 byte. -/
  | laneDisarm (tag : Byte) (payload : List Byte)
  /-- LANE_READ, KIND 0x15 (R31). Payload: lane: 1 byte. -/
  | laneRead (tag : Byte) (payload : List Byte)
  /-- SUBMIT, KIND 0x18 (R39 to R46). Payload: Table 11-7: 3 + 13n or 3 + 11n bytes. -/
  | submit (tag : Byte) (payload : List Byte)
  /-- CANCEL, KIND 0x19 (R48). Payload: handle, expected generation: 2 bytes. -/
  | cancel (tag : Byte) (payload : List Byte)
  /-- SHOT_READ, KIND 0x1A (R50). Payload: handle: 1 byte. -/
  | shotRead (tag : Byte) (payload : List Byte)
  /-- AMEND, KIND 0x1B (R52 to R55). Payload: handle, expected generation, flags, new program, new label (4): 8 bytes. -/
  | amend (tag : Byte) (payload : List Byte)
  /-- AMEND_PAIR, KIND 0x1C (R58 to R60). Payload: two sets of 8 bytes. -/
  | amendPair (tag : Byte) (payload : List Byte)
  /-- PROGRAM_WRITE, KIND 0x20 (R70 to R72). Payload: Table 11-8: 2 + 6p bytes. -/
  | programWrite (tag : Byte) (payload : List Byte)
  /-- PROGRAM_READ, KIND 0x21 (R73). Payload: program, selector: 2 bytes. -/
  | programRead (tag : Byte) (payload : List Byte)
  /-- PROGRAM_CLEAR, KIND 0x22 (R74). Payload: program: 1 byte. -/
  | programClear (tag : Byte) (payload : List Byte)
  /-- HOLD_OPEN, KIND 0x23 (R75). Payload: no fields. -/
  | holdOpen (tag : Byte) (payload : List Byte)
  /-- HOLD_RELEASE, KIND 0x24 (R76). Payload: no fields. -/
  | holdRelease (tag : Byte) (payload : List Byte)
  /-- HOLD_DISCARD, KIND 0x25 (R77). Payload: no fields. -/
  | holdDiscard (tag : Byte) (payload : List Byte)
  /-- OUTPUT_SET, KIND 0x28 (R110). Payload: output, polarity, mode: 3 bytes. -/
  | outputSet (tag : Byte) (payload : List Byte)
  /-- OUTPUT_DRIVE, KIND 0x29 (R112). Payload: output, level: 2 bytes. -/
  | outputDrive (tag : Byte) (payload : List Byte)
  /-- OUTPUT_PROTECT, KIND 0x2A (R113). Payload: action, output set (2): 3 bytes. -/
  | outputProtect (tag : Byte) (payload : List Byte)
  /-- OUTPUT_READ, KIND 0x2B (R114). Payload: no fields. -/
  | outputRead (tag : Byte) (payload : List Byte)
  /-- CAMERA_SET, KIND 0x30 (R130). Payload: camera, edge, confirm, window (4), minimum interval (4): 11 bytes. -/
  | cameraSet (tag : Byte) (payload : List Byte)
  /-- CAMERA_SETTLE, KIND 0x31 (R131). Payload: camera, count: 2 bytes. -/
  | cameraSettle (tag : Byte) (payload : List Byte)
  /-- CAMERA_READ, KIND 0x32 (R132). Payload: camera: 1 byte. -/
  | cameraRead (tag : Byte) (payload : List Byte)
  /-- SAFE_UNLOCK, KIND 0x38 (R137). Payload: no fields. -/
  | safeUnlock (tag : Byte) (payload : List Byte)
  /-- SAFE_SET, KIND 0x39 (R138, R139). Payload: Table 11-10: 5 bytes. -/
  | safeSet (tag : Byte) (payload : List Byte)
  /-- SAFE_RELEASE, KIND 0x3A (R140). Payload: input: 1 byte. -/
  | safeRelease (tag : Byte) (payload : List Byte)
  /-- SAFE_READ, KIND 0x3B (R141). Payload: no fields. -/
  | safeRead (tag : Byte) (payload : List Byte)
  /-- OUTCOME_FETCH, KIND 0x40 (R147). Payload: n: 1 byte. -/
  | outcomeFetch (tag : Byte) (payload : List Byte)
  /-- ALARM_READ, KIND 0x41 (R151). Payload: no fields. -/
  | alarmRead (tag : Byte) (payload : List Byte)
  /-- ALARM_CLEAR, KIND 0x42 (R152). Payload: alarm set (2): 2 bytes. -/
  | alarmClear (tag : Byte) (payload : List Byte)
  /-- ALARM_REPORT_SET, KIND 0x43 (R153). Payload: alarm set (2): 2 bytes. -/
  | alarmReportSet (tag : Byte) (payload : List Byte)
  /-- ENCODER_PIN_CHANGE (R3): at one moment the pins of encoder `n` stand at the levels `pins`. -/
  | encoderPinChange (n : EncoderId) (pins : EncoderPins)
  /-- FILTERED_CHANGE (R3, R4): the pins of encoder `n` whose stable time has passed change their filtered levels. -/
  | filteredChange (n : EncoderId)
  /-- PACER_EXPIRY (R14): the interval of pacer `n` has passed. -/
  | pacerExpiry (n : PacerId)
  /-- PULSE_START (R92): the run in slot `k` reaches the beginning of a pulse interval. -/
  | pulseStart (k : RunSlotId)
  /-- PULSE_END (R93): the run in slot `k` reaches the end of a pulse interval. -/
  | pulseEnd (k : RunSlotId)
  /-- RUN_COMPLETION (R94): the run in slot `k` reaches its run length. -/
  | runCompletion (k : RunSlotId)
  /-- FRAME_START (R118, R123): pin FSn of camera `c` changes to `level`. -/
  | frameStart (c : CameraId) (level : Level)
  /-- DEADLINE_EXPIRY (R126): the oldest expectation of camera `c` reaches its deadline. -/
  | deadlineExpiry (c : CameraId)
  /-- SAFE_PIN_CHANGE (R134): pin SAFEn of input `n` changes to `level`. -/
  | safePinChange (n : SafeId) (level : Level)
  /-- RX_BYTE (R157 to R159): byte `b` on RXD, at one of its moments; at its start bit its data bits are not read yet. -/
  | rxByte (b : Byte) (m : RxdMoment)
  /-- GAP_TIMEOUT (R159): 1 ms has passed between two bytes of a frame. -/
  | gapTimeout
  /-- TRANSMIT_FRAME_END (R164): the transmitter finishes the last byte of its frame. -/
  | transmitFrameEnd
  /-- COLD_RESET (R166): RSTN goes low, or power comes on. -/
  | coldReset
  /-- RSTN_RISE (R157, R166): RSTN rises with BAUD1, BAUD0 at `straps` (bit 1, bit 0). -/
  | rstnRise (straps : BitVec 2)
  /-- START (R166, R167): the part queues its START report and begins to take requests. -/
  | start
  /-- RXD_RETURN_HIGH (R157): after a byte whose stop bit read low, RXD returns high. -/
  | rxdReturnHigh
  deriving DecidableEq, Repr

end Sys2Proof
end

