-- ==== Sys2Proof/WellFormed.lean ====
section
/-! DEFINITION. Which terms of Instr stand for something the part can meet: a payload fits in a frame (R158), and an
UNKNOWN_KIND carries a KIND that Table 11-12 does not name. -/

namespace Sys2Proof

/-- The KIND codes of Table 11-12. -/
def requestKinds : List Byte :=
  [0x01, 0x02, 0x03, 0x08, 0x09, 0x0A, 0x0B, 0x0C, 0x10, 0x11, 0x12, 0x13, 0x14, 0x15]
    ++ [0x18, 0x19, 0x1A, 0x1B, 0x1C, 0x20, 0x21, 0x22, 0x23, 0x24, 0x25, 0x28, 0x29, 0x2A, 0x2B]
    ++ [0x30, 0x31, 0x32, 0x38, 0x39, 0x3A, 0x3B, 0x40, 0x41, 0x42, 0x43]

/-- The payload of a request; an event carries none. -/
def Instr.payload? : Instr → Option (List Byte)
  | .ident _ p | .status _ p | .reset _ p | .unknownKind _ _ p | .encoderSet _ p | .encoderRead _ p | .pacerSet _ p
  | .pacerRun _ p | .pacerRead _ p | .laneSet _ p | .laneArm _ p | .lanePause _ p | .laneResume _ p | .laneDisarm _ p
  | .laneRead _ p | .submit _ p | .cancel _ p | .shotRead _ p | .amend _ p | .amendPair _ p | .programWrite _ p
  | .programRead _ p | .programClear _ p | .holdOpen _ p | .holdRelease _ p | .holdDiscard _ p | .outputSet _ p
  | .outputDrive _ p | .outputProtect _ p | .outputRead _ p | .cameraSet _ p | .cameraSettle _ p | .cameraRead _ p
  | .safeUnlock _ p | .safeSet _ p | .safeRelease _ p | .safeRead _ p | .outcomeFetch _ p | .alarmRead _ p
  | .alarmClear _ p | .alarmReportSet _ p => some p
  | .encoderPinChange _ _ | .filteredChange _ | .pacerExpiry _ | .pulseStart _ | .pulseEnd _ | .runCompletion _
  | .frameStart _ _ | .deadlineExpiry _ | .safePinChange _ _ | .rxByte _ _ | .gapTimeout | .transmitFrameEnd | .coldReset
  | .rstnRise _ | .start | .rxdReturnHigh => none

/-- The KIND of an UNKNOWN_KIND names no request. -/
def Instr.kindOk : Instr → Bool
  | .unknownKind k _ _ => !requestKinds.contains k
  | _ => true

/-- A frame carries at most 250 payload bytes (R158). -/
def Instr.payloadOk (i : Instr) : Bool :=
  match i.payload? with
  | some p => decide (p.length ≤ Config.largestPayload)
  | none => true

/-- A command the part can meet. -/
def Instr.wellFormed (i : Instr) : Bool := i.payloadOk && i.kindOk

end Sys2Proof
end

