-- ==== Sys2Proof/Decode.lean ====
section
/-! DEFINITION. The opcode table gives bits to none of its 57 rows: the requests are told apart by the KIND byte of a frame (in
Machine/Take.lean) and the events by what happens at a pin or in time. So no word spells a command. -/

namespace Sys2Proof

/-- The command that a word spells by the table's bits: none, for no row has any. -/
def decodeTableWord (_nbits _w : Nat) : Option Instr := none

end Sys2Proof
end

