-- ==== Sys2Proof/Machine/State.lean ====
section
/-! DEFINITION. The whole state of the MS-412 as plain data, every piece the manual names (INVENTORY.md, "State"), and
State.reset: the part at power-on, with the cold reset in force (RSTN low, R166). -/

namespace Sys2Proof.Machine

/-! ## Position sources (Chapter 1) -/

/-- Encoder mode (section 1.2). -/
inductive EncoderMode where
  | quad4 | quad1 | stepdir | count
  deriving DecidableEq, Repr

/-- Which A edges count in QUAD1, STEPDIR and COUNT (section 1.2). -/
inductive EdgeSelection where
  | rise | fall | both
  deriving DecidableEq, Repr

/-- Which Z edge is an index edge (section 1.2). -/
inductive IndexEdge where
  | noEdge | rise | fall
  deriving DecidableEq, Repr

/-- The sign of the last count event (R9). -/
inductive LastDirection where
  | noDirection | fwd | rev
  deriving DecidableEq, Repr

/-- The five configuration fields of an encoder channel (section 1.2). -/
structure EncoderConfig where
  mode : EncoderMode
  edge : EdgeSelection
  invert : Bool
  filter : Fin 8
  indexEdge : IndexEdge
  deriving DecidableEq, Repr

/-- For each pin, the half ticks it has held a level that its filtered level does not show yet (R3). -/
structure EncoderTiming where
  a : Option Nat
  b : Option Nat
  z : Option Nat
  deriving DecidableEq, Repr

/-- An encoder channel: configuration, the seven items of section 1.2, the pins themselves and their filter timing. -/
structure Encoder where
  config : EncoderConfig
  position : Position
  lastDirection : LastDirection
  indexLatch : Position
  indexCount : BitVec 16
  indexSeen : Bool
  filtered : EncoderPins
  referenceA : Level
  referenceB : Level
  pins : EncoderPins
  timing : EncoderTiming
  deriving DecidableEq, Repr

/-- A pacer (section 1.9). `intervalStart` is present in RUN. -/
structure Pacer where
  interval : Nat
  pendingInterval : Option Nat
  running : Bool
  position : Position
  intervalStart : Option Timestamp
  deriving DecidableEq, Repr

/-! ## Lanes (Chapter 2) -/

/-- The position source of a lane (Table 2-1). -/
inductive Source where
  | enc0 | enc1 | pac0 | pac1
  deriving DecidableEq, Repr

/-- The direction setting of a lane (Table 2-1). -/
inductive Direction where
  | same | opposite
  deriving DecidableEq, Repr

/-- The lane states (section 2.5). -/
inductive LaneState where
  | off | armed | paused | halted
  deriving DecidableEq, Repr

/-- The eight settings of Table 2-1; distances are counts. -/
structure LaneSettings where
  source : Source
  direction : Direction
  offset : Position
  lead : Nat
  horizon : Nat
  spacing : Nat
  quota : Nat
  reverseLimit : Nat
  deriving DecidableEq, Repr

/-- A lane; the queue holds handles, head first (R36). -/
structure Lane where
  settings : LaneSettings
  state : LaneState
  mark : Position
  queue : List Handle
  deriving DecidableEq, Repr

/-! ## The shot pool (Chapter 3) -/

/-- The state of a slot that is not FREE (R33). -/
inductive ShotPhase where
  | queued | firing | awaiting
  deriving DecidableEq, Repr

/-- A burst that is present (Table 3-1): a count 1 to 8 and a gap in ticks. -/
structure Burst where
  count : Nat
  gap : Nat
  deriving DecidableEq, Repr

/-- One entry of a shot's frame list (R124). -/
structure FrameEntry where
  camera : CameraId
  number : BitVec 32
  deriving DecidableEq, Repr

/-- The fields of Table 3-1 but for the generation, which a FREE slot holds too. -/
structure Shot where
  phase : ShotPhase
  label : BitVec 32
  lane : LaneId
  trigger : Position
  program : ProgramId
  burst : Option Burst
  amended : Bool
  collided : Bool
  aborted : Bool
  fireTime : Option Timestamp
  runSlot : Option RunSlotId
  outstanding : Nat
  confirmed : Nat
  lost : Nat
  frames : List FrameEntry
  deriving DecidableEq, Repr

/-- A shot slot: FREE exactly when it holds no shot (R33). -/
structure Slot where
  generation : BitVec 8
  shot : Option Shot
  deriving DecidableEq, Repr

/-! ## The program store (Chapter 5) -/

/-- A pulse (Table 5-1): start and width in ticks. -/
structure Pulse where
  output : OutputId
  start : Nat
  width : Nat
  fine : Bool
  deriving DecidableEq, Repr

/-- A DEFINED version: its pulses as written and its program end in half ticks (R68). -/
structure Version where
  pulses : List Pulse
  programEnd : Nat
  deriving DecidableEq, Repr

/-- One program: active version (none = EMPTY), staged version and reference count (R66). -/
structure Program where
  active : Option Version
  staged : Option Version
  refCount : Nat
  deriving DecidableEq, Repr

/-- The update hold (section 5.1). -/
inductive UpdateHold where
  | closed | opened
  deriving DecidableEq, Repr

/-! ## The pulse engine (Chapter 6) -/

/-- The run record of Table 6-1. `position` is in half ticks. `eventDone` is the model's own: the run's event at this position
has been handled (R92: all its starts and ends at one position are one event). -/
structure Run where
  handle : Handle
  fireTime : Timestamp
  pulses : List Pulse
  programEnd : Nat
  burstCount : Nat
  burstGap : Nat
  burstIndex : Nat
  position : Nat
  held : BitVec 12
  skipped : BitVec 8
  reserved : Vector Nat 4
  eventDone : Bool
  deriving DecidableEq, Repr

/-! ## Outputs (Chapter 7) -/

inductive Polarity where
  | activeHigh | activeLow
  deriving DecidableEq, Repr

inductive OutputMode where
  | pulseMode | staticMode
  deriving DecidableEq, Repr

inductive DriveLevel where
  | inactive | active
  deriving DecidableEq, Repr

/-- The stored items of Table 7-1. Holders are the runs' held outputs seen from the output, held and active are derived. -/
structure Output where
  polarity : Polarity
  mode : OutputMode
  level : DriveLevel
  protect : Bool
  deriving DecidableEq, Repr

/-! ## Camera channels (Chapter 8) -/

inductive FrameEdge where
  | ignore | rise | fall
  deriving DecidableEq, Repr

/-- Table 8-1. -/
structure CameraSettings where
  edge : FrameEdge
  confirm : Bool
  window : Nat
  minInterval : Nat
  deriving DecidableEq, Repr

/-- Table 8-3. -/
structure Expectation where
  handle : Handle
  pulseStart : Timestamp
  deadline : Timestamp
  deriving DecidableEq, Repr

/-- Table 8-2, with the settings and the level of pin FSn. -/
structure Camera where
  settings : CameraSettings
  counter : BitVec 32
  settle : Nat
  lastTrigger : Option Timestamp
  elapsed : Nat
  queue : List Expectation
  fs : Level
  deriving DecidableEq, Repr

/-! ## Safe-stop inputs (Chapter 9) -/

inductive Detection where
  | ignore | rise | fall | both | low | high
  deriving DecidableEq, Repr

/-- Table 9-1 with the pin. A group and a binding are sets: bit n of the vector stands for output n, lane n (section 11.8). -/
structure SafeInput where
  detection : Detection
  group : BitVec 12
  binding : BitVec 4
  hold : Bool
  pin : Level
  deriving DecidableEq, Repr

/-! ## Outcomes and alarms (Chapter 10) -/

inductive OutcomeCode where
  | done | frameLost | aborted | noEngine | cameraBusy | blocked | passed | flushed | cancelled
  deriving DecidableEq, Repr

/-- Table 10-1. -/
structure OutcomeRecord where
  handle : Handle
  generation : BitVec 8
  label : BitVec 32
  lane : LaneId
  code : OutcomeCode
  amended : Bool
  collided : Bool
  trigger : Position
  fireTime : Timestamp
  confirmed : Nat
  lost : Nat
  frames : List FrameEntry
  deriving DecidableEq, Repr

/-- The sixteen alarms (Table 10-4). -/
inductive Alarm where
  | safe (n : SafeId)
  | reverse (l : LaneId)
  | encFault (n : EncoderId)
  | collision
  | stray (c : CameraId)
  | outcomeOverflow
  | linkError
  | linkOverrun
  deriving DecidableEq, Repr

/-- The alarm set: bit n stands for alarm n of Table 11-5. -/
structure AlarmSet where
  latched : BitVec 16
  enabled : BitVec 16
  deriving DecidableEq, Repr

/-! ## The control link (Chapter 11) -/

/-- A frame less SYNC, LEN and CRC, which follow from it (Table 11-2). -/
structure Frame where
  kind : Byte
  tag : Byte
  payload : List Byte
  deriving DecidableEq, Repr

inductive StartCause where
  | cold | warm
  deriving DecidableEq, Repr

/-- The three reports (Table 11-11). -/
inductive Report where
  | start (cause : StartCause) (straps : BitVec 2)
  | alarm (which : Alarm) (latched : BitVec 16)
  | outcomeReady
  deriving DecidableEq, Repr

/-- The receiver of Table 11-1 with what it has kept; `got` is the payload so far, oldest byte first. -/
inductive RxState where
  | hunt
  | len
  | kind (len : Byte)
  | tag (len kind : Byte)
  | payload (len kind tag : Byte) (got : List Byte)
  | crcLow (len kind tag : Byte) (got : List Byte)
  | crcHigh (len kind tag : Byte) (got : List Byte) (low : Byte)
  deriving DecidableEq, Repr

/-- The state of the link. `receiving`: a start bit has come since the last byte was taken (R159). `deferred` holds the ALARM
reports that R155 puts after START; `gapTimer` and `txTimer` count half ticks since the last byte of a frame in assembly was taken,
up to the next start bit, and since the frame on its way out began. -/
structure Link where
  baud : BitVec 2
  rx : RxState
  waitHigh : Bool
  receiving : Bool
  gapTimer : Nat
  rxBuffer : List Frame
  replies : List Frame
  reports : List Report
  deferred : List Report
  tx : Option Frame
  txTimer : Nat
  deriving DecidableEq, Repr

/-- Where the part stands between a reset and service: RSTN low, after a reset but before START, or taking requests. -/
inductive Phase where
  | coldReset
  | starting (cause : StartCause)
  | running
  deriving DecidableEq, Repr

/-! ## The machine -/

/-- The MS-412. `halfTick` is the half of the tick the part is in, `startTimer` the half ticks since a reset ended or was taken,
`arbiter` (the model's own) counts the free choices made, `pending` is the queue of commands, first in, first out. -/
structure State where
  phase : Phase
  startTimer : Nat
  timestamp : Timestamp
  halfTick : Bool
  encoders : Vector Encoder 2
  pacers : Vector Pacer 2
  lanes : Vector Lane 4
  slots : Vector Slot 256
  programs : Vector Program 32
  updateHold : UpdateHold
  runs : Vector (Option Run) 6
  outputs : Vector Output 12
  cameras : Vector Camera 4
  safes : Vector SafeInput 2
  unlock : Bool
  outcomes : List OutcomeRecord
  alarms : AlarmSet
  link : Link
  arbiter : Nat
  pending : List Instr
  deriving DecidableEq, Repr

/-- Why the block stops with a fault. The MS-412 manual describes no command and no event that stops the part, so there is no
constructor: no step of this model faults (safe: nothing is claimed of a fault). -/
inductive Fault where
  deriving DecidableEq, Repr

/-- Why a command is refused by the MODEL (a refusal by the PART is a reply, R162, and a next state). -/
inductive Refusal where
  /-- Raised by an arm of exec alone, for a command that has no meaning yet; none is left. Safe: nothing can be claimed of it. -/
  | notModelled (mnemonic : String)
  deriving DecidableEq, Repr

/-! ## Cold values -/

/-- Table 1-2, cold, with the pins as they stand. -/
def Encoder.cold (pins : EncoderPins) : Encoder where
  config := ⟨.count, .rise, false, 0, .noEdge⟩
  position := 0
  lastDirection := .noDirection
  indexLatch := 0
  indexCount := 0
  indexSeen := false
  filtered := pins
  referenceA := pins.a
  referenceB := pins.b
  pins := pins
  timing := ⟨none, none, none⟩

/-- Table 1-3, cold. -/
def Pacer.cold : Pacer := ⟨20000, none, false, 0, none⟩

/-- Tables 2-1 and 2-4, cold. -/
def Lane.cold : Lane := ⟨⟨.enc0, .same, 0, 1, 65536, 1, 64, 0⟩, .off, 0, []⟩

/-- Table 3-4, cold. -/
def Slot.cold : Slot := ⟨0, none⟩

/-- Table 5-3, cold. -/
def Program.cold : Program := ⟨none, none, 0⟩

/-- Table 7-2, cold. -/
def Output.cold : Output := ⟨.activeHigh, .pulseMode, .inactive, false⟩

/-- Tables 8-1 and 8-4, cold, with the FS pin as it stands. -/
def Camera.cold (fs : Level) : Camera := ⟨⟨.ignore, false, 200000, 0⟩, 0, 0, none, 0, [], fs⟩

/-- Table 9-1, cold, with the SAFE pin as it stands. -/
def SafeInput.cold (pin : Level) : SafeInput := ⟨.ignore, 0, 0, false, pin⟩

/-- R166, cold. The strap code before the first sampling is assumption 3. -/
def Link.cold : Link := ⟨3, .hunt, false, false, 0, [], [], [], [], none, 0⟩

/-- Every block at its cold values with RSTN low (R1, R166), the input pins standing as given. -/
def State.cold (encoders : Vector EncoderPins 2) (fs : Vector Level 4) (safes : Vector Level 2) : State where
  phase := .coldReset
  startTimer := 0
  timestamp := 0
  halfTick := false
  encoders := encoders.map Encoder.cold
  pacers := Vector.replicate 2 Pacer.cold
  lanes := Vector.replicate 4 Lane.cold
  slots := Vector.replicate 256 Slot.cold
  programs := Vector.replicate 32 Program.cold
  updateHold := .closed
  runs := Vector.replicate 6 none
  outputs := Vector.replicate 12 Output.cold
  cameras := fs.map Camera.cold
  safes := safes.map SafeInput.cold
  unlock := false
  outcomes := []
  alarms := ⟨0, 0xFFFF⟩
  link := Link.cold
  arbiter := 0
  pending := []

/-- The part at power-on, in cold reset (00_scope.md 5.7, R166). The levels of the input pins are inputs; at power-on the model
takes them low (assumption 2). -/
def State.reset : State :=
  State.cold (Vector.replicate 2 ⟨.low, .low, .low⟩) (Vector.replicate 4 .low) (Vector.replicate 2 .low)

end Sys2Proof.Machine
end

