-- ==== Sys2Proof/Machine/Bytes.lean ====
section
/-! DEFINITION. Bytes on the serial line: little-endian fields (00_scope.md 5.5), the CRC (R160) and the bytes of a frame
(Table 11-2). -/

namespace Sys2Proof.Machine

/-- The byte at an offset of a payload, as a number. -/
def u8 (p : List Byte) (i : Nat) : Nat := (p.getD i 0).toNat

/-- A 2-byte little-endian field. -/
def u16 (p : List Byte) (i : Nat) : Nat := u8 p i + 256 * u8 p (i + 1)

/-- A 4-byte little-endian field. -/
def u32 (p : List Byte) (i : Nat) : Nat := u16 p i + 65536 * u16 p (i + 2)

/-- A 4-byte field that the manual treats as a 32-bit value. -/
def w32 (p : List Byte) (i : Nat) : BitVec 32 := BitVec.ofNat 32 (u32 p i)

/-- `k` bytes of a number, least significant first. -/
def leBytes : Nat → Nat → List Byte
  | 0, _ => []
  | k + 1, n => BitVec.ofNat 8 n :: leBytes k (n / 256)

/-- One byte. -/
def le1 (n : Nat) : List Byte := leBytes 1 n
/-- A 2-byte field. -/
def le2 (n : Nat) : List Byte := leBytes 2 n
/-- A 4-byte field. -/
def le4 (n : Nat) : List Byte := leBytes 4 n
/-- A 32-bit value as a 4-byte field. -/
def le32 (x : BitVec 32) : List Byte := le4 x.toNat

/-- A yes or no byte: the part sends 1 for yes (Table 11-4, note 2). -/
def flagByte (b : Bool) : Byte := if b then 1 else 0

/-- `n` bytes that read 0 (R162). -/
def zeros (n : Nat) : List Byte := List.replicate n 0

/-- R160: one data bit into the CRC register. -/
def crcBit (reg : BitVec 16) (d : Bool) : BitVec 16 :=
  if reg.msb != d then (reg <<< 1) ^^^ 0x1021#16 else reg <<< 1

/-- R160: one byte, most significant bit first. -/
def crcByte (reg : BitVec 16) (b : Byte) : BitVec 16 :=
  [b.getLsbD 7, b.getLsbD 6, b.getLsbD 5, b.getLsbD 4, b.getLsbD 3, b.getLsbD 2, b.getLsbD 1, b.getLsbD 0].foldl crcBit reg

/-- R160: the CRC of a run of bytes. -/
def crc16 (bytes : List Byte) : BitVec 16 := bytes.foldl crcByte 0xFFFF#16

/-- The bytes a frame's CRC is worked out over: LEN, KIND, TAG and the payload (R160). -/
def Frame.covered (f : Frame) : List Byte := BitVec.ofNat 8 f.payload.length :: f.kind :: f.tag :: f.payload

/-- The two CRC bytes, low byte first (Table 11-2). -/
def crcBytes (bytes : List Byte) : List Byte := le2 (crc16 bytes).toNat

/-- The SYNC byte (Table 11-2). -/
def syncByte : Byte := 0x5A

/-- The bytes of a frame on the line (Table 11-2). -/
def Frame.wire (f : Frame) : List Byte := syncByte :: (f.covered ++ crcBytes f.covered)

/-- Bytes on the line for a frame: LEN + 6 (section 11.2). -/
def Frame.lineBytes (f : Frame) : Nat := f.payload.length + 6

end Sys2Proof.Machine
end

