-- ==== Sys2Proof/Machine/Operands.lean ====
section
/-! DEFINITION. The operand forms: the encodings of enumerated values (Tables 11-3 to 11-5), of index fields, sets, pulses,
entries and records, both as a request carries them and as a reply does. -/

namespace Sys2Proof.Machine

/-! ## Indices -/

/-- A number as an index below `k`, when it is one. -/
def index? (k n : Nat) : Option (Fin k) := if h : n < k then some ⟨n, h⟩ else none

theorem u8_lt (p : List Byte) (i : Nat) : u8 p i < 256 := (p.getD i 0).isLt

/-- The slot a handle byte names; every value is a handle (Table 3-1). -/
def handleAt (p : List Byte) (i : Nat) : Handle := ⟨u8 p i, u8_lt p i⟩

/-- The byte at an offset as an 8-bit generation. -/
def generationAt (p : List Byte) (i : Nat) : BitVec 8 := BitVec.ofNat 8 (u8 p i)

/-- A yes or no byte: 0 for no, any other value for yes (Table 11-4, note 2). -/
def yesAt (p : List Byte) (i : Nat) : Bool := u8 p i != 0

/-! ## Status and reason (Table 11-3) -/

/-- The reason codes of Table 11-3. -/
inductive Reason where
  | badField | badState | held | noProgram | tooNear | tooFar | spacing | queueFull | poolFull | mismatch
  | gone | inUse | overlap | updateHold | isProtected | pendingWork | locked | unknownKind | badLength
  deriving DecidableEq, Repr

def Reason.code : Reason → Byte
  | .badField => 1
  | .badState => 2
  | .held => 3
  | .noProgram => 4
  | .tooNear => 5
  | .tooFar => 6
  | .spacing => 7
  | .queueFull => 8
  | .poolFull => 9
  | .mismatch => 10
  | .gone => 11
  | .inUse => 12
  | .overlap => 13
  | .updateHold => 14
  | .isProtected => 15
  | .pendingWork => 16
  | .locked => 17
  | .unknownKind => 18
  | .badLength => 19

/-- A reply payload with status OK (R162). -/
def okReply (fields : List Byte) : List Byte := 0 :: 0 :: fields

/-- A reply payload with status REFUSED and the fields the rule gives. -/
def refusedWith (r : Reason) (fields : List Byte) : List Byte := 1 :: r.code :: fields

/-- REFUSED with `n` bytes of fields that read 0 (R162). -/
def refusedReply (r : Reason) (n : Nat) : List Byte := refusedWith r (zeros n)

/-- BUSY with `n` bytes of fields that read 0. -/
def busyReply (r : Reason) (n : Nat) : List Byte := 2 :: r.code :: zeros n

/-! ## Enumerated values (Table 11-4) -/

def EncoderMode.ofCode : Nat → Option EncoderMode
  | 0 => some .quad4
  | 1 => some .quad1
  | 2 => some .stepdir
  | 3 => some .count
  | _ => none

def EncoderMode.code : EncoderMode → Byte
  | .quad4 => 0
  | .quad1 => 1
  | .stepdir => 2
  | .count => 3

def EdgeSelection.ofCode : Nat → Option EdgeSelection
  | 0 => some .rise
  | 1 => some .fall
  | 2 => some .both
  | _ => none

def EdgeSelection.code : EdgeSelection → Byte
  | .rise => 0
  | .fall => 1
  | .both => 2

def IndexEdge.ofCode : Nat → Option IndexEdge
  | 0 => some .noEdge
  | 1 => some .rise
  | 2 => some .fall
  | _ => none

def IndexEdge.code : IndexEdge → Byte
  | .noEdge => 0
  | .rise => 1
  | .fall => 2

def LastDirection.code : LastDirection → Byte
  | .noDirection => 0
  | .fwd => 1
  | .rev => 2

def Source.ofCode : Nat → Option Source
  | 0 => some .enc0
  | 1 => some .enc1
  | 2 => some .pac0
  | 3 => some .pac1
  | _ => none

def Source.code : Source → Byte
  | .enc0 => 0
  | .enc1 => 1
  | .pac0 => 2
  | .pac1 => 3

/-- The source that an encoder channel is to the lanes. -/
def encoderSource (n : EncoderId) : Source := if n.val = 0 then .enc0 else .enc1

/-- The source that a pacer is to the lanes. -/
def pacerSource (n : PacerId) : Source := if n.val = 0 then .pac0 else .pac1

def Direction.ofCode : Nat → Option Direction
  | 0 => some .same
  | 1 => some .opposite
  | _ => none

def Direction.code : Direction → Byte
  | .same => 0
  | .opposite => 1

def LaneState.code : LaneState → Byte
  | .off => 0
  | .armed => 1
  | .paused => 2
  | .halted => 3

def ShotPhase.code : ShotPhase → Byte
  | .queued => 1
  | .firing => 2
  | .awaiting => 3

/-- The slot state of Table 11-4; FREE is 0. -/
def Slot.stateCode (x : Slot) : Byte :=
  match x.shot with
  | none => 0
  | some sh => sh.phase.code

def UpdateHold.code : UpdateHold → Byte
  | .closed => 0
  | .opened => 1

def Polarity.ofCode : Nat → Option Polarity
  | 0 => some .activeHigh
  | 1 => some .activeLow
  | _ => none

def Polarity.code : Polarity → Byte
  | .activeHigh => 0
  | .activeLow => 1

def OutputMode.ofCode : Nat → Option OutputMode
  | 0 => some .pulseMode
  | 1 => some .staticMode
  | _ => none

def OutputMode.code : OutputMode → Byte
  | .pulseMode => 0
  | .staticMode => 1

def DriveLevel.ofCode : Nat → Option DriveLevel
  | 0 => some .inactive
  | 1 => some .active
  | _ => none

def DriveLevel.code : DriveLevel → Byte
  | .inactive => 0
  | .active => 1

def FrameEdge.ofCode : Nat → Option FrameEdge
  | 0 => some .ignore
  | 1 => some .rise
  | 2 => some .fall
  | _ => none

def FrameEdge.code : FrameEdge → Byte
  | .ignore => 0
  | .rise => 1
  | .fall => 2

/-- A two-valued field whose values are 0 and 1 (confirm, pacer command, protect action, program selector, position width). -/
def bitOfCode : Nat → Option Bool
  | 0 => some false
  | 1 => some true
  | _ => none

def Detection.ofCode : Nat → Option Detection
  | 0 => some .ignore
  | 1 => some .rise
  | 2 => some .fall
  | 3 => some .both
  | 4 => some .low
  | 5 => some .high
  | _ => none

def Detection.code : Detection → Byte
  | .ignore => 0
  | .rise => 1
  | .fall => 2
  | .both => 3
  | .low => 4
  | .high => 5

def levelCode : Level → Byte
  | .low => 0
  | .high => 1

def OutcomeCode.code : OutcomeCode → Byte
  | .done => 1
  | .frameLost => 2
  | .aborted => 3
  | .noEngine => 4
  | .cameraBusy => 5
  | .blocked => 6
  | .passed => 7
  | .flushed => 8
  | .cancelled => 9

def StartCause.code : StartCause → Byte
  | .cold => 0
  | .warm => 1

/-- The alarm numbers of Table 11-5. -/
def Alarm.number : Alarm → Nat
  | .safe n => n.val
  | .reverse l => 2 + l.val
  | .encFault n => 6 + n.val
  | .collision => 8
  | .stray c => 9 + c.val
  | .outcomeOverflow => 13
  | .linkError => 14
  | .linkOverrun => 15

/-! ## Reports as frames (Table 11-11) -/

def Report.frame : Report → Frame
  | .start c straps => ⟨0x7D, 0, [c.code, BitVec.ofNat 8 straps.toNat]⟩
  | .alarm a latched => ⟨0x7E, 0, le1 a.number ++ le2 latched.toNat⟩
  | .outcomeReady => ⟨0x7F, 0, []⟩

/-! ## Pulses and versions (Tables 5-1 and 11-8) -/

/-- The beginning of a pulse interval in half ticks of its burst (R67). -/
def Pulse.begins (x : Pulse) : Nat := 2 * x.start

/-- The end of a pulse interval in half ticks of its burst (R67). -/
def Pulse.ends (x : Pulse) : Nat := 2 * (x.start + x.width) + (if x.fine then 1 else 0)

/-- R69: same output, and each interval begins before the other ends. -/
def Pulse.overlaps (x y : Pulse) : Bool :=
  x.output == y.output && decide (x.begins < y.ends) && decide (y.begins < x.ends)

/-- R68: the largest pulse interval end. -/
def programEndOf (pulses : List Pulse) : Nat := pulses.foldl (fun e x => max e x.ends) 0

/-- R70, check 2: pulse `k` of a PROGRAM_WRITE payload, or none where a field is out of range or an unnamed flag is set. -/
def pulseAt (p : List Byte) (k : Nat) : Option Pulse :=
  let start := u16 p (3 + 6 * k)
  let width := u16 p (5 + 6 * k)
  let flags := u8 p (7 + 6 * k)
  match index? 12 (u8 p (2 + 6 * k)) with
  | none => none
  | some o =>
    if start ≤ 65534 ∧ 1 ≤ width ∧ start + width ≤ 65535 ∧ flags ≤ 1 then some ⟨o, start, width, flags == 1⟩ else none

/-- A pulse as PROGRAM_READ returns it. -/
def Pulse.bytes (x : Pulse) : List Byte :=
  le1 x.output.val ++ le2 x.start ++ le2 x.width ++ [flagByte x.fine]

/-! ## Frame lists and outcome records (Table 11-9) -/

def FrameEntry.bytes (e : FrameEntry) : List Byte := le1 e.camera.val ++ le32 e.number

/-- A frame list in its 20 bytes, unused entries 0. -/
def frameListBytes (fs : List FrameEntry) : List Byte :=
  let b := (fs.take 4).flatMap FrameEntry.bytes
  b ++ zeros (20 - b.length)

/-- Table 11-9; the bits of the flags byte that it does not name read 0 (log entry 31). -/
def OutcomeRecord.bytes (r : OutcomeRecord) : List Byte :=
  le1 r.handle.val ++ [r.generation] ++ le32 r.label ++ le1 r.lane.val ++ [r.code.code]
    ++ le1 ((if r.amended then 1 else 0) + (if r.collided then 2 else 0))
    ++ le32 r.trigger ++ le32 r.fireTime ++ le1 r.confirmed ++ le1 r.lost ++ le1 r.frames.length ++ frameListBytes r.frames

/-! ## SUBMIT entries (Table 11-7) -/

/-- One entry as carried: an absolute trigger, or a delta under REL16. -/
structure Entry where
  position : Nat
  program : Nat
  label : BitVec 32
  flags : Nat
  burstCount : Nat
  burstGap : Nat
  deriving DecidableEq, Repr

/-- Entry `k` under ABS32 (13 bytes each). -/
def absEntryAt (p : List Byte) (k : Nat) : Entry :=
  let o := 3 + 13 * k
  ⟨u32 p o, u8 p (o + 4), w32 p (o + 5), u8 p (o + 9), u8 p (o + 10), u16 p (o + 11)⟩

/-- Entry `k` under REL16 (11 bytes each). -/
def relEntryAt (p : List Byte) (k : Nat) : Entry :=
  let o := 3 + 11 * k
  ⟨u16 p o, u8 p (o + 2), w32 p (o + 3), u8 p (o + 7), u8 p (o + 8), u16 p (o + 9)⟩

end Sys2Proof.Machine
end

