-- ==== Sys2Proof/Machine/Flags.lean ====
section
/-! DEFINITION. The flags: latched and report-enable flags of the alarm set, the flags the manual derives from other state
(held, active, pin level, level condition, detection), and edges of pins. -/

namespace Sys2Proof.Machine

/-! ## Edges -/

/-- Whether a change to `level` is an edge the frame-start edge selects (R118). -/
def FrameEdge.selects : FrameEdge → Level → Bool
  | .rise, .high => true
  | .fall, .low => true
  | _, _ => false

/-- Whether a change to `level` is an edge the edge selection names (R7). -/
def EdgeSelection.selects : EdgeSelection → Level → Bool
  | .rise, .high => true
  | .fall, .low => true
  | .both, _ => true
  | _, _ => false

/-- Whether a change to `level` is the index edge (R10). -/
def IndexEdge.selects : IndexEdge → Level → Bool
  | .rise, .high => true
  | .fall, .low => true
  | _, _ => false

/-! ## Safe-stop inputs (R134) -/

/-- Whether a change of the pin to `level` is a detection event. -/
def Detection.detects : Detection → Level → Bool
  | .rise, .high => true
  | .fall, .low => true
  | .both, _ => true
  | .low, .low => true
  | .high, .high => true
  | _, _ => false

/-- Whether the input is showing its level condition with the pin at `level`. -/
def Detection.showing : Detection → Level → Bool
  | .low, .low => true
  | .high, .high => true
  | _, _ => false

/-- Whether some safe input whose hold is ON has output `o` in its group (Table 7-1, held). -/
def State.outputHeld (s : State) (o : OutputId) : Bool :=
  s.safes.toList.any (fun x => x.hold && x.group.getLsbD o.val)

/-- Whether some safe input whose hold is ON has lane `l` in its binding (R26). -/
def State.laneHeld (s : State) (l : LaneId) : Bool :=
  s.safes.toList.any (fun x => x.hold && x.binding.getLsbD l.val)

/-! ## Outputs (R104, R105) -/

/-- The run slots among the holders of an output: those whose run holds it (section 7.1). -/
def State.holders (s : State) (o : OutputId) : List RunSlotId :=
  (List.finRange 6).filter (fun k => match s.runs[k] with
    | some r => r.held.getLsbD o.val
    | none => false)

/-- R105. -/
def State.outputActive (s : State) (o : OutputId) : Bool :=
  let x := s.outputs[o]
  !s.outputHeld o && match x.mode with
    | .staticMode => x.level == .active
    | .pulseMode => !(s.holders o).isEmpty

/-- R104: the pin through the polarity; low while RSTN is low. -/
def State.pinLevel (s : State) (o : OutputId) : Level :=
  if s.phase = .coldReset then .low
  else match s.outputs[o].polarity, s.outputActive o with
    | .activeHigh, true => .high
    | .activeHigh, false => .low
    | .activeLow, true => .low
    | .activeLow, false => .high

/-! ## Alarms (R150, R152, R155) -/

/-- The set that holds one alarm. -/
def Alarm.mask (a : Alarm) : BitVec 16 := BitVec.ofNat 16 (2 ^ a.number)

def AlarmSet.isLatched (x : AlarmSet) (a : Alarm) : Bool := x.latched.getLsbD a.number

def AlarmSet.isEnabled (x : AlarmSet) (a : Alarm) : Bool := x.enabled.getLsbD a.number

/-- The SAFE alarms whose input's hold is ON: no clear reaches them (R152, R155). -/
def State.heldAlarms (s : State) : BitVec 16 :=
  (if s.safes[0].hold then (Alarm.safe 0).mask else 0) ||| (if s.safes[1].hold then (Alarm.safe 1).mask else 0)

end Sys2Proof.Machine
end

