-- ==== Sys2Proof/Machine/Ops.lean ====
section
/-! DEFINITION. The named operations over the state that the families share: writing one unit, queueing reports, latching an
alarm, ending a shot, reference counts, positions, halting a lane. -/

namespace Sys2Proof.Machine

/-! ## Writing one unit -/

def State.setEncoder (s : State) (n : EncoderId) (x : Encoder) : State := { s with encoders := s.encoders.set n x }
def State.setPacer (s : State) (n : PacerId) (x : Pacer) : State := { s with pacers := s.pacers.set n x }
def State.setLane (s : State) (l : LaneId) (x : Lane) : State := { s with lanes := s.lanes.set l x }
def State.setSlot (s : State) (h : Handle) (x : Slot) : State := { s with slots := s.slots.set h x }
def State.setProgram (s : State) (i : ProgramId) (x : Program) : State := { s with programs := s.programs.set i x }
def State.setRun (s : State) (k : RunSlotId) (x : Option Run) : State := { s with runs := s.runs.set k x }
def State.setOutput (s : State) (o : OutputId) (x : Output) : State := { s with outputs := s.outputs.set o x }
def State.setCamera (s : State) (c : CameraId) (x : Camera) : State := { s with cameras := s.cameras.set c x }
def State.setSafe (s : State) (n : SafeId) (x : SafeInput) : State := { s with safes := s.safes.set n x }
def State.setLink (s : State) (x : Link) : State := { s with link := x }
def State.setAlarms (s : State) (x : AlarmSet) : State := { s with alarms := x }
def State.setOutcomes (s : State) (x : List OutcomeRecord) : State := { s with outcomes := x }

/-- Changes the shot in a slot, where there is one. -/
def State.mapShot (s : State) (h : Handle) (f : Shot → Shot) : State :=
  s.setSlot h { s.slots[h] with shot := s.slots[h].shot.map f }

/-! ## Reports and alarms -/

/-- R163: a report joins the report queue, or is dropped when the queue holds 8. -/
def Link.queueReport (x : Link) (r : Report) : Link :=
  if x.reports.length < Config.reportPlaces then { x with reports := x.reports ++ [r] } else x

/-- A report is queued; between a reset and START it waits to follow START (R155, R167). -/
def State.queueReport (s : State) (r : Report) : State :=
  match s.phase with
  | .running => s.setLink (s.link.queueReport r)
  | _ => s.setLink { s.link with deferred := s.link.deferred ++ [r] }

/-- R150: an occurrence of an alarm's cause. -/
def State.latch (s : State) (a : Alarm) : State :=
  if s.alarms.isLatched a then s
  else
    let latched := s.alarms.latched ||| a.mask
    let t := s.setAlarms { s.alarms with latched := latched }
    if s.alarms.isEnabled a then t.queueReport (.alarm a latched) else t

/-! ## Outcomes -/

/-- R145, R146: a record is appended, with OUTCOME_READY when the queue leaves empty, or dropped when the queue holds 64. -/
def State.appendOutcome (s : State) (r : OutcomeRecord) : State :=
  if s.outcomes.length < Config.outcomeDepth then
    let t := s.setOutcomes (s.outcomes ++ [r])
    if s.outcomes.isEmpty then t.queueReport .outcomeReady else t
  else s.latch .outcomeOverflow

/-- R34: the outcome record of the shot in slot `h` as it ends with `code`. -/
def outcomeOf (h : Handle) (generation : BitVec 8) (sh : Shot) (code : OutcomeCode) : OutcomeRecord where
  handle := h
  generation := generation
  label := sh.label
  lane := sh.lane
  code := code
  amended := sh.amended
  collided := sh.collided
  trigger := sh.trigger
  fireTime := sh.fireTime.getD 0
  confirmed := sh.confirmed
  lost := sh.lost
  frames := sh.frames

/-- R34: the shot in slot `h` ends with `code`: the slot becomes FREE and the record goes to the outcome queue. -/
def State.endShot (s : State) (h : Handle) (code : OutcomeCode) : State :=
  match s.slots[h].shot with
  | none => s
  | some sh =>
    (s.setSlot h { s.slots[h] with shot := none }).appendOutcome (outcomeOf h s.slots[h].generation sh code)

/-- The code of a fired shot with outstanding count 0 (R94, R97, R127). -/
def Shot.endCode (sh : Shot) : OutcomeCode :=
  if sh.aborted then .aborted else if sh.lost > 0 then .frameLost else .done

/-! ## Reference counts (R38) -/

def State.incRef (s : State) (i : ProgramId) : State :=
  s.setProgram i { s.programs[i] with refCount := s.programs[i].refCount + 1 }

def State.decRef (s : State) (i : ProgramId) : State :=
  s.setProgram i { s.programs[i] with refCount := s.programs[i].refCount - 1 }

/-- The reference count falls for the program a waiting shot names, as the shot leaves its queue. -/
def State.dropRef (s : State) (h : Handle) : State :=
  match s.slots[h].shot with
  | none => s
  | some sh => s.decRef sh.program

/-! ## Positions (00_scope.md 5.3, R20) -/

/-- The ahead-distance from a to b. -/
def ahead (a b : Position) : Nat := (b - a).toNat

def State.sourcePosition (s : State) : Source → Position
  | .enc0 => s.encoders[0].position
  | .enc1 => s.encoders[1].position
  | .pac0 => s.pacers[0].position
  | .pac1 => s.pacers[1].position

/-- R20. -/
def State.lanePosition (s : State) (l : LaneId) : Position :=
  let c := s.lanes[l].settings
  match c.direction with
  | .same => c.offset + s.sourcePosition c.source
  | .opposite => c.offset - s.sourcePosition c.source

/-- Section 2.3: the ahead-distance from the lane position to the mark. -/
def State.lag (s : State) (l : LaneId) : Nat := ahead (s.lanePosition l) s.lanes[l].mark

/-- Whether a lane outside OFF names the source (R11, R15). -/
def State.sourceInUse (s : State) (src : Source) : Bool :=
  s.lanes.toList.any (fun x => x.settings.source == src && x.state != .off)

/-- The lanes, in order. -/
def allLanes : List LaneId := List.finRange 4

/-- R29: an ARMED or PAUSED lane enters HALTED, an OFF or HALTED lane is left as it is. -/
def State.haltLane (s : State) (l : LaneId) : State :=
  match s.lanes[l].state with
  | .armed | .paused => s.setLane l { s.lanes[l] with state := .halted }
  | .off | .halted => s

/-- Every lane of a binding is halted. -/
def State.haltLanes (s : State) (binding : BitVec 4) : State :=
  (allLanes.filter (fun l => binding.getLsbD l.val)).foldl State.haltLane s

/-! ## The free choices -/

/-- A permutation drawn from the free value: every order of the list is possible, and none is said. -/
def shuffle {α : Type} (n : Nat) : List α → List α
  | [] => []
  | x :: xs => (shuffle (n + 1) xs).insertIdx (Config.arbitration n % ((shuffle (n + 1) xs).length + 1)) x

/-- An order for the items; one item, or none, needs no choice. -/
def anyOrder {α : Type} (n : Nat) : List α → List α
  | [] => []
  | [x] => [x]
  | x :: y :: rest => shuffle n (x :: y :: rest)

end Sys2Proof.Machine
end

