-- ==== Sys2Proof/Machine/Link.lean ====
section
/-! DEFINITION. The control link (Chapter 11): how a request is taken and answered, the receiver, the transmitter. -/

namespace Sys2Proof.Machine

/-! ## The transmitter (R163, R164) -/

/-- R167: START is the oldest report; every reply and every other report follows it. -/
def Link.startWaits (x : Link) : Bool :=
  match x.reports with
  | .start _ _ :: _ => true
  | _ => false

/-- The transmitter begins the oldest report, where one waits. -/
def Link.beginReport (x : Link) : Link :=
  match x.reports with
  | r :: rest => { x with reports := rest, tx := some r.frame, txTimer := 0 }
  | [] => x

/-- The frame an idle transmitter chooses: START where it waits (R167), else the oldest reply, or else the oldest report (R164). -/
def Link.begin (x : Link) : Link :=
  match x.tx with
  | some _ => x
  | none =>
    if x.startWaits then x.beginReport
    else
      match x.replies with
      | f :: rest => { x with replies := rest, tx := some f, txTimer := 0 }
      | [] => x.beginReport

/-- The end of an event: an idle transmitter begins a frame if one waits. -/
def State.beginTx (s : State) : State := s.setLink s.link.begin

/-- A next state, at the end of an event. -/
def done (s : State) : Host.Outcome State Fault Refusal := .next s.beginTx

/-- Half ticks a frame of `bytes` bytes takes at `rate` bits per second exactly, as a fraction's numerator (10 bits a byte,
40,000,000 half ticks a second; R157). -/
def lineTime (bytes : Nat) : Nat := bytes * 10 * 40000000

/-- The bit rate of a strap code (R157). -/
def bitRate (baud : BitVec 2) : Nat :=
  match baud.toNat with
  | 0 => 115200
  | 1 => 460800
  | 2 => 1000000
  | _ => 3000000

/-- The shortest time a frame can take: 1 % above the rate (section 11.11 note 1). -/
def frameTimeMin (baud : BitVec 2) (bytes : Nat) : Nat := lineTime bytes * 99 / (bitRate baud * 100)

/-- The longest time a frame can take. -/
def frameTimeMax (baud : BitVec 2) (bytes : Nat) : Nat := lineTime bytes * 101 / (bitRate baud * 100) + 1

/-- The time the part takes: the free value within its bounds. -/
def frameTime (baud : BitVec 2) (bytes : Nat) : Nat :=
  max (frameTimeMin baud bytes) (min (frameTimeMax baud bytes) (Config.frameTime baud bytes))

/-- R164: the transmitter can have finished its frame. -/
def Link.txDue (x : Link) : Bool :=
  match x.tx with
  | none => false
  | some f => decide (frameTimeMin x.baud f.lineBytes ≤ x.txTimer)

/-- TRANSMIT_FRAME_END: the frame is out and the transmitter chooses the next (R164). -/
def execTransmitFrameEnd (s : State) : Host.Outcome State Fault Refusal :=
  if s.link.txDue then done (s.setLink { s.link with tx := none, txTimer := 0 }) else .next s

/-! ## Taking requests (R161, R162) -/

/-- R162: the KIND of the reply to a request KIND. -/
def replyKind (kind : Byte) : Byte := kind ||| 0x80

/-- A reply joins the reply buffer (R163). -/
def State.queueReply (s : State) (kind tag : Byte) (payload : List Byte) : State :=
  s.setLink { s.link with replies := s.link.replies ++ [⟨replyKind kind, tag, payload⟩] }

/-- The unlock flag is closed at the taking of any request (R137). -/
def State.closeUnlock (s : State) : State := { s with unlock := false }

/-- What a request's rule does: the state after it, and its reply payload from the status byte on. -/
structure Answer where
  state : State
  reply : List Byte

/-- R161: the taking of a request of a known KIND. The body is given the unlock flag as noted. -/
def takeRequest (kind tag : Byte) (lengthOk : Bool) (body : (noted : Bool) → State → Answer) (s : State) : State :=
  let noted := s.unlock
  let t := s.closeUnlock
  if lengthOk then
    let a := body noted t
    a.state.queueReply kind tag a.reply
  else t.queueReply kind tag (refusedWith .badLength [])

/-- A frame joins the receive buffer, or is lost with LINK_OVERRUN when the buffer holds 4 (R160). -/
def State.joinReceiveBuffer (s : State) (f : Frame) : State :=
  if s.link.rxBuffer.length < Config.receiveFrames then s.setLink { s.link with rxBuffer := s.link.rxBuffer ++ [f] }
  else s.latch .linkOverrun

/-- A complete, good frame comes in: it is taken at once when no frame waits before it and a reply place is free (R161), else
it waits in the receive buffer. Outside service it is lost without a reply (R166, R167). -/
def arrive (f : Frame) (take : State → State) (s : State) : Host.Outcome State Fault Refusal :=
  match s.phase with
  | .running =>
    if s.link.rxBuffer.isEmpty && decide (s.link.replies.length < Config.replyPlaces) then done (take s)
    else done (s.joinReceiveBuffer f)
  | _ => .next s

/-! ## The receiver (R157 to R160) -/

/-- R160: a frame is complete, its CRC bytes being `low` and `high`. -/
def State.frameComplete (s : State) (f : Frame) (low high : Byte) : State :=
  if crcBytes f.covered = [low, high] then s.joinReceiveBuffer f else s.latch .linkError

/-- The receiver's next state for a byte, with the gap timer started anew (R159). -/
def State.rxGo (s : State) (x : RxState) : State := s.setLink { s.link with rx := x, gapTimer := 0 }

/-- Table 11-1. -/
def State.takeByte (s : State) (b : Byte) : State :=
  match s.link.rx with
  | .hunt => if b = syncByte then s.rxGo .len else s
  | .len => if b.toNat ≤ Config.largestPayload then s.rxGo (.kind b) else (s.rxGo .hunt).latch .linkError
  | .kind n => s.rxGo (.tag n b)
  | .tag n k => if n = 0 then s.rxGo (.crcLow n k b []) else s.rxGo (.payload n k b [])
  | .payload n k t got =>
    if got.length + 1 < n.toNat then s.rxGo (.payload n k t (got ++ [b])) else s.rxGo (.crcLow n k t (got ++ [b]))
  | .crcLow n k t got => s.rxGo (.crcHigh n k t got b)
  | .crcHigh _ k t got low => (s.rxGo .hunt).frameComplete ⟨k, t, got⟩ low b

/-- R159: the start bit of a byte comes: the gap is over, unless the receiver is not looking for one. -/
def startBitComes (s : State) : Host.Outcome State Fault Refusal :=
  match s.phase with
  | .running => if s.link.waitHigh then .next s else .next (s.setLink { s.link with receiving := true })
  | _ => .next s

/-- R157, R158: a byte is taken. Before START it is discarded (R166, R167); after a byte whose stop bit read low no byte is taken
until RXD returns high. -/
def byteTaken (b : Byte) (stop : Level) (s : State) : Host.Outcome State Fault Refusal :=
  match s.phase with
  | .coldReset => .next s
  | .starting _ =>
    if s.link.waitHigh then .next s else .next (s.setLink { s.link with waitHigh := stop == .low })
  | .running =>
    if s.link.waitHigh then .next s
    else done ((s.setLink { s.link with waitHigh := stop == .low, receiving := false }).takeByte b)

/-- RX_BYTE (R157 to R159). -/
def execRxByte (b : Byte) (m : RxdMoment) (s : State) : Host.Outcome State Fault Refusal :=
  match m with
  | .startBit => startBitComes s
  | .taken stop => byteTaken b stop s

/-- RXD_RETURN_HIGH (R157). -/
def execRxdReturnHigh (s : State) : Host.Outcome State Fault Refusal := .next (s.setLink { s.link with waitHigh := false })

/-! ## The gap timer (R159) -/

/-- The shortest half bit: 1 % above the rate (section 11.11 note 1). -/
def stopBitRestMin (baud : BitVec 2) : Nat := 20000000 * 99 / (bitRate baud * 100)

/-- The longest half bit. -/
def stopBitRestMax (baud : BitVec 2) : Nat := 20000000 * 101 / (bitRate baud * 100) + 1

/-- Half ticks from the taking of a byte, in the middle of its stop bit, to the end of it: the free value within its bounds. -/
def stopBitRest (baud : BitVec 2) : Nat := max (stopBitRestMin baud) (min (stopBitRestMax baud) (Config.stopBitRest baud))

/-- R159: a frame is in assembly, and 1 ms has passed since the end of the stop bit of its last byte without a start bit. -/
def Link.gapDue (x : Link) : Bool :=
  x.rx != .hunt && !x.receiving && decide (Config.gapHalfTicks + stopBitRest x.baud ≤ x.gapTimer)

/-- GAP_TIMEOUT (R159). -/
def execGapTimeout (s : State) : Host.Outcome State Fault Refusal :=
  if s.link.gapDue then done ((s.rxGo .hunt).latch .linkError) else .next s

end Sys2Proof.Machine
end

