-- ==== Sys2Proof/Machine/Engine.lean ====
section
/-! DEFINITION. The pulse engine (Chapter 6) with what it hands to the output stage (Chapter 7) and the camera channels
(Chapter 8): the fire attempt, the run's events, completion and abort. -/

namespace Sys2Proof.Machine

/-! ## Places and readiness (R90, R122) -/

/-- The reserved places of the runs in flight on a camera. -/
def State.reservedOn (s : State) (c : CameraId) : Nat :=
  (s.runs.toList.map (fun r => match r with
    | some x => x.reserved[c]
    | none => 0)).sum

/-- R122: 8 minus the entries minus the reserved places. -/
def State.freePlaces (s : State) (c : CameraId) : Nat :=
  Config.expectationDepth - s.cameras[c].queue.length - s.reservedOn c

/-- The pulses of a list that name TRGn. -/
def trgPulses (pulses : List Pulse) (c : CameraId) : List Pulse := pulses.filter (fun x => x.output.val == c.val)

/-- R87: the demand on a camera. -/
def demandOn (pulses : List Pulse) (burstCount : Nat) (c : CameraId) : Nat := (trgPulses pulses c).length * burstCount

/-- R87: the smallest start among the TRGn pulses, in ticks; none where no pulse names TRGn. -/
def firstStart (pulses : List Pulse) (c : CameraId) : Option Nat := ((trgPulses pulses c).map Pulse.start).min?

/-- R122: the three conditions. -/
def State.cameraReady (s : State) (c : CameraId) (demand first : Nat) : Bool :=
  let x := s.cameras[c]
  x.settle == 0
    && (x.lastTrigger.isNone || decide (x.settings.minInterval ≤ x.elapsed + first))
    && (!x.settings.confirm || decide (demand ≤ s.freePlaces c))

/-- The camera channels. -/
def allCameras : List CameraId := List.finRange 4

/-- R84 check 3, R87: every camera a pulse of the version triggers is ready. -/
def State.camerasReady (s : State) (pulses : List Pulse) (burstCount : Nat) : Bool :=
  allCameras.all (fun c => match firstStart pulses c with
    | none => true
    | some first => s.cameraReady c (demandOn pulses burstCount c) first)

/-- R85: no output the pulses name is held by a safe hold. -/
def State.noneHeld (s : State) (pulses : List Pulse) : Bool := pulses.all (fun x => !s.outputHeld x.output)

/-- The run slots, in order. -/
def allRunSlots : List RunSlotId := List.finRange 6

/-- R86: the lowest-numbered FREE run slot. -/
def State.freeRunSlot (s : State) : Option RunSlotId := allRunSlots.find? (fun k => (s.runs[k]).isNone)

/-! ## Runs (R91) -/

/-- Table 6-1: the run length in half ticks. -/
def Run.length (r : Run) : Nat := (r.burstCount - 1) * (r.programEnd + 2 * r.burstGap) + r.programEnd

/-- The run position at which burst `b` starts. -/
def Run.burstStart (r : Run) (b : Nat) : Nat := b * (r.programEnd + 2 * r.burstGap)

/-- The captured pulses with their indices. -/
def Run.indexed (r : Run) : List (Pulse × Nat) := r.pulses.zipIdx

/-- The pulses of the burst in progress that start at the run position. -/
def Run.starting (r : Run) : List (Pulse × Nat) :=
  r.indexed.filter (fun x => r.position == r.burstStart r.burstIndex + x.1.begins)

/-- The pulses of the burst in progress that end at the run position and were not skipped (R93). -/
def Run.ending (r : Run) : List (Pulse × Nat) :=
  r.indexed.filter (fun x => r.position == r.burstStart r.burstIndex + x.1.ends && !r.skipped.getLsbD x.2)

/-- The burst in progress ends at the run position. -/
def Run.atBurstEnd (r : Run) : Bool := r.position == r.burstStart r.burstIndex + r.programEnd

/-- R93: at the end of a burst the skipped pulses are emptied, and the burst index rises where another burst follows. -/
def Run.turnBurst (r : Run) : Run :=
  if r.atBurstEnd then
    { r with skipped := 0, burstIndex := if r.burstIndex + 1 < r.burstCount then r.burstIndex + 1 else r.burstIndex }
  else r

/-- A pulse starts at the run position: of this burst, or of the next where it starts at once. -/
def Run.startDue (r : Run) : Bool := !r.eventDone && !r.turnBurst.starting.isEmpty

/-- A pulse interval ends at the run position; a skipped one counts, though nothing happens at its end (R93). -/
def Run.endDue (r : Run) : Bool :=
  !r.eventDone && (r.atBurstEnd || r.indexed.any (fun x => r.position == r.burstStart r.burstIndex + x.1.ends))

/-- R94. -/
def Run.completionDue (r : Run) : Bool := !r.eventDone && r.position == r.length

/-! ## Pulse starts (R92, R106, R107, R109, R119, R120) -/

/-- The bit of an output in a set of outputs. -/
def outputBit (o : OutputId) : BitVec 12 := BitVec.ofNat 12 (2 ^ o.val)

/-- The bit of a pulse index in a set of pulse indices. -/
def pulseBit (i : Nat) : BitVec 8 := BitVec.ofNat 8 (2 ^ i)

/-- The camera a TRG output pairs with. -/
def cameraOf (o : OutputId) : Option CameraId := index? 4 o.val

/-- One reserved place is given up. -/
def Run.giveUp (r : Run) (c : CameraId) : Run := { r with reserved := r.reserved.set c (r.reserved[c] - 1) }

/-- R92: a pulse on a STATIC output is skipped; a reserved place of its camera is given up. -/
def Run.skipPulse (r : Run) (o : OutputId) (i : Nat) : Run :=
  let r := { r with skipped := r.skipped ||| pulseBit i }
  match cameraOf o with
  | none => r
  | some c => r.giveUp c

/-- R107: the shots of the run in slot `k` and of every other holder take the collided flag, and COLLISION latches. -/
def State.markCollision (s : State) (k : RunSlotId) (others : List RunSlotId) : State :=
  ((k :: others).foldl (fun t j => match t.runs[j] with
    | some r => t.mapShot r.handle (fun sh => { sh with collided := true })
    | none => t) s).latch .collision

/-- R119: the channel records its last trigger start. -/
def Camera.triggered (x : Camera) (t : Timestamp) : Camera := { x with lastTrigger := some t, elapsed := 0 }

/-- R120: the expectation of a pulse start. -/
def Camera.push (x : Camera) (h : Handle) (t : Timestamp) : Camera :=
  { x with queue := x.queue ++ [⟨h, t, t + BitVec.ofNat 32 x.settings.window⟩] }

/-- R92: the pulse start timestamp, a half tick dropped. -/
def Run.pulseStartTime (r : Run) : Timestamp := r.fireTime + BitVec.ofNat 32 (r.position / 2)

/-- R109, R119, R120: the camera is told of the pulse start of run `r` in slot `k`. -/
def State.handTrigger (s : State) (k : RunSlotId) (r : Run) (c : CameraId) : State :=
  let x := s.cameras[c].triggered r.pulseStartTime
  if r.reserved[c] = 0 then s.setCamera c x
  else
    ((s.setRun k (some (r.giveUp c))).setCamera c (x.push r.handle r.pulseStartTime)).mapShot r.handle
      (fun sh => { sh with outstanding := sh.outstanding + 1 })

/-- A pulse start of the run in slot `k` (R92). -/
def State.startPulse (k : RunSlotId) (s : State) (x : Pulse × Nat) : State :=
  match s.runs[k] with
  | none => s
  | some r =>
    let o := x.1.output
    match s.outputs[o].mode with
    | .staticMode => s.setRun k (some (r.skipPulse o x.2))
    | .pulseMode =>
      let others := (s.holders o).filter (fun j => j != k)
      let s := if others.isEmpty then s else s.markCollision k others
      let r := { r with held := r.held ||| outputBit o }
      let s := s.setRun k (some r)
      match cameraOf o with
      | none => s
      | some c => s.handTrigger k r c

/-! ## The end of a run (R94, R97) -/

/-- A fired shot whose run is over: it ends where nothing is outstanding, else it awaits its cameras. -/
def State.leaveFiring (s : State) (h : Handle) : State :=
  match s.slots[h].shot with
  | none => s
  | some sh =>
    if sh.outstanding = 0 then s.endShot h sh.endCode
    else s.mapShot h (fun x => { x with phase := .awaiting })

/-- R94: the run slot becomes FREE, its holds and places with it, and the shot leaves FIRING. -/
def State.completeRun (s : State) (k : RunSlotId) (r : Run) : State :=
  ((s.setRun k none).mapShot r.handle (fun sh => { sh with runSlot := none })).leaveFiring r.handle

/-- R97: the abort of the run in slot `k`. -/
def State.abortRun (s : State) (k : RunSlotId) : State :=
  match s.runs[k] with
  | none => s
  | some r =>
    ((s.setRun k none).mapShot r.handle (fun sh => { sh with runSlot := none, aborted := true })).leaveFiring r.handle

/-- Whether a run names an output of a set in any of its captured pulses (R97). -/
def Run.names (r : Run) (outputs : BitVec 12) : Bool := r.pulses.any (fun x => outputs.getLsbD x.output.val)

/-- R97, R98, R145: every run that names an output of the set is aborted, in ascending order of the run slots. -/
def State.abortNaming (s : State) (outputs : BitVec 12) : State :=
  (allRunSlots.filter (fun k => match s.runs[k] with
    | some r => r.names outputs
    | none => false)).foldl State.abortRun s

/-! ## The event of a run (R92 to R94) -/

/-- The outputs of the pulses that end now leave the held outputs. -/
def Run.release (r : Run) : Run :=
  { r with held := r.ending.foldl (fun m x => m &&& ~~~ outputBit x.1.output) r.held }

/-- R92 to R94: all pulse ends and pulse starts of the run at its position, and its completion, are one event. -/
def State.runEvent (s : State) (k : RunSlotId) : State :=
  match s.runs[k] with
  | none => s
  | some r =>
    let completes := r.completionDue
    let r := { r.release.turnBurst with eventDone := true }
    let s := s.setRun k (some r)
    if completes then s.completeRun k r else r.starting.foldl (State.startPulse k) s

/-- PULSE_START (R92). -/
def execPulseStart (k : RunSlotId) (s : State) : Host.Outcome State Fault Refusal :=
  match s.runs[k] with
  | none => .next s
  | some r => if r.startDue then done (s.runEvent k) else .next s

/-- PULSE_END (R93). -/
def execPulseEnd (k : RunSlotId) (s : State) : Host.Outcome State Fault Refusal :=
  match s.runs[k] with
  | none => .next s
  | some r => if r.endDue then done (s.runEvent k) else .next s

/-- RUN_COMPLETION (R94). -/
def execRunCompletion (k : RunSlotId) (s : State) : Host.Outcome State Fault Refusal :=
  match s.runs[k] with
  | none => .next s
  | some r => if r.completionDue then done (s.runEvent k) else .next s

/-! ## The fire attempt (R84 to R89) -/

/-- The version a fire attempt is handed. Every waiting shot names a DEFINED program (R38); see log entry 22 for EMPTY. -/
def State.activeVersion (s : State) (i : ProgramId) : Version := (s.programs[i].active).getD ⟨[], 0⟩

/-- The burst count of a shot: 1 when the burst is absent. -/
def Shot.burstCount (sh : Shot) : Nat := (sh.burst.map Burst.count).getD 1

/-- The burst gap of a shot: 0 when the burst is absent. -/
def Shot.burstGap (sh : Shot) : Nat := (sh.burst.map Burst.gap).getD 0

/-- R88 step 3: the places a fire reserves. -/
def State.reservations (s : State) (pulses : List Pulse) (burstCount : Nat) : Vector Nat 4 :=
  Vector.ofFn (fun c : CameraId => if s.cameras[c].settings.confirm then demandOn pulses burstCount c else 0)

/-- R88 step 2: the run record of a fire. -/
def State.newRun (s : State) (h : Handle) (sh : Shot) (v : Version) : Run where
  handle := h
  fireTime := s.timestamp
  pulses := v.pulses
  programEnd := v.programEnd
  burstCount := sh.burstCount
  burstGap := sh.burstGap
  burstIndex := 0
  position := 0
  held := 0
  skipped := 0
  reserved := s.reservations v.pulses sh.burstCount
  eventDone := true

/-- R88: the fire of shot `h` into run slot `k`. -/
def State.fire (s : State) (k : RunSlotId) (h : Handle) (sh : Shot) (v : Version) : State :=
  let r := s.newRun h sh v
  let s := (s.setRun k (some r)).mapShot h
    (fun x => { x with phase := .firing, fireTime := some s.timestamp, runSlot := some k })
  r.starting.foldl (State.startPulse k) s

/-- R84: the three checks in their order, then the fire. The shot has left its queue. -/
def State.fireAttempt (s : State) (h : Handle) : State :=
  match s.slots[h].shot with
  | none => s
  | some sh =>
    let v := s.activeVersion sh.program
    if !s.noneHeld v.pulses then s.endShot h .blocked
    else
      match s.freeRunSlot with
      | none => s.endShot h .noEngine
      | some k => if s.camerasReady v.pulses sh.burstCount then s.fire k h sh v else s.endShot h .cameraBusy

end Sys2Proof.Machine
end

