-- ==== Sys2Proof/Machine/Cameras.lean ====
section
/-! DEFINITION. Camera channels and frame confirmation (Chapter 8): frame starts, deadline expiry and the camera requests. -/

namespace Sys2Proof.Machine

/-! ## Resolutions (R123 to R127) -/

/-- R127: an AWAITING shot with nothing outstanding ends. -/
def State.endIfResolved (s : State) (h : Handle) : State :=
  match s.slots[h].shot with
  | none => s
  | some sh => if sh.phase = .awaiting ∧ sh.outstanding = 0 then s.endShot h sh.endCode else s

/-- R123, R124: a shot's expectation is confirmed by frame `number` of camera `c`. -/
def Shot.confirmedBy (sh : Shot) (c : CameraId) (number : BitVec 32) : Shot :=
  { sh with confirmed := sh.confirmed + 1, outstanding := sh.outstanding - 1,
            frames := if sh.frames.length < Config.framesPerShot then sh.frames ++ [⟨c, number⟩] else sh.frames }

/-- R126: a shot's expectation is lost. -/
def Shot.lostOne (sh : Shot) : Shot := { sh with lost := sh.lost + 1, outstanding := sh.outstanding - 1 }

/-- R118, R123: a frame start of camera `c`. -/
def State.frameStarted (s : State) (c : CameraId) : State :=
  let x := s.cameras[c]
  let x := { x with counter := x.counter + 1 }
  if 0 < x.settle then s.setCamera c { x with settle := x.settle - 1 }
  else if x.settings.confirm then
    match x.queue with
    | [] => (s.setCamera c x).latch (.stray c)
    | e :: rest =>
      ((s.setCamera c { x with queue := rest }).mapShot e.handle (fun sh => sh.confirmedBy c x.counter)).endIfResolved e.handle
  else s.setCamera c x

/-- FRAME_START (R118): pin FSn changes to `level`. A level the pin has already is no edge; outside service, edges are not
taken (R133). -/
def execFrameStart (c : CameraId) (level : Level) (s : State) : Host.Outcome State Fault Refusal :=
  let x := s.cameras[c]
  if x.fs = level then .next s
  else
    let t := s.setCamera c { x with fs := level }
    match s.phase with
    | .running => if x.settings.edge.selects level then done (t.frameStarted c) else .next t
    | _ => .next t

/-- R121, R126: the timestamp has reached the deadline of the oldest entry. -/
def Camera.deadlineDue (x : Camera) (now : Timestamp) : Bool :=
  match x.queue with
  | [] => false
  | e :: _ => decide (ahead e.pulseStart e.deadline ≤ ahead e.pulseStart now)

/-- R126: the oldest entry is removed as lost. -/
def State.expireOldest (s : State) (c : CameraId) : State :=
  let x := s.cameras[c]
  match x.queue with
  | [] => s
  | e :: rest => ((s.setCamera c { x with queue := rest }).mapShot e.handle Shot.lostOne).endIfResolved e.handle

/-- DEADLINE_EXPIRY (R126). -/
def execDeadlineExpiry (c : CameraId) (s : State) : Host.Outcome State Fault Refusal :=
  if s.cameras[c].deadlineDue s.timestamp then done (s.expireOldest c) else .next s

/-! ## CAMERA_SET (R130) -/

/-- R130 checks 1 and 2 but for the camera number: the settings a payload carries. -/
def cameraSettingsAt (p : List Byte) : Option CameraSettings :=
  let window := u32 p 3
  let interval := u32 p 7
  match FrameEdge.ofCode (u8 p 1), bitOfCode (u8 p 2) with
  | some edge, some confirm =>
    if window = 0 ∨ Config.longSpan < window ∨ Config.longSpan < interval then none
    else if confirm = true ∧ edge = .ignore then none
    else some ⟨edge, confirm, window, interval⟩
  | _, _ => none

/-- R130 check 3: the queue holds an entry, or a run a reserved place. -/
def State.cameraPending (s : State) (c : CameraId) : Bool := !s.cameras[c].queue.isEmpty || decide (0 < s.reservedOn c)

/-- The four settings (Table 8-1). -/
def CameraSettings.bytes (x : CameraSettings) : List Byte :=
  [x.edge.code, flagByte x.confirm] ++ le4 x.window ++ le4 x.minInterval

/-- R130. The reply carries "the same five fields" as the request (Table 11-12), the camera number with them: DEDUCED, log entry
14. -/
def cameraSet (p : List Byte) (s : State) : Answer :=
  match index? 4 (u8 p 0), cameraSettingsAt p with
  | some c, some x =>
    if s.cameraPending c then ⟨s, busyReply .pendingWork 11⟩
    else ⟨s.setCamera c { s.cameras[c] with settings := x }, okReply (le1 c.val ++ x.bytes)⟩
  | _, _ => ⟨s, refusedReply .badField 11⟩

def takeCameraSet (tag : Byte) (p : List Byte) : State → State :=
  takeRequest 0x30 tag (p.length == 11) (fun _ s => cameraSet p s)

def execCameraSet (tag : Byte) (p : List Byte) (s : State) : Host.Outcome State Fault Refusal :=
  arrive ⟨0x30, tag, p⟩ (takeCameraSet tag p) s

/-! ## CAMERA_SETTLE (R131) -/

/-- R131. -/
def cameraSettle (p : List Byte) (s : State) : Answer :=
  match index? 4 (u8 p 0) with
  | none => ⟨s, refusedReply .badField 5⟩
  | some c =>
    let n := u8 p 1
    if 15 < n then ⟨s, refusedReply .badField 5⟩
    else if s.cameraPending c then ⟨s, busyReply .pendingWork 5⟩
    else ⟨s.setCamera c { s.cameras[c] with settle := n }, okReply (le1 n ++ le32 s.cameras[c].counter)⟩

def takeCameraSettle (tag : Byte) (p : List Byte) : State → State :=
  takeRequest 0x31 tag (p.length == 2) (fun _ s => cameraSettle p s)

def execCameraSettle (tag : Byte) (p : List Byte) (s : State) : Host.Outcome State Fault Refusal :=
  arrive ⟨0x31, tag, p⟩ (takeCameraSettle tag p) s

/-! ## CAMERA_READ (R132) -/

/-- An expectation in its 9 bytes. -/
def Expectation.bytes (e : Expectation) : List Byte := le1 e.handle.val ++ le32 e.pulseStart ++ le32 e.deadline

/-- The eight entry places of the reply, unused ones 0. -/
def entryBytes (q : List Expectation) : List Byte :=
  let b := (q.take 8).flatMap Expectation.bytes
  b ++ zeros (72 - b.length)

/-- R132. The camera number of the layout, which the rule does not give, reads 0 (R162). -/
def cameraRead (p : List Byte) (s : State) : Answer :=
  match index? 4 (u8 p 0) with
  | none => ⟨s, refusedReply .badField 100⟩
  | some c =>
    let x := s.cameras[c]
    ⟨s, okReply ([0] ++ x.settings.bytes ++ le32 x.counter ++ le1 x.settle ++ [flagByte x.lastTrigger.isSome]
      ++ le32 (x.lastTrigger.getD 0) ++ le4 x.elapsed ++ le1 x.queue.length ++ le1 (s.reservedOn c)
      ++ le1 (s.freePlaces c) ++ entryBytes x.queue)⟩

def takeCameraRead (tag : Byte) (p : List Byte) : State → State :=
  takeRequest 0x32 tag (p.length == 1) (fun _ s => cameraRead p s)

def execCameraRead (tag : Byte) (p : List Byte) (s : State) : Host.Outcome State Fault Refusal :=
  arrive ⟨0x32, tag, p⟩ (takeCameraRead tag p) s

end Sys2Proof.Machine
end

