-- ==== Sys2Proof/Machine/Lanes.lean ====
section
/-! DEFINITION. Lanes and the travel mark (Chapter 2): what a lane does with a count event, and the lane requests. -/

namespace Sys2Proof.Machine

/-! ## Count events at a lane (R22, R23, R25) -/

/-- R23: the mark has reached the head `h` of lane `l`, which leaves the queue. -/
def State.reach (s : State) (l : LaneId) (h : Handle) : State :=
  let x := s.lanes[l]
  let t := (s.setLane l { x with queue := x.queue.tail }).dropRef h
  match x.state with
  | .armed => t.fireAttempt h
  | .paused | .halted => t.endShot h .passed
  | .off => t

/-- R23: the head of a lane whose mark has moved is compared with the mark. -/
def State.checkHead (s : State) (l : LaneId) : State :=
  match s.lanes[l].queue with
  | [] => s
  | h :: _ =>
    match s.slots[h].shot with
    | none => s
    | some sh => if sh.trigger = s.lanes[l].mark then s.reach l h else s

/-- R25: the reverse-excess check after a reverse count. -/
def State.checkReverse (s : State) (l : LaneId) : State :=
  let x := s.lanes[l]
  if x.settings.reverseLimit ≠ 0 ∧ x.settings.reverseLimit < s.lag l then
    let t := s.latch (.reverse l)
    match x.state with
    | .armed => t.setLane l { x with state := .paused }
    | _ => t
  else s

/-- Whether a source step of +1 (`up`) moves the lane position forward (R20). -/
def Direction.forward : Direction → (up : Bool) → Bool
  | .same, up => up
  | .opposite, up => !up

/-- R22: a lane takes a count event of its source, whose position has moved. A forward count was taken with lag 0 exactly when
the lane position now stands one ahead of the mark. -/
def State.laneCount (up : Bool) (s : State) (l : LaneId) : State :=
  let x := s.lanes[l]
  if x.state = .off then s
  else if x.settings.direction.forward up then
    if s.lanePosition l = x.mark + 1 then (s.setLane l { x with mark := x.mark + 1 }).checkHead l else s
  else s.checkReverse l

/-- The lanes outside OFF that name a source. -/
def State.listeners (s : State) (src : Source) : List LaneId :=
  allLanes.filter (fun l => s.lanes[l].settings.source == src && s.lanes[l].state != .off)

/-- R2: the source, its position moved, hands the count event to every lane that names it. Which lane takes it first is a free
choice (R86). -/
def State.handCount (s : State) (src : Source) (up : Bool) : State :=
  let ls := s.listeners src
  (anyOrder s.arbiter ls).foldl (State.laneCount up)
    (if ls.length ≤ 1 then s else { s with arbiter := s.arbiter + ls.length })

/-! ## LANE_SET (R19) -/

/-- R19 check 1: the settings a LANE_SET payload carries (Table 11-6), when all are in range. -/
def laneSettingsAt (p : List Byte) : Option LaneSettings :=
  match Source.ofCode (u8 p 1), Direction.ofCode (u8 p 2) with
  | some src, some dir =>
    let lead := u16 p 7
    let horizon := u32 p 9
    let spacing := u16 p 13
    let quota := u16 p 15
    if 1 ≤ lead ∧ lead ≤ horizon ∧ horizon ≤ Config.longSpan ∧ 1 ≤ spacing ∧ 1 ≤ quota ∧ quota ≤ 256 then
      some ⟨src, dir, w32 p 3, lead, horizon, spacing, quota, u16 p 17⟩
    else none
  | _, _ => none

/-- R19. -/
def laneSet (p : List Byte) (s : State) : Answer :=
  match index? 4 (u8 p 0), laneSettingsAt p with
  | some l, some c =>
    if s.lanes[l].state = .off then ⟨s.setLane l { s.lanes[l] with settings := c }, okReply []⟩
    else ⟨s, refusedReply .badState 0⟩
  | _, _ => ⟨s, refusedReply .badField 0⟩

def takeLaneSet (tag : Byte) (p : List Byte) : State → State :=
  takeRequest 0x10 tag (p.length == 19) (fun _ s => laneSet p s)

def execLaneSet (tag : Byte) (p : List Byte) (s : State) : Host.Outcome State Fault Refusal :=
  arrive ⟨0x10, tag, p⟩ (takeLaneSet tag p) s

/-! ## LANE_ARM (R26) -/

/-- The lane after a request, with the OK reply that carries its state. -/
def laneBecomes (s : State) (l : LaneId) (x : Lane) : Answer := ⟨s.setLane l x, okReply [x.state.code]⟩

/-- R21, R26. -/
def laneArm (p : List Byte) (s : State) : Answer :=
  match index? 4 (u8 p 0) with
  | none => ⟨s, refusedReply .badField 1⟩
  | some l =>
    let x := s.lanes[l]
    match x.state with
    | .off =>
      if s.laneHeld l then ⟨s, refusedReply .held 1⟩
      else laneBecomes s l { x with state := .armed, mark := s.lanePosition l }
    | .paused => laneBecomes s l { x with state := .armed }
    | .armed => laneBecomes s l x
    | .halted => ⟨s, refusedReply .badState 1⟩

def takeLaneArm (tag : Byte) (p : List Byte) : State → State :=
  takeRequest 0x11 tag (p.length == 1) (fun _ s => laneArm p s)

def execLaneArm (tag : Byte) (p : List Byte) (s : State) : Host.Outcome State Fault Refusal :=
  arrive ⟨0x11, tag, p⟩ (takeLaneArm tag p) s

/-! ## LANE_PAUSE (R27) -/

/-- R27: the reply carries the lane state after the request, refused BAD_STATE too (log entry 15). -/
def lanePause (p : List Byte) (s : State) : Answer :=
  match index? 4 (u8 p 0) with
  | none => ⟨s, refusedReply .badField 1⟩
  | some l =>
    let x := s.lanes[l]
    match x.state with
    | .armed => laneBecomes s l { x with state := .paused }
    | .paused => laneBecomes s l x
    | .off | .halted => ⟨s, refusedWith .badState [x.state.code]⟩

def takeLanePause (tag : Byte) (p : List Byte) : State → State :=
  takeRequest 0x12 tag (p.length == 1) (fun _ s => lanePause p s)

def execLanePause (tag : Byte) (p : List Byte) (s : State) : Host.Outcome State Fault Refusal :=
  arrive ⟨0x12, tag, p⟩ (takeLanePause tag p) s

/-! ## LANE_RESUME (R28) -/

/-- R28. -/
def laneResume (p : List Byte) (s : State) : Answer :=
  match index? 4 (u8 p 0) with
  | none => ⟨s, refusedReply .badField 1⟩
  | some l =>
    let x := s.lanes[l]
    match x.state with
    | .halted =>
      if s.laneHeld l then ⟨s, refusedReply .held 1⟩ else laneBecomes s l { x with state := .paused }
    | .off | .armed | .paused => ⟨s, refusedReply .badState 1⟩

def takeLaneResume (tag : Byte) (p : List Byte) : State → State :=
  takeRequest 0x13 tag (p.length == 1) (fun _ s => laneResume p s)

def execLaneResume (tag : Byte) (p : List Byte) (s : State) : Host.Outcome State Fault Refusal :=
  arrive ⟨0x13, tag, p⟩ (takeLaneResume tag p) s

/-! ## LANE_DISARM (R30) -/

/-- R30: one waiting shot of a flush; its reference count falls and it ends FLUSHED. -/
def State.flushShot (s : State) (h : Handle) : State := (s.dropRef h).endShot h .flushed

/-- R30: the queue is emptied head first and the lane enters OFF. -/
def State.disarm (s : State) (l : LaneId) : State :=
  let x := s.lanes[l]
  x.queue.foldl State.flushShot (s.setLane l { x with queue := [], state := .off })

/-- R30. -/
def laneDisarm (p : List Byte) (s : State) : Answer :=
  match index? 4 (u8 p 0) with
  | none => ⟨s, refusedReply .badField 2⟩
  | some l => ⟨s.disarm l, okReply (le2 s.lanes[l].queue.length)⟩

def takeLaneDisarm (tag : Byte) (p : List Byte) : State → State :=
  takeRequest 0x14 tag (p.length == 1) (fun _ s => laneDisarm p s)

def execLaneDisarm (tag : Byte) (p : List Byte) (s : State) : Host.Outcome State Fault Refusal :=
  arrive ⟨0x14, tag, p⟩ (takeLaneDisarm tag p) s

/-! ## LANE_READ (R31) -/

/-- The fields of Table 11-6 from offset 1. -/
def LaneSettings.bytes (c : LaneSettings) : List Byte :=
  [c.source.code, c.direction.code] ++ le32 c.offset ++ le2 c.lead ++ le4 c.horizon ++ le2 c.spacing ++ le2 c.quota
    ++ le2 c.reverseLimit

/-- The trigger of the shot in a slot; a FREE slot has none. -/
def Slot.trigger (x : Slot) : Position := (x.shot.map Shot.trigger).getD 0

/-- Head present, handle, generation and trigger. -/
def State.headBytes (s : State) (l : LaneId) : List Byte :=
  match s.lanes[l].queue with
  | [] => zeros 7
  | h :: _ => [1] ++ le1 h.val ++ [s.slots[h].generation] ++ le32 s.slots[h].trigger

/-- R31. -/
def laneRead (p : List Byte) (s : State) : Answer :=
  match index? 4 (u8 p 0) with
  | none => ⟨s, refusedReply .badField 36⟩
  | some l =>
    let x := s.lanes[l]
    ⟨s, okReply (x.settings.bytes ++ [x.state.code] ++ le32 (s.lanePosition l) ++ le32 x.mark ++ le2 x.queue.length
      ++ s.headBytes l)⟩

def takeLaneRead (tag : Byte) (p : List Byte) : State → State :=
  takeRequest 0x15 tag (p.length == 1) (fun _ s => laneRead p s)

def execLaneRead (tag : Byte) (p : List Byte) (s : State) : Host.Outcome State Fault Refusal :=
  arrive ⟨0x15, tag, p⟩ (takeLaneRead tag p) s

end Sys2Proof.Machine
end

