-- ==== Sys2Proof/Machine/Sources.lean ====
section
/-! DEFINITION. Position sources (Chapter 1): the encoder channels and the pacers, their events and their requests. -/

namespace Sys2Proof.Machine

/-! ## Decoding (R4 to R10) -/

/-- Table 1-1: whether the step from one pair of levels to another is the forward step. -/
def forwardStep : Level → Level → Level → Level → Bool
  | .low, .low, .high, .low => true
  | .high, .low, .high, .high => true
  | .high, .high, .low, .high => true
  | .low, .high, .low, .low => true
  | _, _, _, _ => false

/-- What a filtered change does to the count: an illegal transition (R5), a step (true for +1, before invert), or nothing. -/
inductive Decoded where
  | nothing
  | illegal
  | step (up : Bool)
  deriving DecidableEq, Repr

/-- R4 to R8: the levels of A and B move from `a`, `b` to `a'`, `b'`. -/
def decodeAB (c : EncoderConfig) (a b a' b' : Level) : Decoded :=
  match c.mode with
  | .quad4 =>
    if a ≠ a' ∧ b ≠ b' then .illegal
    else if a ≠ a' ∨ b ≠ b' then .step (forwardStep a b a' b')
    else .nothing
  | .quad1 =>
    if a ≠ a' ∧ b ≠ b' then .illegal
    else if a ≠ a' then
      match c.edge, a' with
      | .rise, .high => .step (b' == .low)
      | .fall, .low => .step (b' == .high)
      | _, _ => .nothing
    else .nothing
  | .stepdir => if a ≠ a' ∧ c.edge.selects a' then .step (b' == .high) else .nothing
  | .count => if a ≠ a' ∧ c.edge.selects a' then .step true else .nothing

/-- A position one step on (R2). -/
def stepPosition (x : Position) (up : Bool) : Position := if up then x + 1 else x - 1

/-- R9: the channel counts, with the step after invert. -/
def Encoder.counted (e : Encoder) (up : Bool) : Encoder :=
  { e with position := stepPosition e.position up, lastDirection := if up then .fwd else .rev }

/-- R2, R9: a count event of encoder `n`; `up` is the step before direction invert. -/
def State.encoderCount (s : State) (n : EncoderId) (up : Bool) : State :=
  let e := s.encoders[n]
  let up := up != e.config.invert
  (s.setEncoder n (e.counted up)).handCount (encoderSource n) up

/-- R10: an index edge latches the position and is counted. -/
def Encoder.indexed (e : Encoder) : Encoder :=
  { e with indexLatch := e.position, indexCount := e.indexCount + 1, indexSeen := true }

/-- The end of a filtered change: the index edge, the filtered levels and the decoder reference (R3, R10). -/
def Encoder.settleChange (e : Encoder) (z : EncoderPins) : Encoder :=
  let e := if e.filtered.z ≠ z.z ∧ e.config.indexEdge.selects z.z then e.indexed else e
  { e with filtered := z, referenceA := z.a, referenceB := z.b }

/-- R3: encoder `n` handles whole a filtered change to the levels `z`: the count event, then the index edge, then the reference. -/
def State.filteredTo (s : State) (n : EncoderId) (z : EncoderPins) : State :=
  let e := s.encoders[n]
  let t := match decodeAB e.config e.referenceA e.referenceB z.a z.b with
    | .nothing => s
    | .illegal => s.latch (.encFault n)
    | .step up => s.encoderCount n up
  t.setEncoder n (t.encoders[n].settleChange z)

/-! ## Filtering (R3) -/

/-- R3: the stable time has passed for a pin timed since `t` half ticks. -/
def stable (filter : Fin 8) (t : Option Nat) : Bool :=
  match t with
  | none => false
  | some k => decide (Config.filterUnitHalfTicks * filter.val ≤ k)

/-- The filter timing of a pin that changes from `old` to `new` (R3): a new level is timed from now, a return ends the timing.
DESIGN CHOICE (log entry 30): R3 loses a change whose pin returns BEFORE the stable time has passed, and says nothing of a return
at the very moment it is up; there the return and the FILTERED_CHANGE meet, each whole, and a return taken first ends the timing. -/
def pinTiming (filtered old new : Level) (t : Option Nat) : Option Nat :=
  if old = new then t else if new = filtered then none else some 0

/-- With filter 0 a pin change is a change of the filtered level as it arrives (R3). -/
def pinThrough (filtered old new : Level) : Level := if old = new then filtered else new

/-- With filter 0 the changed pin needs no timing. -/
def pinSettled (old new : Level) (t : Option Nat) : Option Nat := if old = new then t else none

/-- R3: the pins of encoder `n` stand at the levels `z`. -/
def State.encoderPins (s : State) (n : EncoderId) (z : EncoderPins) : State :=
  let e := s.encoders[n]
  let f := e.filtered
  let o := e.pins
  let t := e.timing
  if e.config.filter = 0 then
    let e' := { e with pins := z, timing := ⟨pinSettled o.a z.a t.a, pinSettled o.b z.b t.b, pinSettled o.z z.z t.z⟩ }
    let f' : EncoderPins := ⟨pinThrough f.a o.a z.a, pinThrough f.b o.b z.b, pinThrough f.z o.z z.z⟩
    if f' = f then s.setEncoder n e' else (s.setEncoder n e').filteredTo n f'
  else
    s.setEncoder n { e with pins := z,
                            timing := ⟨pinTiming f.a o.a z.a t.a, pinTiming f.b o.b z.b t.b, pinTiming f.z o.z z.z t.z⟩ }

/-- R3: some pin of the channel has held a new level for the stable time. -/
def Encoder.changeDue (e : Encoder) : Bool :=
  stable e.config.filter e.timing.a || stable e.config.filter e.timing.b || stable e.config.filter e.timing.z

/-- The filtered level of a pin whose stable time has passed is the pin's own level. -/
def afterFilter (c : Fin 8) (t : Option Nat) (filtered pin : Level) : Level := if stable c t then pin else filtered

/-- A pin whose stable time has passed is timed no more. -/
def timingAfter (c : Fin 8) (t : Option Nat) : Option Nat := if stable c t then none else t

/-- R3, R4: the pins whose stable time has passed change their filtered levels, as one filtered change. -/
def State.filteredChange (s : State) (n : EncoderId) : State :=
  let e := s.encoders[n]
  let c := e.config.filter
  let t := e.timing
  let z : EncoderPins := ⟨afterFilter c t.a e.filtered.a e.pins.a, afterFilter c t.b e.filtered.b e.pins.b,
    afterFilter c t.z e.filtered.z e.pins.z⟩
  (s.setEncoder n { e with timing := ⟨timingAfter c t.a, timingAfter c t.b, timingAfter c t.z⟩ }).filteredTo n z

/-- A filtered change of encoder `n` is at hand: a stable time has passed, at a whole tick (log entry 20). -/
def State.changeReady (s : State) (n : EncoderId) : Bool := !s.halfTick && s.encoders[n].changeDue

/-- FILTERED_CHANGE (R3, R4). -/
def execFilteredChange (n : EncoderId) (s : State) : Host.Outcome State Fault Refusal :=
  if s.phase ≠ .coldReset ∧ s.changeReady n then done (s.filteredChange n) else .next s

/-! ## ENCODER_SET (R11) -/

/-- R11 checks 1 and 2 but for the encoder number: the configuration the payload carries. -/
def encoderConfigAt (p : List Byte) : Option EncoderConfig :=
  match EncoderMode.ofCode (u8 p 1), EdgeSelection.ofCode (u8 p 2), index? 8 (u8 p 4), IndexEdge.ofCode (u8 p 5) with
  | some mode, some edge, some filter, some index =>
    if mode = .quad1 ∧ edge = .both then none else some ⟨mode, edge, yesAt p 3, filter, index⟩
  | _, _, _, _ => none

/-- A pin not yet filtered is timed afresh where the filter value changes (R11). -/
def retime (changed : Bool) (t : Option Nat) : Option Nat := if changed then t.map (fun _ => 0) else t

/-- R11: the configuration is replaced, and the decoder reference takes the filtered levels. -/
def Encoder.configured (e : Encoder) (c : EncoderConfig) : Encoder :=
  let ch := c.filter != e.config.filter
  { e with config := c, referenceA := e.filtered.a, referenceB := e.filtered.b,
           timing := ⟨retime ch e.timing.a, retime ch e.timing.b, retime ch e.timing.z⟩ }

/-- R11. -/
def encoderSet (p : List Byte) (s : State) : Answer :=
  match index? 2 (u8 p 0), encoderConfigAt p with
  | some n, some c =>
    if yesAt p 6 && s.sourceInUse (encoderSource n) then ⟨s, refusedReply .badState 0⟩
    else
      let e := s.encoders[n].configured c
      ⟨s.setEncoder n (if yesAt p 6 then { e with position := w32 p 7, indexSeen := false } else e), okReply []⟩
  | _, _ => ⟨s, refusedReply .badField 0⟩

def takeEncoderSet (tag : Byte) (p : List Byte) : State → State :=
  takeRequest 0x08 tag (p.length == 11) (fun _ s => encoderSet p s)

def execEncoderSet (tag : Byte) (p : List Byte) (s : State) : Host.Outcome State Fault Refusal :=
  arrive ⟨0x08, tag, p⟩ (takeEncoderSet tag p) s

/-! ## ENCODER_READ (R12) -/

/-- The filtered levels: bit 0 A, bit 1 B, bit 2 Z (Table 11-12); the other bits read 0 (log entry 31). -/
def pinsByte (z : EncoderPins) : List Byte :=
  le1 ((if z.a = .high then 1 else 0) + (if z.b = .high then 2 else 0) + (if z.z = .high then 4 else 0))

def Encoder.bytes (e : Encoder) : List Byte :=
  [e.config.mode.code, e.config.edge.code, flagByte e.config.invert] ++ le1 e.config.filter.val ++ [e.config.indexEdge.code]
    ++ le32 e.position ++ [e.lastDirection.code] ++ le32 e.indexLatch ++ le2 e.indexCount.toNat ++ [flagByte e.indexSeen]
    ++ pinsByte e.filtered

/-- R12: the reply shows the flag before it is cleared. -/
def encoderRead (p : List Byte) (s : State) : Answer :=
  match index? 2 (u8 p 0) with
  | none => ⟨s, refusedReply .badField 18⟩
  | some n =>
    let e := s.encoders[n]
    ⟨if yesAt p 1 then s.setEncoder n { e with indexSeen := false } else s, okReply e.bytes⟩

def takeEncoderRead (tag : Byte) (p : List Byte) : State → State :=
  takeRequest 0x09 tag (p.length == 2) (fun _ s => encoderRead p s)

def execEncoderRead (tag : Byte) (p : List Byte) (s : State) : Host.Outcome State Fault Refusal :=
  arrive ⟨0x09, tag, p⟩ (takeEncoderRead tag p) s

/-! ## Pacers (R14 to R17) -/

/-- Ticks elapsed in the current interval; 0 in STOP (R17). -/
def Pacer.elapsed (x : Pacer) (now : Timestamp) : Nat :=
  match x.intervalStart with
  | none => 0
  | some t => ahead t now

/-- R14: the interval of a running pacer has passed. -/
def Pacer.expiryDue (x : Pacer) (now : Timestamp) : Bool :=
  x.running && x.intervalStart.isSome && decide (x.interval ≤ x.elapsed now)

/-- R14: the three things of an expiry, but for the hand-over. -/
def Pacer.expired (x : Pacer) (now : Timestamp) : Pacer :=
  { x with position := x.position + 1, interval := x.pendingInterval.getD x.interval, pendingInterval := none,
           intervalStart := some now }

/-- PACER_EXPIRY (R14). -/
def execPacerExpiry (n : PacerId) (s : State) : Host.Outcome State Fault Refusal :=
  if s.pacers[n].expiryDue s.timestamp then
    done ((s.setPacer n (s.pacers[n].expired s.timestamp)).handCount (pacerSource n) true)
  else .next s

/-- R15: the written interval, by the run state, and the preset. -/
def Pacer.written (x : Pacer) (interval : Nat) (preset : Option Position) : Pacer :=
  let x := if x.running then { x with pendingInterval := some interval } else { x with interval := interval }
  { x with position := preset.getD x.position }

/-- R15. -/
def pacerSet (p : List Byte) (s : State) : Answer :=
  match index? 2 (u8 p 0) with
  | none => ⟨s, refusedReply .badField 0⟩
  | some n =>
    let interval := u32 p 1
    if interval = 0 ∨ Config.longSpan < interval then ⟨s, refusedReply .badField 0⟩
    else if yesAt p 5 && (s.pacers[n].running || s.sourceInUse (pacerSource n)) then ⟨s, refusedReply .badState 0⟩
    else ⟨s.setPacer n (s.pacers[n].written interval (if yesAt p 5 then some (w32 p 6) else none)), okReply []⟩

def takePacerSet (tag : Byte) (p : List Byte) : State → State :=
  takeRequest 0x0A tag (p.length == 10) (fun _ s => pacerSet p s)

def execPacerSet (tag : Byte) (p : List Byte) (s : State) : Host.Outcome State Fault Refusal :=
  arrive ⟨0x0A, tag, p⟩ (takePacerSet tag p) s

/-- R16: a pacer stops: a pending interval becomes the interval. -/
def Pacer.stopped (x : Pacer) : Pacer :=
  { x with running := false, interval := x.pendingInterval.getD x.interval, pendingInterval := none, intervalStart := none }

/-- R16. -/
def Pacer.command (x : Pacer) (run : Bool) (now : Timestamp) : Pacer :=
  match run, x.running with
  | true, false => { x with running := true, intervalStart := some now }
  | false, true => x.stopped
  | _, _ => x

/-- R16. -/
def pacerRun (p : List Byte) (s : State) : Answer :=
  match index? 2 (u8 p 0), bitOfCode (u8 p 1) with
  | some n, some run => ⟨s.setPacer n (s.pacers[n].command run s.timestamp), okReply []⟩
  | _, _ => ⟨s, refusedReply .badField 0⟩

def takePacerRun (tag : Byte) (p : List Byte) : State → State :=
  takeRequest 0x0B tag (p.length == 2) (fun _ s => pacerRun p s)

def execPacerRun (tag : Byte) (p : List Byte) (s : State) : Host.Outcome State Fault Refusal :=
  arrive ⟨0x0B, tag, p⟩ (takePacerRun tag p) s

def Pacer.bytes (x : Pacer) (now : Timestamp) : List Byte :=
  le4 x.interval ++ [flagByte x.pendingInterval.isSome] ++ le4 (x.pendingInterval.getD 0) ++ [flagByte x.running]
    ++ le32 x.position ++ le4 (x.elapsed now)

/-- R17. -/
def pacerRead (p : List Byte) (s : State) : Answer :=
  match index? 2 (u8 p 0) with
  | none => ⟨s, refusedReply .badField 18⟩
  | some n => ⟨s, okReply (s.pacers[n].bytes s.timestamp)⟩

def takePacerRead (tag : Byte) (p : List Byte) : State → State :=
  takeRequest 0x0C tag (p.length == 1) (fun _ s => pacerRead p s)

def execPacerRead (tag : Byte) (p : List Byte) (s : State) : Host.Outcome State Fault Refusal :=
  arrive ⟨0x0C, tag, p⟩ (takePacerRead tag p) s

end Sys2Proof.Machine
end

