-- ==== Sys2Proof/Machine/Pool.lean ====
section
/-! DEFINITION. The shot pool, the lane queues and amends (Chapters 3 and 4): SUBMIT, CANCEL, SHOT_READ, AMEND, AMEND_PAIR. -/

namespace Sys2Proof.Machine

/-! ## Admission (R39 to R46) -/

/-- The shot slots, in order. -/
def allHandles : List Handle := List.finRange 256

/-- R44: the lowest-numbered FREE slot. -/
def State.freeSlot (s : State) : Option Handle := allHandles.find? (fun h => (s.slots[h].shot).isNone)

/-- The ahead-distance from the mark of lane `l` to the trigger of the shot in slot `h`. -/
def State.aheadOf (s : State) (l : LaneId) (h : Handle) : Nat := ahead s.lanes[l].mark s.slots[h].trigger

/-- R43: a queued shot of the lane lies nearer to ahead-distance `d` than the spacing. The nearest neighbours are the predecessor
and the successor, so the check of both is the check of every queued shot. -/
def State.tooClose (s : State) (l : LaneId) (d : Nat) : Bool :=
  s.lanes[l].queue.any (fun h =>
    let a := s.aheadOf l h
    decide ((if a ≤ d then d - a else a - d) < s.lanes[l].settings.spacing))

/-- R40: the trigger the first REL16 entry counts from. -/
def State.relBase (s : State) (l : LaneId) : Position :=
  match s.lanes[l].queue.getLast? with
  | none => s.lanes[l].mark
  | some h => s.slots[h].trigger

/-- R41 check 3: the fields of an entry are out of range. -/
def Entry.badFields (e : Entry) (rel : Bool) : Bool :=
  (rel && e.position == 0) || decide (1 < e.flags) || (e.flags == 1 && (e.burstCount == 0 || decide (8 < e.burstCount)))

/-- R41 check 2: the program a number names, when its active version is DEFINED. -/
def State.definedProgram (s : State) (n : Nat) : Option ProgramId :=
  match index? 32 n with
  | none => none
  | some i => if (s.programs[i].active).isSome then some i else none

/-- R42 check 4. -/
def distanceCheck (c : LaneSettings) (d : Nat) : Option Reason :=
  if d = 0 ∨ 2 ^ 31 ≤ d ∨ d < c.lead then some .tooNear
  else if c.horizon < d then some .tooFar
  else none

/-- R41 to R44: the seven checks of an entry in their order: the reason of the first that fails, or the program and the slot. -/
def State.checkEntry (s : State) (l : LaneId) (rel : Bool) (e : Entry) (trigger : Position) :
    Except Reason (ProgramId × Handle) :=
  let x := s.lanes[l]
  let d := ahead x.mark trigger
  if x.state = .off then .error .badState
  else
    match s.definedProgram e.program with
    | none => .error .noProgram
    | some i =>
      if e.badFields rel then .error .badField
      else
        match distanceCheck x.settings d with
        | some r => .error r
        | none =>
          if s.tooClose l d then .error .spacing
          else if x.settings.quota ≤ x.queue.length then .error .queueFull
          else
            match s.freeSlot with
            | none => .error .poolFull
            | some h => .ok (i, h)

/-- R45: the shot an admitted entry becomes. -/
def Entry.shot (e : Entry) (l : LaneId) (i : ProgramId) (trigger : Position) : Shot where
  phase := .queued
  label := e.label
  lane := l
  trigger := trigger
  program := i
  burst := if e.flags = 1 then some ⟨e.burstCount, e.burstGap⟩ else none
  amended := false
  collided := false
  aborted := false
  fireTime := none
  runSlot := none
  outstanding := 0
  confirmed := 0
  lost := 0
  frames := []

/-- R37: a handle takes the place its trigger gives it, by ahead-distance. -/
def insertByDistance (dist : Handle → Nat) (h : Handle) : List Handle → List Handle
  | [] => [h]
  | x :: rest => if dist h < dist x then h :: x :: rest else x :: insertByDistance dist h rest

/-- R45: an entry is admitted into slot `h`. -/
def State.admitEntry (s : State) (l : LaneId) (e : Entry) (trigger : Position) (i : ProgramId) (h : Handle) : State :=
  let t := s.setSlot h ⟨s.slots[h].generation + 1, some (e.shot l i trigger)⟩
  let x := t.lanes[l]
  (t.setLane l { x with queue := insertByDistance (t.aheadOf l) h x.queue }).incRef i

/-- R46: the result of one entry in the reply. -/
inductive EntryResult where
  | admitted (h : Handle) (generation : BitVec 8)
  | refused (r : Reason)
  | notTaken
  deriving DecidableEq, Repr

def EntryResult.bytes : EntryResult → List Byte
  | .admitted h g => [0] ++ le1 h.val ++ [g]
  | .refused r => [r.code, 0, 0]
  | .notTaken => [0xFF, 0, 0]

/-- R40: the trigger of an entry. -/
def Entry.trigger (e : Entry) (rel : Bool) (base : Position) : Position :=
  if rel then base + BitVec.ofNat 32 e.position else BitVec.ofNat 32 e.position

/-- What a batch of entries comes to: the state, the results in entry order, and the reason of the refused entry. -/
structure Batch where
  state : State
  results : List EntryResult
  refusal : Option Reason

/-- R40, R41, R46: the entries one at a time, up to the first refusal. -/
def State.admitAll (s : State) (l : LaneId) (rel : Bool) (base : Position) : List Entry → Batch
  | [] => ⟨s, [], none⟩
  | e :: rest =>
    let trigger := e.trigger rel base
    match s.checkEntry l rel e trigger with
    | .error r => ⟨s, .refused r :: rest.map (fun _ => .notTaken), some r⟩
    | .ok (i, h) =>
      let b := (s.admitEntry l e trigger i h).admitAll l rel trigger rest
      ⟨b.state, .admitted h (s.slots[h].generation + 1) :: b.results, b.refusal⟩

/-- R46: scope, result count and results of a SUBMIT reply (section 11.9). -/
def Batch.fields (b : Batch) : List Byte := [0] ++ le1 b.results.length ++ b.results.flatMap EntryResult.bytes

/-- The entries of a payload. -/
def entriesAt (p : List Byte) (rel : Bool) (n : Nat) : List Entry :=
  (List.range n).map (if rel then relEntryAt p else absEntryAt p)

/-- R39 to R46. -/
def submit (p : List Byte) (s : State) : Answer :=
  let n := u8 p 2
  match index? 4 (u8 p 0), bitOfCode (u8 p 1) with
  | some l, some rel =>
    if n = 0 ∨ 16 < n then ⟨s, refusedWith .badField [1, 0]⟩
    else
      let b := s.admitAll l rel (s.relBase l) (entriesAt p rel n)
      ⟨b.state, match b.refusal with
        | none => okReply b.fields
        | some r => refusedWith r b.fields⟩
  | _, _ => ⟨s, refusedWith .badField [1, 0]⟩

/-- R161: the length a SUBMIT must have by its width and entry count. -/
def submitLengthOk (p : List Byte) : Bool :=
  decide (3 ≤ p.length) && p.length == 3 + (if u8 p 1 = 0 then 13 else 11) * u8 p 2

def takeSubmit (tag : Byte) (p : List Byte) : State → State :=
  takeRequest 0x18 tag (submitLengthOk p) (fun _ s => submit p s)

def execSubmit (tag : Byte) (p : List Byte) (s : State) : Host.Outcome State Fault Refusal :=
  arrive ⟨0x18, tag, p⟩ (takeSubmit tag p) s

/-! ## CANCEL (R48) -/

/-- Handle, generation and state of a slot. -/
def State.slotBytes (s : State) (h : Handle) : List Byte := le1 h.val ++ [s.slots[h].generation, s.slots[h].stateCode]

/-- The shot in slot `h`, when it is QUEUED. -/
def State.queuedShot (s : State) (h : Handle) : Option Shot :=
  match s.slots[h].shot with
  | none => none
  | some sh => if sh.phase = .queued then some sh else none

/-- R37, R48: a waiting shot leaves its queue and ends CANCELLED. -/
def State.cancelShot (s : State) (h : Handle) (sh : Shot) : State :=
  let x := s.lanes[sh.lane]
  ((s.setLane sh.lane { x with queue := x.queue.filter (fun j => j != h) }).decRef sh.program).endShot h .cancelled

/-- The reply of CANCEL: the handle, which R48 does not give, reads 0 (R162); then generation and state. -/
def State.cancelBytes (s : State) (h : Handle) : List Byte := [0, s.slots[h].generation, s.slots[h].stateCode]

/-- R48. -/
def cancel (p : List Byte) (s : State) : Answer :=
  let h := handleAt p 0
  match s.queuedShot h with
  | none => ⟨s, refusedWith .gone (s.cancelBytes h)⟩
  | some sh =>
    if s.slots[h].generation = generationAt p 1 then
      let t := s.cancelShot h sh
      ⟨t, okReply (t.cancelBytes h)⟩
    else ⟨s, refusedWith .mismatch (s.cancelBytes h)⟩

def takeCancel (tag : Byte) (p : List Byte) : State → State :=
  takeRequest 0x19 tag (p.length == 2) (fun _ s => cancel p s)

def execCancel (tag : Byte) (p : List Byte) (s : State) : Host.Outcome State Fault Refusal :=
  arrive ⟨0x19, tag, p⟩ (takeCancel tag p) s

/-! ## SHOT_READ (R50) -/

/-- A value with its presence marker, `n` bytes wide. -/
def optBytes (n : Nat) (x : Option Nat) : List Byte := flagByte x.isSome :: leBytes n (x.getD 0)

/-- For a QUEUED shot its queue place and ahead-distance, else zeros. -/
def State.placeBytes (s : State) (h : Handle) (sh : Shot) : List Byte :=
  if sh.phase = .queued then le1 (s.lanes[sh.lane].queue.idxOf h) ++ le4 (s.aheadOf sh.lane h) else zeros 5

/-- Bit 0 amended, bit 1 collided, bit 2 aborted (Table 11-12); the other bits read 0 (log entry 31). -/
def Shot.flagsByte (sh : Shot) : List Byte :=
  le1 ((if sh.amended then 1 else 0) + (if sh.collided then 2 else 0) + (if sh.aborted then 4 else 0))

/-- The fields of a slot that is not FREE. -/
def State.shotBytes (s : State) (h : Handle) (sh : Shot) : List Byte :=
  le32 sh.label ++ le1 sh.lane.val ++ le32 sh.trigger ++ le1 sh.program.val
    ++ [flagByte sh.burst.isSome] ++ le1 ((sh.burst.map Burst.count).getD 0) ++ le2 ((sh.burst.map Burst.gap).getD 0)
    ++ sh.flagsByte ++ optBytes 4 (sh.fireTime.map BitVec.toNat) ++ optBytes 1 (sh.runSlot.map Fin.val)
    ++ le1 sh.outstanding ++ le1 sh.confirmed ++ le1 sh.lost ++ le1 sh.frames.length ++ frameListBytes sh.frames
    ++ s.placeBytes h sh

/-- R50. -/
def shotRead (p : List Byte) (s : State) : Answer :=
  let h := handleAt p 0
  ⟨s, okReply ([s.slots[h].stateCode, s.slots[h].generation] ++ match s.slots[h].shot with
    | none => zeros 51
    | some sh => s.shotBytes h sh)⟩

def takeShotRead (tag : Byte) (p : List Byte) : State → State :=
  takeRequest 0x1A tag (p.length == 1) (fun _ s => shotRead p s)

def execShotRead (tag : Byte) (p : List Byte) (s : State) : Host.Outcome State Fault Refusal :=
  arrive ⟨0x1A, tag, p⟩ (takeShotRead tag p) s

/-! ## AMEND and AMEND_PAIR (R52 to R60) -/

/-- The five fields of an amend (section 4.1). -/
structure AmendSet where
  handle : Handle
  generation : BitVec 8
  flags : Nat
  program : Nat
  label : BitVec 32
  deriving DecidableEq, Repr

/-- The amend set at an offset of a payload (Table 11-12). -/
def amendAt (p : List Byte) (o : Nat) : AmendSet :=
  ⟨handleAt p o, generationAt p (o + 1), u8 p (o + 2), u8 p (o + 3), w32 p (o + 4)⟩

/-- Bit 0 PROGRAM. -/
def AmendSet.hasProgram (a : AmendSet) : Bool := a.flags.testBit 0
/-- Bit 1 LABEL. -/
def AmendSet.hasLabel (a : AmendSet) : Bool := a.flags.testBit 1

/-- R52: the reason of the first check that fails. -/
def State.amendCheck (s : State) (a : AmendSet) : Option Reason :=
  if a.flags = 0 ∨ 3 < a.flags then some .badField
  else
    match s.queuedShot a.handle with
    | none => some .gone
    | some _ =>
      if s.slots[a.handle].generation ≠ a.generation then some .mismatch
      else if a.hasProgram && (s.definedProgram a.program).isNone then some .noProgram
      else none

/-- R54 step 1: the reference counts move from the old program to the new. -/
def State.moveRef (s : State) (old new : ProgramId) : State := if old = new then s else (s.decRef old).incRef new

/-- R54 steps 2, 3 and 5. -/
def Shot.amendedBy (sh : Shot) (a : AmendSet) (i : ProgramId) : Shot :=
  { sh with program := i, label := if a.hasLabel then a.label else sh.label, amended := true }

/-- R54: a successful amend of one slot. -/
def State.amendShot (s : State) (a : AmendSet) : State :=
  match s.slots[a.handle].shot with
  | none => s
  | some sh =>
    let i := if a.hasProgram then (s.definedProgram a.program).getD sh.program else sh.program
    (s.moveRef sh.program i).setSlot a.handle ⟨s.slots[a.handle].generation + 1, some (sh.amendedBy a i)⟩

/-- R52 to R55. -/
def amend (p : List Byte) (s : State) : Answer :=
  let a := amendAt p 0
  match s.amendCheck a with
  | some r => ⟨s, refusedWith r (s.slotBytes a.handle)⟩
  | none =>
    let t := s.amendShot a
    ⟨t, okReply (t.slotBytes a.handle)⟩

def takeAmend (tag : Byte) (p : List Byte) : State → State :=
  takeRequest 0x1B tag (p.length == 8) (fun _ s => amend p s)

def execAmend (tag : Byte) (p : List Byte) (s : State) : Host.Outcome State Fault Refusal :=
  arrive ⟨0x1B, tag, p⟩ (takeAmend tag p) s

/-- R58: the failing set byte and the reason: 0xFE REQUEST, 0 or 1. -/
def State.pairCheck (s : State) (a b : AmendSet) : Option (Byte × Reason) :=
  if a.handle = b.handle then some (0xFE, .badField)
  else
    match s.amendCheck a with
    | some r => some (0, r)
    | none => (s.amendCheck b).map (fun r => (1, r))

/-- R58 to R60. -/
def amendPair (p : List Byte) (s : State) : Answer :=
  let a := amendAt p 0
  let b := amendAt p 8
  match s.pairCheck a b with
  | some (which, r) => ⟨s, refusedWith r ([which] ++ s.slotBytes a.handle ++ s.slotBytes b.handle)⟩
  | none =>
    let t := (s.amendShot a).amendShot b
    ⟨t, okReply ([0xFF] ++ t.slotBytes a.handle ++ t.slotBytes b.handle)⟩

def takeAmendPair (tag : Byte) (p : List Byte) : State → State :=
  takeRequest 0x1C tag (p.length == 16) (fun _ s => amendPair p s)

def execAmendPair (tag : Byte) (p : List Byte) (s : State) : Host.Outcome State Fault Refusal :=
  arrive ⟨0x1C, tag, p⟩ (takeAmendPair tag p) s

end Sys2Proof.Machine
end

