-- ==== Sys2Proof/Machine/Outcomes.lean ====
section
/-! DEFINITION. Outcomes, alarms, STATUS and IDENT (Chapter 10, R168): the requests that read them. -/

namespace Sys2Proof.Machine

/-! ## OUTCOME_FETCH (R147) -/

/-- R147. -/
def outcomeFetch (p : List Byte) (s : State) : Answer :=
  let n := u8 p 0
  if n = 0 ∨ 6 < n then ⟨s, refusedReply .badField 2⟩
  else
    let got := s.outcomes.take n
    let rest := s.outcomes.drop n
    ⟨s.setOutcomes rest, okReply (le1 got.length ++ le1 rest.length ++ got.flatMap OutcomeRecord.bytes)⟩

def takeOutcomeFetch (tag : Byte) (p : List Byte) : State → State :=
  takeRequest 0x40 tag (p.length == 1) (fun _ s => outcomeFetch p s)

def execOutcomeFetch (tag : Byte) (p : List Byte) (s : State) : Host.Outcome State Fault Refusal :=
  arrive ⟨0x40, tag, p⟩ (takeOutcomeFetch tag p) s

/-! ## The alarm requests (R151 to R153) -/

/-- R151. -/
def alarmRead (s : State) : Answer := ⟨s, okReply (le2 s.alarms.latched.toNat ++ le2 s.alarms.enabled.toNat)⟩

def takeAlarmRead (tag : Byte) (p : List Byte) : State → State :=
  takeRequest 0x41 tag (p.length == 0) (fun _ s => alarmRead s)

def execAlarmRead (tag : Byte) (p : List Byte) (s : State) : Host.Outcome State Fault Refusal :=
  arrive ⟨0x41, tag, p⟩ (takeAlarmRead tag p) s

/-- R152: every alarm of the set is cleared but a SAFE alarm whose hold is ON. -/
def State.clearAlarms (s : State) (set : BitVec 16) : State :=
  s.setAlarms { s.alarms with latched := s.alarms.latched &&& (~~~set ||| s.heldAlarms) }

/-- R152. -/
def alarmClear (p : List Byte) (s : State) : Answer :=
  let t := s.clearAlarms (BitVec.ofNat 16 (u16 p 0))
  ⟨t, okReply (le2 t.alarms.latched.toNat)⟩

def takeAlarmClear (tag : Byte) (p : List Byte) : State → State :=
  takeRequest 0x42 tag (p.length == 2) (fun _ s => alarmClear p s)

def execAlarmClear (tag : Byte) (p : List Byte) (s : State) : Host.Outcome State Fault Refusal :=
  arrive ⟨0x42, tag, p⟩ (takeAlarmClear tag p) s

/-- R153. -/
def alarmReportSet (p : List Byte) (s : State) : Answer :=
  let t := s.setAlarms { s.alarms with enabled := BitVec.ofNat 16 (u16 p 0) }
  ⟨t, okReply (le2 t.alarms.enabled.toNat ++ le2 t.alarms.latched.toNat)⟩

def takeAlarmReportSet (tag : Byte) (p : List Byte) : State → State :=
  takeRequest 0x43 tag (p.length == 2) (fun _ s => alarmReportSet p s)

def execAlarmReportSet (tag : Byte) (p : List Byte) (s : State) : Host.Outcome State Fault Refusal :=
  arrive ⟨0x43, tag, p⟩ (takeAlarmReportSet tag p) s

/-! ## STATUS (R156) -/

/-- The number of FREE shot slots. -/
def State.freeSlots (s : State) : Nat := s.slots.toList.countP (fun x => x.shot.isNone)

/-- The number of BUSY run slots. -/
def State.busyRuns (s : State) : Nat := s.runs.toList.countP (fun x => x.isSome)

/-- R156. -/
def status (s : State) : Answer :=
  ⟨s, okReply (s.lanes.toList.map (fun x => x.state.code) ++ le2 s.freeSlots ++ le1 s.busyRuns ++ le1 s.outcomes.length
    ++ le2 s.alarms.latched.toNat ++ [s.updateHold.code])⟩

def takeStatus (tag : Byte) (p : List Byte) : State → State :=
  takeRequest 0x02 tag (p.length == 0) (fun _ s => status s)

def execStatus (tag : Byte) (p : List Byte) (s : State) : Host.Outcome State Fault Refusal :=
  arrive ⟨0x02, tag, p⟩ (takeStatus tag p) s

/-! ## IDENT (R168) -/

/-- R168: vendor code, part code, revision and capacities, in the order of Table 11-12. -/
def identBytes : List Byte :=
  le2 0x0A7C ++ le2 0x019C ++ [1, 4, 2, 2] ++ le2 256 ++ [6, 32, 8, 12, 4, 8, 64, 4, 4, 8, 250]

/-- R168. -/
def ident (s : State) : Answer := ⟨s, okReply identBytes⟩

def takeIdent (tag : Byte) (p : List Byte) : State → State :=
  takeRequest 0x01 tag (p.length == 0) (fun _ s => ident s)

def execIdent (tag : Byte) (p : List Byte) (s : State) : Host.Outcome State Fault Refusal :=
  arrive ⟨0x01, tag, p⟩ (takeIdent tag p) s

end Sys2Proof.Machine
end

