-- ==== Sys2Proof/Machine/Programs.lean ====
section
/-! DEFINITION. Pulse programs and the update hold (Chapter 5): the requests of the program store. -/

namespace Sys2Proof.Machine

/-! ## PROGRAM_WRITE (R70 to R72) -/

/-- R70 check 2: the pulses of a payload in written order, or the index of the first pulse that fails. -/
def pulsesAt (p : List Byte) (k : Nat) : Nat → Except Nat (List Pulse)
  | 0 => .ok []
  | m + 1 =>
    match pulseAt p k with
    | none => .error k
    | some x =>
      match pulsesAt p (k + 1) m with
      | .error j => .error j
      | .ok xs => .ok (x :: xs)

/-- R70 check 3: for the later index `j` the smallest earlier index whose pulse overlaps it. -/
def overlapBefore (xs : List Pulse) (x : Pulse) (j : Nat) : Option (Nat × Nat) :=
  (xs.findIdx? (fun y => y.overlaps x)).map (fun i => (i, j))

/-- R70 check 3: the overlapping pair with the smallest later index, and among those the smallest earlier one. `before` are the
pulses already looked at, in written order. -/
def firstOverlap (before : List Pulse) : List Pulse → Option (Nat × Nat)
  | [] => none
  | x :: rest =>
    match overlapBefore before x before.length with
    | some ij => some ij
    | none => firstOverlap (before ++ [x]) rest

/-- R70: what a PROGRAM_WRITE payload comes to: the program and its version, or the reason and the failing item. -/
def writeCheck (p : List Byte) : Except (Reason × Byte × Byte) (ProgramId × Version) :=
  let n := u8 p 1
  match index? 32 (u8 p 0) with
  | none => .error (.badField, 0xFE, 0xFE)
  | some i =>
    if n = 0 ∨ 8 < n then .error (.badField, 0xFE, 0xFE)
    else
      match pulsesAt p 0 n with
      | .error k => .error (.badField, BitVec.ofNat 8 k, 0xFF)
      | .ok xs =>
        match firstOverlap [] xs with
        | some (a, b) => .error (.overlap, BitVec.ofNat 8 a, BitVec.ofNat 8 b)
        | none => .ok (i, ⟨xs, programEndOf xs⟩)

/-- R71, R72: a version becomes active, or staged while the hold is OPEN. -/
def State.storeVersion (s : State) (i : ProgramId) (v : Version) : State :=
  match s.updateHold with
  | .closed => s.setProgram i { s.programs[i] with active := some v }
  | .opened => s.setProgram i { s.programs[i] with staged := some v }

/-- R70 to R72. -/
def programWrite (p : List Byte) (s : State) : Answer :=
  match writeCheck p with
  | .error (r, a, b) => ⟨s, refusedWith r (zeros 7 ++ [a, b])⟩
  | .ok (i, v) =>
    ⟨s.storeVersion i v,
      okReply (le1 i.val ++ [s.updateHold.code] ++ le1 v.pulses.length ++ le4 v.programEnd ++ [0xFF, 0xFF])⟩

/-- R161: the length a PROGRAM_WRITE must have by its pulse count. -/
def programWriteLengthOk (p : List Byte) : Bool := decide (2 ≤ p.length) && p.length == 2 + 6 * u8 p 1

def takeProgramWrite (tag : Byte) (p : List Byte) : State → State :=
  takeRequest 0x20 tag (programWriteLengthOk p) (fun _ s => programWrite p s)

def execProgramWrite (tag : Byte) (p : List Byte) (s : State) : Host.Outcome State Fault Refusal :=
  arrive ⟨0x20, tag, p⟩ (takeProgramWrite tag p) s

/-! ## PROGRAM_READ (R73) -/

/-- Pulse count, program end and pulses of a version; the count 0 is the EMPTY marker. -/
def versionBytes (v : Option Version) : List Byte :=
  match v with
  | none => zeros 5
  | some v => le1 v.pulses.length ++ le4 v.programEnd ++ v.pulses.flatMap Pulse.bytes

/-- R73. -/
def programRead (p : List Byte) (s : State) : Answer :=
  match index? 32 (u8 p 0), bitOfCode (u8 p 1) with
  | some i, some staged =>
    let x := s.programs[i]
    ⟨s, okReply (le1 i.val ++ [flagByte staged, s.updateHold.code] ++ le2 x.refCount
      ++ versionBytes (if staged then x.staged else x.active))⟩
  | _, _ => ⟨s, refusedReply .badField 10⟩

def takeProgramRead (tag : Byte) (p : List Byte) : State → State :=
  takeRequest 0x21 tag (p.length == 2) (fun _ s => programRead p s)

def execProgramRead (tag : Byte) (p : List Byte) (s : State) : Host.Outcome State Fault Refusal :=
  arrive ⟨0x21, tag, p⟩ (takeProgramRead tag p) s

/-! ## PROGRAM_CLEAR (R74) -/

/-- The reply of PROGRAM_CLEAR: the program number, which R74 does not give, reads 0 (R162); then the reference count. -/
def Program.refBytes (x : Program) : List Byte := 0 :: le2 x.refCount

/-- R74. -/
def programClear (p : List Byte) (s : State) : Answer :=
  match index? 32 (u8 p 0) with
  | none => ⟨s, refusedReply .badField 3⟩
  | some i =>
    let x := s.programs[i]
    if s.updateHold = .opened then ⟨s, busyReply .updateHold 3⟩
    else if 0 < x.refCount then ⟨s, refusedWith .inUse x.refBytes⟩
    else ⟨s.setProgram i { x with active := none }, okReply x.refBytes⟩

def takeProgramClear (tag : Byte) (p : List Byte) : State → State :=
  takeRequest 0x22 tag (p.length == 1) (fun _ s => programClear p s)

def execProgramClear (tag : Byte) (p : List Byte) (s : State) : Host.Outcome State Fault Refusal :=
  arrive ⟨0x22, tag, p⟩ (takeProgramClear tag p) s

/-! ## The update hold (R75 to R77) -/

/-- R75. -/
def holdOpen (s : State) : Answer :=
  match s.updateHold with
  | .closed => ⟨{ s with updateHold := .opened }, okReply []⟩
  | .opened => ⟨s, refusedReply .badState 0⟩

def takeHoldOpen (tag : Byte) (p : List Byte) : State → State :=
  takeRequest 0x23 tag (p.length == 0) (fun _ s => holdOpen s)

def execHoldOpen (tag : Byte) (p : List Byte) (s : State) : Host.Outcome State Fault Refusal :=
  arrive ⟨0x23, tag, p⟩ (takeHoldOpen tag p) s

/-- The programs, in order. -/
def allPrograms : List ProgramId := List.finRange 32

/-- The programs that have a staged version. -/
def State.stagedPrograms (s : State) : List ProgramId := allPrograms.filter (fun i => (s.programs[i].staged).isSome)

/-- A program set: bit n stands for Pn (section 11.8). -/
def programSet (is : List ProgramId) : BitVec 32 := is.foldl (fun m i => m ||| BitVec.ofNat 32 (2 ^ i.val)) 0

/-- R76 steps 1 and 2 for one program. -/
def Program.released (x : Program) : Program :=
  { x with active := if x.staged.isSome then x.staged else x.active, staged := none }

/-- A program without a staged version (R77, R82). -/
def Program.discarded (x : Program) : Program := { x with staged := none }

/-- R76. -/
def holdRelease (s : State) : Answer :=
  match s.updateHold with
  | .closed => ⟨s, refusedReply .badState 5⟩
  | .opened =>
    ⟨{ s with programs := s.programs.map Program.released, updateHold := .closed },
      okReply (le1 s.stagedPrograms.length ++ le32 (programSet s.stagedPrograms))⟩

def takeHoldRelease (tag : Byte) (p : List Byte) : State → State :=
  takeRequest 0x24 tag (p.length == 0) (fun _ s => holdRelease s)

def execHoldRelease (tag : Byte) (p : List Byte) (s : State) : Host.Outcome State Fault Refusal :=
  arrive ⟨0x24, tag, p⟩ (takeHoldRelease tag p) s

/-- R77. -/
def holdDiscard (s : State) : Answer :=
  match s.updateHold with
  | .closed => ⟨s, refusedReply .badState 1⟩
  | .opened =>
    ⟨{ s with programs := s.programs.map Program.discarded, updateHold := .closed }, okReply (le1 s.stagedPrograms.length)⟩

def takeHoldDiscard (tag : Byte) (p : List Byte) : State → State :=
  takeRequest 0x25 tag (p.length == 0) (fun _ s => holdDiscard s)

def execHoldDiscard (tag : Byte) (p : List Byte) (s : State) : Host.Outcome State Fault Refusal :=
  arrive ⟨0x25, tag, p⟩ (takeHoldDiscard tag p) s

end Sys2Proof.Machine
end

