-- ==== Sys2Proof/Machine/Outputs.lean ====
section
/-! DEFINITION. Outputs (Chapter 7): the requests of the output stage. -/

namespace Sys2Proof.Machine

/-- The outputs, in order. -/
def allOutputs : List OutputId := List.finRange 12

/-- The reply of OUTPUT_SET and OUTPUT_DRIVE: the output number, which no rule gives, reads 0 (R162); then polarity, mode, static
level, held and active (R110, R112). -/
def State.outputBytes (s : State) (o : OutputId) : List Byte :=
  let x := s.outputs[o]
  [0, x.polarity.code, x.mode.code, x.level.code, flagByte (s.outputHeld o), flagByte (s.outputActive o)]

/-- The state after an accepted request of one output, with its reply. -/
def outputBecomes (s : State) (o : OutputId) : Answer := ⟨s, okReply (s.outputBytes o)⟩

/-! ## OUTPUT_SET (R110, R111) -/

/-- R96, R111: a run drops its hold on an output. -/
def Run.dropHold (o : OutputId) (r : Run) : Run := { r with held := r.held &&& ~~~ outputBit o }

/-- R111: every run slot leaves the holders of an output. -/
def State.dropHolds (s : State) (o : OutputId) : State := { s with runs := s.runs.map (fun r => r.map (Run.dropHold o)) }

/-- R110, R111: polarity and mode are written; a change of mode makes the static level INACTIVE, and to STATIC drops the holds. -/
def State.writeOutput (s : State) (o : OutputId) (pol : Polarity) (mode : OutputMode) : State :=
  let x := s.outputs[o]
  if x.mode = mode then s.setOutput o { x with polarity := pol }
  else
    let t := s.setOutput o { x with polarity := pol, mode := mode, level := .inactive }
    match mode with
    | .staticMode => t.dropHolds o
    | .pulseMode => t

/-- R110. -/
def outputSet (p : List Byte) (s : State) : Answer :=
  match index? 12 (u8 p 0), Polarity.ofCode (u8 p 1), OutputMode.ofCode (u8 p 2) with
  | some o, some pol, some mode =>
    if s.outputs[o].protect then ⟨s, refusedReply .isProtected 6⟩ else outputBecomes (s.writeOutput o pol mode) o
  | _, _, _ => ⟨s, refusedReply .badField 6⟩

def takeOutputSet (tag : Byte) (p : List Byte) : State → State :=
  takeRequest 0x28 tag (p.length == 3) (fun _ s => outputSet p s)

def execOutputSet (tag : Byte) (p : List Byte) (s : State) : Host.Outcome State Fault Refusal :=
  arrive ⟨0x28, tag, p⟩ (takeOutputSet tag p) s

/-! ## OUTPUT_DRIVE (R112) -/

/-- R112. -/
def outputDrive (p : List Byte) (s : State) : Answer :=
  match index? 12 (u8 p 0), DriveLevel.ofCode (u8 p 1) with
  | some o, some level =>
    let x := s.outputs[o]
    if x.protect then ⟨s, refusedReply .isProtected 6⟩
    else if x.mode = .pulseMode then ⟨s, refusedReply .badState 6⟩
    else if level == .active && s.outputHeld o then ⟨s, refusedReply .held 6⟩
    else outputBecomes (s.setOutput o { x with level := level }) o
  | _, _ => ⟨s, refusedReply .badField 6⟩

def takeOutputDrive (tag : Byte) (p : List Byte) : State → State :=
  takeRequest 0x29 tag (p.length == 2) (fun _ s => outputDrive p s)

def execOutputDrive (tag : Byte) (p : List Byte) (s : State) : Host.Outcome State Fault Refusal :=
  arrive ⟨0x29, tag, p⟩ (takeOutputDrive tag p) s

/-! ## OUTPUT_PROTECT (R113) -/

/-- The set of protected outputs. -/
def State.protectedSet (s : State) : BitVec 12 :=
  allOutputs.foldl (fun m o => if s.outputs[o].protect then m ||| outputBit o else m) 0

/-- R113: the protect flags of the outputs of a set take a value. -/
def State.protectOutputs (s : State) (set : Nat) (flag : Bool) : State :=
  { s with outputs := Vector.ofFn (fun o : OutputId =>
      if set.testBit o.val then { s.outputs[o] with protect := flag } else s.outputs[o]) }

/-- R113. -/
def outputProtect (p : List Byte) (s : State) : Answer :=
  let set := u16 p 1
  match bitOfCode (u8 p 0) with
  | none => ⟨s, refusedReply .badField 2⟩
  | some flag =>
    if 4096 ≤ set then ⟨s, refusedReply .badField 2⟩
    else
      let t := s.protectOutputs set flag
      ⟨t, okReply (le2 t.protectedSet.toNat)⟩

def takeOutputProtect (tag : Byte) (p : List Byte) : State → State :=
  takeRequest 0x2A tag (p.length == 3) (fun _ s => outputProtect p s)

def execOutputProtect (tag : Byte) (p : List Byte) (s : State) : Host.Outcome State Fault Refusal :=
  arrive ⟨0x2A, tag, p⟩ (takeOutputProtect tag p) s

/-! ## OUTPUT_READ (R114) -/

/-- The state byte and the holder count of an output (Table 11-12). Bit 7, which the table does not name, reads 0: DESIGN CHOICE
(log entry 31). -/
def State.outputStateBytes (s : State) (o : OutputId) : List Byte :=
  let x := s.outputs[o]
  le1 ((if x.polarity = .activeLow then 1 else 0) + (if x.mode = .staticMode then 2 else 0)
      + (if x.level = .active then 4 else 0) + (if x.protect then 8 else 0) + (if s.outputHeld o then 16 else 0)
      + (if s.outputActive o then 32 else 0) + (if s.pinLevel o = .high then 64 else 0))
    ++ le1 (s.holders o).length

/-- R114. -/
def outputRead (s : State) : Answer := ⟨s, okReply (allOutputs.flatMap s.outputStateBytes)⟩

def takeOutputRead (tag : Byte) (p : List Byte) : State → State :=
  takeRequest 0x2B tag (p.length == 0) (fun _ s => outputRead s)

def execOutputRead (tag : Byte) (p : List Byte) (s : State) : Host.Outcome State Fault Refusal :=
  arrive ⟨0x2B, tag, p⟩ (takeOutputRead tag p) s

end Sys2Proof.Machine
end

