-- ==== Sys2Proof/Machine/Safe.lean ====
section
/-! DEFINITION. Safe-stop inputs (Chapter 9): detections, the hold onset and the safe requests. -/

namespace Sys2Proof.Machine

/-! ## The hold onset (R134, R135) -/

/-- R115: the STATIC outputs of a set that become held take the level INACTIVE. -/
def State.forceInactive (s : State) (group : BitVec 12) : State :=
  { s with outputs := s.outputs.mapFinIdx (fun o x _ =>
      if group.getLsbD o && x.mode == .staticMode then { x with level := .inactive } else x) }

/-- R115, R97, R98: the outputs of a set become held: they go inactive, and the runs that name them are aborted. -/
def State.holdOutputs (s : State) (group : BitVec 12) : State := (s.forceInactive group).abortNaming group

/-- R135: the hold onset of input `n`, its five steps in their order. -/
def State.onset (s : State) (n : SafeId) : State :=
  let x := s.safes[n]
  (((s.setSafe n { x with hold := true }).holdOutputs x.group).haltLanes x.binding).latch (.safe n)

/-- R134 to R136: the pin of input `n` changes to `level`. -/
def State.safePin (s : State) (n : SafeId) (level : Level) : State :=
  let x := s.safes[n]
  let t := s.setSafe n { x with pin := level }
  if x.detection.detects level && !x.hold then t.onset n else t

/-- SAFE_PIN_CHANGE (R134). A level the pin has already is no edge; while RSTN is low only the pin moves. -/
def execSafePinChange (n : SafeId) (level : Level) (s : State) : Host.Outcome State Fault Refusal :=
  let x := s.safes[n]
  if x.pin = level then .next s
  else
    match s.phase with
    | .coldReset => .next (s.setSafe n { x with pin := level })
    | _ => done (s.safePin n level)

/-! ## SAFE_UNLOCK (R137) -/

/-- R137: the flag, closed at the taking, is set. -/
def safeUnlock (s : State) : Answer := ⟨{ s with unlock := true }, okReply []⟩

def takeSafeUnlock (tag : Byte) (p : List Byte) : State → State :=
  takeRequest 0x38 tag (p.length == 0) (fun _ s => safeUnlock s)

def execSafeUnlock (tag : Byte) (p : List Byte) (s : State) : Host.Outcome State Fault Refusal :=
  arrive ⟨0x38, tag, p⟩ (takeSafeUnlock tag p) s

/-! ## SAFE_SET (R138, R139) -/

/-- The three settings of a SAFE_SET payload (Table 11-10), when they are in range. -/
def safeSettingsAt (p : List Byte) : Option (Detection × BitVec 12 × BitVec 4) :=
  let group := u16 p 2
  let binding := u8 p 4
  match Detection.ofCode (u8 p 1) with
  | none => none
  | some d => if 4096 ≤ group ∨ 16 ≤ binding then none else some (d, BitVec.ofNat 12 group, BitVec.ofNat 4 binding)

/-- R139: the settings are installed, with the effects the hold gives them. -/
def State.installSafe (s : State) (n : SafeId) (d : Detection) (group : BitVec 12) (binding : BitVec 4) : State :=
  let x := s.safes[n]
  let t := s.setSafe n { x with detection := d, group := group, binding := binding }
  if x.hold then (t.holdOutputs (group &&& ~~~x.group)).haltLanes (binding &&& ~~~x.binding)
  else if d.showing x.pin then t.onset n
  else t

/-- The reply of SAFE_SET (Table 11-10): the input number, which R138 does not give, reads 0 (R162); then detection, group, binding,
hold and pin level. -/
def State.safeBytes (s : State) (n : SafeId) : List Byte :=
  let x := s.safes[n]
  [0, x.detection.code] ++ le2 x.group.toNat ++ le1 x.binding.toNat ++ [flagByte x.hold, levelCode x.pin]

/-- R138, R139. -/
def safeSet (noted : Bool) (p : List Byte) (s : State) : Answer :=
  if noted then
    match index? 2 (u8 p 0), safeSettingsAt p with
    | some n, some (d, g, b) =>
      let t := s.installSafe n d g b
      ⟨t, okReply (t.safeBytes n)⟩
    | _, _ => ⟨s, refusedReply .badField 7⟩
  else ⟨s, refusedReply .locked 7⟩

def takeSafeSet (tag : Byte) (p : List Byte) : State → State :=
  takeRequest 0x39 tag (p.length == 5) (fun noted s => safeSet noted p s)

def execSafeSet (tag : Byte) (p : List Byte) (s : State) : Host.Outcome State Fault Refusal :=
  arrive ⟨0x39, tag, p⟩ (takeSafeSet tag p) s

/-! ## SAFE_RELEASE (R140) -/

/-- Hold and pin level. -/
def SafeInput.holdBytes (x : SafeInput) : List Byte := [flagByte x.hold, levelCode x.pin]

/-- R140: the reply carries hold and pin level, refused HELD too (log entry 15). -/
def safeRelease (p : List Byte) (s : State) : Answer :=
  match index? 2 (u8 p 0) with
  | none => ⟨s, refusedReply .badField 2⟩
  | some n =>
    let x := s.safes[n]
    if x.hold && x.detection.showing x.pin then ⟨s, refusedWith .held x.holdBytes⟩
    else
      let x := { x with hold := false }
      ⟨s.setSafe n x, okReply x.holdBytes⟩

def takeSafeRelease (tag : Byte) (p : List Byte) : State → State :=
  takeRequest 0x3A tag (p.length == 1) (fun _ s => safeRelease p s)

def execSafeRelease (tag : Byte) (p : List Byte) (s : State) : Host.Outcome State Fault Refusal :=
  arrive ⟨0x3A, tag, p⟩ (takeSafeRelease tag p) s

/-! ## SAFE_READ (R141) -/

/-- One input in a SAFE_READ reply. -/
def SafeInput.bytes (x : SafeInput) : List Byte :=
  [x.detection.code] ++ le2 x.group.toNat ++ le1 x.binding.toNat
    ++ [flagByte x.hold, levelCode x.pin, flagByte (x.detection.showing x.pin)]

/-- R141. -/
def safeRead (noted : Bool) (s : State) : Answer :=
  ⟨s, okReply ([flagByte noted] ++ s.safes[0].bytes ++ s.safes[1].bytes)⟩

def takeSafeRead (tag : Byte) (p : List Byte) : State → State :=
  takeRequest 0x3B tag (p.length == 0) (fun noted s => safeRead noted s)

def execSafeRead (tag : Byte) (p : List Byte) (s : State) : Host.Outcome State Fault Refusal :=
  arrive ⟨0x3B, tag, p⟩ (takeSafeRead tag p) s

end Sys2Proof.Machine
end

