-- ==== Sys2Proof/Machine/Reset.lean ====
section
/-! DEFINITION. The resets and the start-up (R166, R167 and the reset rule of each chapter): RESET, COLD_RESET, RSTN_RISE and
START. -/

namespace Sys2Proof.Machine

/-! ## Warm values -/

/-- Table 1-2, warm (R13). -/
def Encoder.warm (x : Encoder) : Encoder := { x with indexSeen := false }

/-- Table 1-3, warm (R18): a pending interval is discarded, not promoted. -/
def Pacer.warm (x : Pacer) : Pacer := { x with pendingInterval := none, running := false, intervalStart := none }

/-- Table 2-4, warm (R32). -/
def Lane.warm (x : Lane) : Lane := { x with state := .off, queue := [] }

/-- Table 3-4, warm (R51): the generation is kept. -/
def Slot.warm (x : Slot) : Slot := { x with shot := none }

/-- Table 5-3, warm (R82). -/
def Program.warm (x : Program) : Program := { x with staged := none, refCount := 0 }

/-- Table 7-2, warm (R117). -/
def Output.warm (x : Output) : Output := { x with level := .inactive }

/-- Table 8-4, warm (R133). -/
def Camera.warm (x : Camera) : Camera := { x with counter := 0, settle := 0, lastTrigger := none, elapsed := 0, queue := [] }

/-- R167, steps 1 to 3: what is received and what waits is discarded, the frame in transmission goes on. -/
def Link.warm (x : Link) : Link :=
  { x with rx := .hunt, receiving := false, gapTimer := 0, rxBuffer := [], replies := [], reports := [], deferred := [] }

/-- R167: every block takes its warm values, and the part is on its way to START. -/
def State.warmReset (s : State) : State :=
  { s with
    phase := .starting .warm
    startTimer := 0
    encoders := s.encoders.map Encoder.warm
    pacers := s.pacers.map Pacer.warm
    lanes := s.lanes.map Lane.warm
    slots := s.slots.map Slot.warm
    programs := s.programs.map Program.warm
    updateHold := .closed
    runs := Vector.replicate 6 none
    outputs := s.outputs.map Output.warm
    cameras := s.cameras.map Camera.warm
    unlock := false
    outcomes := []
    alarms := { s.alarms with latched := s.alarms.latched &&& s.heldAlarms }
    link := s.link.warm }

/-! ## RESET (R167) -/

/-- R161, R167: the taking of RESET; an accepted one has no reply. -/
def takeReset (tag : Byte) (p : List Byte) (s : State) : State :=
  match p with
  | [] => s.closeUnlock.warmReset
  | _ :: _ => s.closeUnlock.queueReply 0x03 tag (refusedWith .badLength [])

def execReset (tag : Byte) (p : List Byte) (s : State) : Host.Outcome State Fault Refusal :=
  arrive ⟨0x03, tag, p⟩ (takeReset tag p) s

/-! ## COLD_RESET and RSTN_RISE (R1, R3, R157, R166) -/

/-- R166: every block at its cold values; the input pins stand where they stood. The queue of commands and the count of free
choices are the model's own and go on. -/
def State.coldValues (s : State) : State :=
  { State.cold (s.encoders.map Encoder.pins) (s.cameras.map Camera.fs) (s.safes.map SafeInput.pin) with
    arbiter := s.arbiter
    pending := s.pending }

/-- COLD_RESET (R166). -/
def execColdReset (s : State) : Host.Outcome State Fault Refusal := .next s.coldValues

/-- R3: at the rise of RSTN the filtered levels and the decoder reference take the pins' levels, without a count event. -/
def Encoder.captured (x : Encoder) : Encoder :=
  { x with filtered := x.pins, referenceA := x.pins.a, referenceB := x.pins.b, timing := ⟨none, none, none⟩ }

/-- R166, R157: the cold reset is over; the straps are sampled and the timestamp counts from 0. -/
def State.rise (s : State) (straps : BitVec 2) : State :=
  { s with
    phase := .starting .cold
    startTimer := 0
    timestamp := 0
    halfTick := false
    encoders := s.encoders.map Encoder.captured
    link := { s.link with baud := straps } }

/-- RSTN_RISE. RSTN can rise only where it is low. -/
def execRstnRise (straps : BitVec 2) (s : State) : Host.Outcome State Fault Refusal :=
  match s.phase with
  | .coldReset => .next (s.rise straps)
  | _ => .next s

/-! ## START (R166, R167) -/

/-- START is queued, then the ALARM reports that waited for it, and the receiver starts in HUNT. -/
def State.begun (s : State) (c : StartCause) : State :=
  { s with
    phase := .running
    link := s.link.deferred.foldl Link.queueReport
      ({ s.link with rx := .hunt, gapTimer := 0, deferred := [] }.queueReport (.start c s.link.baud)) }

/-- START: due only between a reset and service. -/
def execStart (s : State) : Host.Outcome State Fault Refusal :=
  match s.phase with
  | .starting c => done (s.begun c)
  | _ => .next s

end Sys2Proof.Machine
end

