-- ==== Sys2Proof/Machine/Take.lean ====
section
/-! DEFINITION. The link's taking of a frame by its KIND (R161, Table 11-12): what a frame that waited in the receive buffer
does when its turn comes, and UNKNOWN_KIND. -/

namespace Sys2Proof.Machine

/-- R161 step 2: the KIND names no request. -/
def takeUnknown (kind tag : Byte) (s : State) : State := s.closeUnlock.queueReply kind tag (refusedWith .unknownKind [])

/-- The taking of a frame, by the KIND codes of Table 11-12. -/
def takeFrame (f : Frame) (s : State) : State :=
  match f.kind.toNat with
  | 0x01 => takeIdent f.tag f.payload s
  | 0x02 => takeStatus f.tag f.payload s
  | 0x03 => takeReset f.tag f.payload s
  | 0x08 => takeEncoderSet f.tag f.payload s
  | 0x09 => takeEncoderRead f.tag f.payload s
  | 0x0A => takePacerSet f.tag f.payload s
  | 0x0B => takePacerRun f.tag f.payload s
  | 0x0C => takePacerRead f.tag f.payload s
  | 0x10 => takeLaneSet f.tag f.payload s
  | 0x11 => takeLaneArm f.tag f.payload s
  | 0x12 => takeLanePause f.tag f.payload s
  | 0x13 => takeLaneResume f.tag f.payload s
  | 0x14 => takeLaneDisarm f.tag f.payload s
  | 0x15 => takeLaneRead f.tag f.payload s
  | 0x18 => takeSubmit f.tag f.payload s
  | 0x19 => takeCancel f.tag f.payload s
  | 0x1A => takeShotRead f.tag f.payload s
  | 0x1B => takeAmend f.tag f.payload s
  | 0x1C => takeAmendPair f.tag f.payload s
  | 0x20 => takeProgramWrite f.tag f.payload s
  | 0x21 => takeProgramRead f.tag f.payload s
  | 0x22 => takeProgramClear f.tag f.payload s
  | 0x23 => takeHoldOpen f.tag f.payload s
  | 0x24 => takeHoldRelease f.tag f.payload s
  | 0x25 => takeHoldDiscard f.tag f.payload s
  | 0x28 => takeOutputSet f.tag f.payload s
  | 0x29 => takeOutputDrive f.tag f.payload s
  | 0x2A => takeOutputProtect f.tag f.payload s
  | 0x2B => takeOutputRead f.tag f.payload s
  | 0x30 => takeCameraSet f.tag f.payload s
  | 0x31 => takeCameraSettle f.tag f.payload s
  | 0x32 => takeCameraRead f.tag f.payload s
  | 0x38 => takeSafeUnlock f.tag f.payload s
  | 0x39 => takeSafeSet f.tag f.payload s
  | 0x3A => takeSafeRelease f.tag f.payload s
  | 0x3B => takeSafeRead f.tag f.payload s
  | 0x40 => takeOutcomeFetch f.tag f.payload s
  | 0x41 => takeAlarmRead f.tag f.payload s
  | 0x42 => takeAlarmClear f.tag f.payload s
  | 0x43 => takeAlarmReportSet f.tag f.payload s
  | _ => takeUnknown f.kind f.tag s

/-- UNKNOWN_KIND (R161): a frame of any other KIND comes in. -/
def execUnknownKind (kind tag : Byte) (p : List Byte) (s : State) : Host.Outcome State Fault Refusal :=
  arrive ⟨kind, tag, p⟩ (takeFrame ⟨kind, tag, p⟩) s

/-- R161: a frame waits and a reply place is free. -/
def State.takeDue (s : State) : Bool :=
  s.phase == .running && !s.link.rxBuffer.isEmpty && decide (s.link.replies.length < Config.replyPlaces)

/-- R161: the oldest frame leaves the receive buffer and is taken. -/
def State.takeOldest (s : State) : State :=
  match s.link.rxBuffer with
  | [] => s
  | f :: rest => takeFrame f (s.setLink { s.link with rxBuffer := rest })

end Sys2Proof.Machine
end

