-- ==== Sys2Proof/Machine/Time.lean ====
section
/-! DEFINITION. What happens of itself when no command waits: an event of the part's own that is due is carried out, or else half
a tick passes (log entry 4); and ENCODER_PIN_CHANGE, which the part sees at a whole tick (log entry 20). -/

namespace Sys2Proof.Machine

/-! ## Half a tick (00_scope.md 5.1, R1) -/

/-- The timed pins of an encoder have held their levels for half a tick more (R3). -/
def EncoderTiming.advance (t : EncoderTiming) : EncoderTiming := ⟨t.a.map (· + 1), t.b.map (· + 1), t.z.map (· + 1)⟩

def Encoder.advance (x : Encoder) : Encoder := { x with timing := x.timing.advance }

/-- R119: the elapsed time counts ticks while a last trigger start is present, up to 2^24. -/
def Camera.tick (x : Camera) : Camera :=
  if x.lastTrigger.isSome then { x with elapsed := min Config.longSpan (x.elapsed + 1) } else x

/-- R91: the run position is the time since the fire, in half ticks. -/
def Run.advance (r : Run) : Run := { r with position := r.position + 1, eventDone := false }

/-- The gap timer runs in every receiver state but HUNT until a start bit comes (R159); the transmission goes on. -/
def Link.advance (x : Link) : Link :=
  { x with gapTimer := if x.rx = .hunt ∨ x.receiving = true then x.gapTimer else x.gapTimer + 1,
           txTimer := if x.tx.isSome then x.txTimer + 1 else x.txTimer }

/-- Half a tick passes; at the end of the second half the timestamp counts (R1). -/
def State.halfTickPasses (s : State) : State :=
  { s with
    halfTick := !s.halfTick
    timestamp := if s.halfTick then s.timestamp + 1 else s.timestamp
    startTimer := if s.phase = .running then s.startTimer else s.startTimer + 1
    encoders := s.encoders.map Encoder.advance
    runs := s.runs.map (fun r => r.map Run.advance)
    cameras := if s.halfTick then s.cameras.map Camera.tick else s.cameras
    link := s.link.advance }

/-! ## What is due -/

/-- The time the part takes from a reset to START: the free value, within the limit (R166, R167). -/
def startTime : StartCause → Nat
  | .cold => min Config.coldStartLimit (Config.startDelay true)
  | .warm => min Config.warmStartLimit (Config.startDelay false)

/-- START is due. -/
def State.startReady (s : State) : Bool :=
  match s.phase with
  | .starting c => decide (startTime c ≤ s.startTimer)
  | _ => false

/-- The frame in transmission is out. -/
def Link.txOver (x : Link) : Bool :=
  match x.tx with
  | none => false
  | some f => decide (frameTime x.baud f.lineBytes ≤ x.txTimer)

/-- What the part can do of itself. -/
abbrev Act := State → Host.Outcome State Fault Refusal

/-- The event due in a run slot: starts, ends and completion of a run at one position are one event (R92). -/
def State.runDue (s : State) (k : RunSlotId) : List Act :=
  match s.runs[k] with
  | none => []
  | some r =>
    if r.completionDue then [execRunCompletion k]
    else if r.startDue then [execPulseStart k]
    else if r.endDue then [execPulseEnd k]
    else []

/-- The link takes its oldest waiting frame (R161). -/
def execTakeOldest (s : State) : Host.Outcome State Fault Refusal := if s.takeDue then done s.takeOldest else .next s

/-- The encoder channels and the pacers, in order. -/
def allEncoders : List EncoderId := List.finRange 2
def allPacers : List PacerId := List.finRange 2

/-- Every event of the part's own that is due now. -/
def State.dueEvents (s : State) : List Act :=
  (allEncoders.filter s.changeReady).map execFilteredChange
    ++ (allPacers.filter (fun n => s.pacers[n].expiryDue s.timestamp)).map execPacerExpiry
    ++ allRunSlots.flatMap s.runDue
    ++ (allCameras.filter (fun c => s.cameras[c].deadlineDue s.timestamp)).map execDeadlineExpiry
    ++ (if s.link.gapDue then [execGapTimeout] else [])
    ++ (if s.link.txOver then [execTransmitFrameEnd] else [])
    ++ (if s.startReady then [execStart] else [])
    ++ (if s.takeDue then [execTakeOldest] else [])

/-- A choice among several due events has been made. -/
def State.chosen (s : State) (n : Nat) : State := if n ≤ 1 then s else { s with arbiter := s.arbiter + n }

/-- No command waits. While RSTN is low the part does nothing (R166); else one due event is carried out, in an order nobody says
(log entry 5), or half a tick passes. -/
def idle (s : State) : Host.Outcome State Fault Refusal :=
  match s.phase with
  | .coldReset => .next s
  | _ =>
    match anyOrder s.arbiter s.dueEvents with
    | [] => .next s.halfTickPasses
    | e :: _ => e (s.chosen s.dueEvents.length)

/-! ## Whole ticks (00_scope.md 5.1, R88, R121, R126) -/

/-- The part goes on of itself until the tick is over: the events of its second half, then the half tick. After `fuel` steps of
its own the half tick passes at once. -/
def State.endTick : (fuel : Nat) → State → State
  | 0, s => if s.halfTick then s.halfTickPasses else s
  | fuel + 1, s =>
    if s.halfTick then
      match idle s with
      | .next t => t.endTick fuel
      | _ => s.halfTickPasses
    else s

/-- More events than the part can have due in one half tick: 6 runs, 4 frames to take, a frame to send, a gap, START. -/
def eventsPerHalfTick : Nat := 32

/-- The whole tick at which a pin change is seen: now, or in the second half of a tick its end. -/
def State.wholeTick (s : State) : State := s.endTick eventsPerHalfTick

/-- ENCODER_PIN_CHANGE (R3), seen at a whole tick, so that every count event and every fire falls on one (log entry 20). While
RSTN is low the channels decode nothing and only the pins move (R13). -/
def execEncoderPinChange (n : EncoderId) (z : EncoderPins) (s : State) : Host.Outcome State Fault Refusal :=
  match s.phase with
  | .coldReset => .next (s.setEncoder n { s.encoders[n] with pins := z })
  | _ => done (s.wholeTick.encoderPins n z)

end Sys2Proof.Machine
end

