-- ==== Sys2Proof/Machine/Dispatch.lean ====
section
/-! DEFINITION. The meaning of every command: one arm per constructor of Instr, each one direct call. -/

namespace Sys2Proof.Machine

def exec (i : Instr) (s : State) : Host.Outcome State Fault Refusal :=
  match i with
  | .ident tag p => Sys2Proof.Machine.execIdent tag p s
  | .status tag p => Sys2Proof.Machine.execStatus tag p s
  | .reset tag p => Sys2Proof.Machine.execReset tag p s
  | .unknownKind kind tag p => Sys2Proof.Machine.execUnknownKind kind tag p s
  | .encoderSet tag p => Sys2Proof.Machine.execEncoderSet tag p s
  | .encoderRead tag p => Sys2Proof.Machine.execEncoderRead tag p s
  | .pacerSet tag p => Sys2Proof.Machine.execPacerSet tag p s
  | .pacerRun tag p => Sys2Proof.Machine.execPacerRun tag p s
  | .pacerRead tag p => Sys2Proof.Machine.execPacerRead tag p s
  | .laneSet tag p => Sys2Proof.Machine.execLaneSet tag p s
  | .laneArm tag p => Sys2Proof.Machine.execLaneArm tag p s
  | .lanePause tag p => Sys2Proof.Machine.execLanePause tag p s
  | .laneResume tag p => Sys2Proof.Machine.execLaneResume tag p s
  | .laneDisarm tag p => Sys2Proof.Machine.execLaneDisarm tag p s
  | .laneRead tag p => Sys2Proof.Machine.execLaneRead tag p s
  | .submit tag p => Sys2Proof.Machine.execSubmit tag p s
  | .cancel tag p => Sys2Proof.Machine.execCancel tag p s
  | .shotRead tag p => Sys2Proof.Machine.execShotRead tag p s
  | .amend tag p => Sys2Proof.Machine.execAmend tag p s
  | .amendPair tag p => Sys2Proof.Machine.execAmendPair tag p s
  | .programWrite tag p => Sys2Proof.Machine.execProgramWrite tag p s
  | .programRead tag p => Sys2Proof.Machine.execProgramRead tag p s
  | .programClear tag p => Sys2Proof.Machine.execProgramClear tag p s
  | .holdOpen tag p => Sys2Proof.Machine.execHoldOpen tag p s
  | .holdRelease tag p => Sys2Proof.Machine.execHoldRelease tag p s
  | .holdDiscard tag p => Sys2Proof.Machine.execHoldDiscard tag p s
  | .outputSet tag p => Sys2Proof.Machine.execOutputSet tag p s
  | .outputDrive tag p => Sys2Proof.Machine.execOutputDrive tag p s
  | .outputProtect tag p => Sys2Proof.Machine.execOutputProtect tag p s
  | .outputRead tag p => Sys2Proof.Machine.execOutputRead tag p s
  | .cameraSet tag p => Sys2Proof.Machine.execCameraSet tag p s
  | .cameraSettle tag p => Sys2Proof.Machine.execCameraSettle tag p s
  | .cameraRead tag p => Sys2Proof.Machine.execCameraRead tag p s
  | .safeUnlock tag p => Sys2Proof.Machine.execSafeUnlock tag p s
  | .safeSet tag p => Sys2Proof.Machine.execSafeSet tag p s
  | .safeRelease tag p => Sys2Proof.Machine.execSafeRelease tag p s
  | .safeRead tag p => Sys2Proof.Machine.execSafeRead tag p s
  | .outcomeFetch tag p => Sys2Proof.Machine.execOutcomeFetch tag p s
  | .alarmRead tag p => Sys2Proof.Machine.execAlarmRead tag p s
  | .alarmClear tag p => Sys2Proof.Machine.execAlarmClear tag p s
  | .alarmReportSet tag p => Sys2Proof.Machine.execAlarmReportSet tag p s
  | .encoderPinChange n pins => Sys2Proof.Machine.execEncoderPinChange n pins s
  | .filteredChange n => Sys2Proof.Machine.execFilteredChange n s
  | .pacerExpiry n => Sys2Proof.Machine.execPacerExpiry n s
  | .pulseStart k => Sys2Proof.Machine.execPulseStart k s
  | .pulseEnd k => Sys2Proof.Machine.execPulseEnd k s
  | .runCompletion k => Sys2Proof.Machine.execRunCompletion k s
  | .frameStart c level => Sys2Proof.Machine.execFrameStart c level s
  | .deadlineExpiry c => Sys2Proof.Machine.execDeadlineExpiry c s
  | .safePinChange n level => Sys2Proof.Machine.execSafePinChange n level s
  | .rxByte b m => Sys2Proof.Machine.execRxByte b m s
  | .gapTimeout => Sys2Proof.Machine.execGapTimeout s
  | .transmitFrameEnd => Sys2Proof.Machine.execTransmitFrameEnd s
  | .coldReset => Sys2Proof.Machine.execColdReset s
  | .rstnRise straps => Sys2Proof.Machine.execRstnRise straps s
  | .start => Sys2Proof.Machine.execStart s
  | .rxdReturnHigh => Sys2Proof.Machine.execRxdReturnHigh s

end Sys2Proof.Machine
end

