-- ==== Sys2Proof/Safety.lean ====
section
/-! DEFINITION. The vocabulary of the statements: a link that is free, a request that has been answered, and the properties of
the state that every step keeps. -/

namespace Sys2Proof.Machine

/-! ## Requests and their answers -/

/-- The link takes a request at once: service has begun, no frame waits before it, a reply place is free (R161). -/
abbrev LinkFree (s : State) : Prop :=
  s.phase = .running ∧ s.link.rxBuffer = [] ∧ s.link.replies.length < 4

/-- `s` after a request is answered: the unlock flag is closed (R137), the reply is queued, and an idle transmitter begins. -/
def replied (s : State) (kind tag : Byte) (reply : List Byte) : State :=
  { s with unlock := false, link := Link.begin { s.link with replies := s.link.replies ++ [⟨kind, tag, reply⟩] } }

/-- The link can take a request of a known KIND only by its rule: KIND, right length, tag and payload of the requests of fixed
length (Table 11-12). -/
def fixedRequest : Instr → Option (Byte × Nat × Byte × List Byte)
  | .ident t p => some (0x01, 0, t, p)
  | .status t p => some (0x02, 0, t, p)
  | .reset t p => some (0x03, 0, t, p)
  | .encoderSet t p => some (0x08, 11, t, p)
  | .encoderRead t p => some (0x09, 2, t, p)
  | .pacerSet t p => some (0x0A, 10, t, p)
  | .pacerRun t p => some (0x0B, 2, t, p)
  | .pacerRead t p => some (0x0C, 1, t, p)
  | .laneSet t p => some (0x10, 19, t, p)
  | .laneArm t p => some (0x11, 1, t, p)
  | .lanePause t p => some (0x12, 1, t, p)
  | .laneResume t p => some (0x13, 1, t, p)
  | .laneDisarm t p => some (0x14, 1, t, p)
  | .laneRead t p => some (0x15, 1, t, p)
  | .cancel t p => some (0x19, 2, t, p)
  | .shotRead t p => some (0x1A, 1, t, p)
  | .amend t p => some (0x1B, 8, t, p)
  | .amendPair t p => some (0x1C, 16, t, p)
  | .programRead t p => some (0x21, 2, t, p)
  | .programClear t p => some (0x22, 1, t, p)
  | .holdOpen t p => some (0x23, 0, t, p)
  | .holdRelease t p => some (0x24, 0, t, p)
  | .holdDiscard t p => some (0x25, 0, t, p)
  | .outputSet t p => some (0x28, 3, t, p)
  | .outputDrive t p => some (0x29, 2, t, p)
  | .outputProtect t p => some (0x2A, 3, t, p)
  | .outputRead t p => some (0x2B, 0, t, p)
  | .cameraSet t p => some (0x30, 11, t, p)
  | .cameraSettle t p => some (0x31, 2, t, p)
  | .cameraRead t p => some (0x32, 1, t, p)
  | .safeUnlock t p => some (0x38, 0, t, p)
  | .safeSet t p => some (0x39, 5, t, p)
  | .safeRelease t p => some (0x3A, 1, t, p)
  | .safeRead t p => some (0x3B, 0, t, p)
  | .outcomeFetch t p => some (0x40, 1, t, p)
  | .alarmRead t p => some (0x41, 0, t, p)
  | .alarmClear t p => some (0x42, 2, t, p)
  | .alarmReportSet t p => some (0x43, 2, t, p)
  | _ => none

/-- The frame a request command is (Table 11-2); an event is none. -/
def requestFrame : Instr → Option Frame
  | .submit t p => some ⟨0x18, t, p⟩
  | .programWrite t p => some ⟨0x20, t, p⟩
  | .unknownKind k t p => some ⟨k, t, p⟩
  | i => (fixedRequest i).map (fun x => ⟨x.1, x.2.2.1, x.2.2.2⟩)

/-! ## Properties every step keeps -/

/-- R145, R160, R163: the outcome queue, the receive buffer, the reply buffer and the report queue hold no more than their places. -/
def State.withinCapacity (s : State) : Prop :=
  s.outcomes.length ≤ 64 ∧ s.link.rxBuffer.length ≤ 4 ∧ s.link.replies.length ≤ 4 ∧ s.link.reports.length ≤ 8

/-- R29, R85, R115, R143: what stands while the hold of a safe input is ON: its alarm is latched, every lane of its binding is
OFF or HALTED, every output of its group has the static level INACTIVE, and no run names an output of its group. -/
def State.holdsStand (s : State) : Prop :=
  ∀ n : SafeId, s.safes[n].hold = true →
    s.alarms.isLatched (.safe n) = true ∧
    (∀ l : LaneId, s.safes[n].binding.getLsbD l.val = true → s.lanes[l].state = .off ∨ s.lanes[l].state = .halted) ∧
    (∀ o : OutputId, s.safes[n].group.getLsbD o.val = true → s.outputs[o].level = .inactive) ∧
    (∀ (k : RunSlotId) (r : Run), s.runs[k] = some r → ∀ x ∈ r.pulses, s.safes[n].group.getLsbD x.output.val = false)

/-- R105: in STATIC mode the holders are empty, in PULSE mode the static level is INACTIVE. -/
def State.modesStand (s : State) : Prop :=
  ∀ o : OutputId, (s.outputs[o].mode = .pulseMode → s.outputs[o].level = .inactive) ∧
    (s.outputs[o].mode = .staticMode → s.holders o = [])

/-- R68 to R70: 1 to 8 pulses with every field in range, no two overlapping, and the program end kept with them. -/
def Version.sound (v : Version) : Prop :=
  1 ≤ v.pulses.length ∧ v.pulses.length ≤ 8 ∧
  (∀ x ∈ v.pulses, x.start ≤ 65534 ∧ 1 ≤ x.width ∧ x.start + x.width ≤ 65535) ∧
  v.pulses.Pairwise (fun x y => x.overlaps y = false) ∧
  (∃ x ∈ v.pulses, v.programEnd = x.ends) ∧ (∀ x ∈ v.pulses, x.ends ≤ v.programEnd)

/-- R66: staged versions exist only while the hold is OPEN, and every stored version is sound. -/
def State.storeSound (s : State) : Prop :=
  (s.updateHold = .closed → ∀ i : ProgramId, s.programs[i].staged = none) ∧
  ∀ (i : ProgramId) (v : Version), s.programs[i].active = some v ∨ s.programs[i].staged = some v → v.sound

/-- R90: a camera's expectations plus its reserved places never exceed 8. -/
def State.placesSound (s : State) : Prop := ∀ c : CameraId, s.cameras[c].queue.length + s.reservedOn c ≤ 8

/-- Slot `h` holds a QUEUED shot. -/
def State.waits (s : State) (h : Handle) (sh : Shot) : Prop := s.slots[h].shot = some sh ∧ sh.phase = .queued

/-- R33, R83: a slot is QUEUED exactly when it stands in one lane queue, its lane's, once; it is FIRING exactly when one run slot
holds it; an OFF lane's queue is empty (R36). -/
def State.poolSound (s : State) : Prop :=
  (∀ l : LaneId, s.lanes[l].queue.Nodup) ∧
  (∀ (l : LaneId) (h : Handle), h ∈ s.lanes[l].queue ↔ ∃ sh, s.waits h sh ∧ sh.lane = l) ∧
  (∀ l : LaneId, s.lanes[l].state = .off → s.lanes[l].queue = []) ∧
  (∀ (k : RunSlotId) (r : Run), s.runs[k] = some r →
    ∃ sh, s.slots[r.handle].shot = some sh ∧ sh.phase = .firing ∧ sh.runSlot = some k) ∧
  (∀ (h : Handle) (sh : Shot), s.slots[h].shot = some sh → sh.phase = .firing →
    ∃ (k : RunSlotId) (r : Run), s.runs[k] = some r ∧ r.handle = h)

/-- Whether slot `h` is QUEUED with program `i`. -/
def State.waitsFor (s : State) (i : ProgramId) (h : Handle) : Bool :=
  match s.slots[h].shot with
  | none => false
  | some sh => sh.phase == .queued && sh.program == i

/-- R38: a reference count is the number of QUEUED shots that name the program, and each of them names a DEFINED one. -/
def State.refsSound (s : State) : Prop :=
  (∀ i : ProgramId, s.programs[i].refCount = allHandles.countP (s.waitsFor i)) ∧
  ∀ (h : Handle) (sh : Shot), s.waits h sh → (s.programs[sh.program].active).isSome = true

/-- The ranges of Table 2-1. -/
def LaneSettings.inRange (c : LaneSettings) : Prop :=
  1 ≤ c.lead ∧ c.lead ≤ c.horizon ∧ c.horizon ≤ 16777216 ∧ 1 ≤ c.spacing ∧ 1 ≤ c.quota ∧ c.quota ≤ 256

/-- R36: the ahead-distances of a lane queue lie from 1 to the horizon, ascend by at least the spacing, and are no more than the
quota in number. -/
def State.queuesOrdered (s : State) : Prop :=
  ∀ l : LaneId, s.lanes[l].settings.inRange ∧
    s.lanes[l].queue.length ≤ s.lanes[l].settings.quota ∧
    (∀ h ∈ s.lanes[l].queue, 1 ≤ s.aheadOf l h ∧ s.aheadOf l h ≤ s.lanes[l].settings.horizon) ∧
    s.lanes[l].queue.Pairwise (fun h j => s.aheadOf l h + s.lanes[l].settings.spacing ≤ s.aheadOf l j)

/-- The expectations that name a shot, on all cameras. -/
def State.expectationsOf (s : State) (h : Handle) : Nat :=
  (allCameras.map (fun c => s.cameras[c].queue.countP (fun e => e.handle == h))).sum

/-- R33, R121: a shot's outstanding count is the number of expectations that name it, an AWAITING shot has one, and neither a
FREE slot nor a QUEUED shot is named by any. -/
def State.awaitSound (s : State) : Prop :=
  ∀ h : Handle,
    (∀ sh, s.slots[h].shot = some sh → sh.outstanding = s.expectationsOf h) ∧
    (∀ sh, s.slots[h].shot = some sh → sh.phase = .awaiting → 0 < sh.outstanding) ∧
    ((∀ sh, s.slots[h].shot = some sh → sh.phase = .queued) → s.expectationsOf h = 0)

/-- R88, R91: every run was fired at a whole tick, and its position is the time since, in half ticks. -/
def State.runsInTime (s : State) : Prop :=
  ∀ (k : RunSlotId) (r : Run), s.runs[k] = some r →
    r.position % 2 = (if s.halfTick then 1 else 0) ∧ r.fireTime + BitVec.ofNat 32 (r.position / 2) = s.timestamp

/-- R14, R15: intervals are at least one tick, and none is overdue in the second half of a tick. -/
def State.pacersInTime (s : State) : Prop :=
  ∀ n : PacerId, 1 ≤ s.pacers[n].interval ∧ (∀ m, s.pacers[n].pendingInterval = some m → 1 ≤ m) ∧
    (s.halfTick = true → s.pacers[n].running = true → ∀ t0, s.pacers[n].intervalStart = some t0 →
      (s.timestamp - t0).toNat < s.pacers[n].interval)

/-- R120, R121, R126: the window is in range, every expectation expires a window after its pulse start and is none older than
that, in the second half of a tick younger, and the entries stand from the oldest pulse start to the newest. -/
def State.expectationsInTime (s : State) : Prop :=
  ∀ c : CameraId, 1 ≤ s.cameras[c].settings.window ∧ s.cameras[c].settings.window ≤ 16777216 ∧
    (∀ e ∈ s.cameras[c].queue, e.deadline = e.pulseStart + BitVec.ofNat 32 s.cameras[c].settings.window ∧
      (s.timestamp - e.pulseStart).toNat ≤ s.cameras[c].settings.window ∧
      (s.halfTick = true → (s.timestamp - e.pulseStart).toNat < s.cameras[c].settings.window)) ∧
    s.cameras[c].queue.Pairwise (fun e f => (s.timestamp - f.pulseStart).toNat ≤ (s.timestamp - e.pulseStart).toNat)

/-- While RSTN is low no run is in flight, no expectation waits and no pacer runs (R1, R166). -/
def State.quietWhileReset (s : State) : Prop :=
  s.phase = .coldReset → (∀ k : RunSlotId, s.runs[k] = none) ∧ (∀ c : CameraId, s.cameras[c].queue = []) ∧
    ∀ n : PacerId, s.pacers[n].running = false

/-- R121, R126: the times of runs, pacers and expectations agree with the timestamp. -/
def State.timesSound (s : State) : Prop :=
  s.runsInTime ∧ s.pacersInTime ∧ s.expectationsInTime ∧ s.quietWhileReset

/-- R121: the deadlines of a camera's entries do not decrease from the oldest to the newest; a time is counted from the older
entry's pulse start, since the timestamp wraps. -/
def State.deadlinesOrdered (s : State) : Prop :=
  ∀ c : CameraId, s.cameras[c].queue.Pairwise
    (fun e f => (e.deadline - e.pulseStart).toNat ≤ (f.deadline - e.pulseStart).toNat)

end Sys2Proof.Machine
end

