-- ==== Sys2Proof/Certificates/Slice0/Obligations.lean ====
section
/-! DEFINITION. The statements for the provers. -/

open Sys2Proof Sys2Proof.Machine

/-! ## The machine, the resets and start-up -/

/-- With a command at the front of the queue a step is exec of that command on the state with the queue's rest. -/
def Obligations.StepRunsFrontCommand : Prop :=
  ∀ (c : Instr) (s : State), step { s with pending := c :: s.pending } = exec c s

/-- With no command waiting: the part stands still while RSTN is low; otherwise it carries out one of the events of its own that
are due, the only one where there is one, in an open order where there are more (log entry 5); and where none is due half a tick
passes: the timestamp counts at the end of the second half, every run is half a tick further, every pin timing too, the time since the
reset while START has not come, and nothing of the lanes, shots, programs, outputs, safe inputs, outcomes or alarms changes (the
model's choice, log entry 4). The events that are due are exactly: the filtered change of an encoder with a stable time passed, at a
whole tick (log entry 20); the expiry of a pacer whose interval has passed; the event of a run at its position, as the one of three
commands that log entry 12 says; the expiry of a camera's oldest expectation at its deadline; the gap timeout (log entry 10); the end
of the frame in transmission (log entry 9); START, when the time since the reset, which starts at 0 there
(RstnRiseSamplesStrapsAndPins, ResetIsTheWarmReset), reaches a value no later than its limit (log entry 8); the taking of the oldest
waiting frame. -/
def Obligations.IdleStepCarriesOutDueEventsOrPassesTime : Prop :=
  startTime .cold ≤ 80000 ∧ startTime .warm ≤ 8000 ∧
  ∀ s : State,
    (∀ e : State → Host.Outcome State Fault Refusal, e ∈ s.dueEvents ↔
      (s.halfTick = false ∧ ∃ (n : EncoderId) (k : Nat), 4 * s.encoders[n].config.filter.val ≤ k ∧
        (s.encoders[n].timing.a = some k ∨ s.encoders[n].timing.b = some k ∨ s.encoders[n].timing.z = some k) ∧
        e = exec (.filteredChange n)) ∨
      (∃ (n : PacerId) (t0 : Timestamp), s.pacers[n].running = true ∧ s.pacers[n].intervalStart = some t0 ∧
        s.pacers[n].interval ≤ (s.timestamp - t0).toNat ∧ e = exec (.pacerExpiry n)) ∨
      (∃ (k : RunSlotId) (r : Run), s.runs[k] = some r ∧ r.eventDone = false ∧
        let period := r.programEnd + 2 * r.burstGap
        let burstOver := r.position = r.burstIndex * period + r.programEnd
        let burst := if burstOver ∧ r.burstIndex + 1 < r.burstCount then r.burstIndex + 1 else r.burstIndex
        if r.position = (r.burstCount - 1) * period + r.programEnd then e = exec (.runCompletion k)
        else if ∃ x ∈ r.pulses, r.position = burst * period + x.begins then e = exec (.pulseStart k)
        else (burstOver ∨ ∃ x ∈ r.pulses, r.position = r.burstIndex * period + x.ends) ∧ e = exec (.pulseEnd k)) ∨
      (∃ (c : CameraId) (x : Expectation) (rest : List Expectation), s.cameras[c].queue = x :: rest ∧
        (x.deadline - x.pulseStart).toNat ≤ (s.timestamp - x.pulseStart).toNat ∧ e = exec (.deadlineExpiry c)) ∨
      (s.link.rx ≠ .hunt ∧ s.link.receiving = false ∧ 40000 + stopBitRest s.link.baud ≤ s.link.gapTimer ∧
        e = exec .gapTimeout) ∨
      (∃ f, s.link.tx = some f ∧ frameTime s.link.baud (f.payload.length + 6) ≤ s.link.txTimer ∧
        e = exec .transmitFrameEnd) ∨
      (∃ c, s.phase = .starting c ∧ startTime c ≤ s.startTimer ∧ e = exec .start) ∨
      (s.phase = .running ∧ s.link.rxBuffer ≠ [] ∧ s.link.replies.length < 4 ∧ e = execTakeOldest)) ∧
    (s.pending = [] →
    (s.phase = .coldReset → step s = .next s) ∧
    (s.phase ≠ .coldReset →
      (∀ e, s.dueEvents = [e] → step s = e s) ∧
      (s.dueEvents ≠ [] → ∃ e ∈ s.dueEvents, ∃ a : Nat, step s = e { s with arbiter := a }) ∧
      (s.dueEvents = [] → ∃ t, step s = .next t ∧
        t.halfTick = !s.halfTick ∧
        t.timestamp = (if s.halfTick then s.timestamp + 1 else s.timestamp) ∧
        t.startTimer = (if s.phase = .running then s.startTimer else s.startTimer + 1) ∧
        (∀ k : RunSlotId, t.runs[k] = (s.runs[k]).map (fun r => { r with position := r.position + 1, eventDone := false })) ∧
        (∀ n : EncoderId, t.encoders[n] = { s.encoders[n] with timing := t.encoders[n].timing }) ∧
        (∀ n : EncoderId, t.encoders[n].timing = ⟨s.encoders[n].timing.a.map (· + 1), s.encoders[n].timing.b.map (· + 1),
          s.encoders[n].timing.z.map (· + 1)⟩) ∧
        (∀ c : CameraId, t.cameras[c] = { s.cameras[c] with elapsed :=
          if s.halfTick = true ∧ s.cameras[c].lastTrigger.isSome = true then min 16777216 (s.cameras[c].elapsed + 1)
          else s.cameras[c].elapsed }) ∧
        t.link = { s.link with gapTimer := if s.link.rx = .hunt ∨ s.link.receiving = true then s.link.gapTimer
                                           else s.link.gapTimer + 1,
                               txTimer := if s.link.tx.isSome then s.link.txTimer + 1 else s.link.txTimer } ∧
        t.phase = s.phase ∧ t.pacers = s.pacers ∧ t.lanes = s.lanes ∧ t.slots = s.slots ∧ t.programs = s.programs ∧
        t.updateHold = s.updateHold ∧ t.outputs = s.outputs ∧ t.safes = s.safes ∧ t.unlock = s.unlock ∧
        t.outcomes = s.outcomes ∧ t.alarms = s.alarms ∧ t.arbiter = s.arbiter ∧ t.pending = s.pending)))

/-- The part at power-on holds the cold values the manual gives (Tables 1-2, 1-3, 2-1, 2-4, 3-4, 5-3, 6-2, 7-2, 8-1, 8-4, 9-1, 10-3,
10-5, R166). That the state right after reset is the cold reset in force is log entry 1. -/
def Obligations.ResetHoldsTheColdValues : Prop :=
  State.reset.timestamp = 0 ∧
  (∀ n : EncoderId, State.reset.encoders[n].config = ⟨.count, .rise, false, 0, .noEdge⟩ ∧
    State.reset.encoders[n].position = 0 ∧ State.reset.encoders[n].lastDirection = .noDirection ∧
    State.reset.encoders[n].indexLatch = 0 ∧ State.reset.encoders[n].indexCount = 0 ∧
    State.reset.encoders[n].indexSeen = false) ∧
  (∀ n : PacerId, State.reset.pacers[n] = ⟨20000, none, false, 0, none⟩) ∧
  (∀ l : LaneId, State.reset.lanes[l] = ⟨⟨.enc0, .same, 0, 1, 65536, 1, 64, 0⟩, .off, 0, []⟩) ∧
  (∀ h : Handle, State.reset.slots[h] = ⟨0, none⟩) ∧
  (∀ i : ProgramId, State.reset.programs[i] = ⟨none, none, 0⟩) ∧
  State.reset.updateHold = .closed ∧
  (∀ k : RunSlotId, State.reset.runs[k] = none) ∧
  (∀ o : OutputId, State.reset.outputs[o] = ⟨.activeHigh, .pulseMode, .inactive, false⟩ ∧ State.reset.pinLevel o = .low) ∧
  (∀ c : CameraId, State.reset.cameras[c].settings = ⟨.ignore, false, 200000, 0⟩ ∧ State.reset.cameras[c].counter = 0 ∧
    State.reset.cameras[c].settle = 0 ∧ State.reset.cameras[c].lastTrigger = none ∧ State.reset.cameras[c].elapsed = 0 ∧
    State.reset.cameras[c].queue = []) ∧
  (∀ n : SafeId, State.reset.safes[n].detection = .ignore ∧ State.reset.safes[n].group = 0 ∧
    State.reset.safes[n].binding = 0 ∧ State.reset.safes[n].hold = false) ∧
  State.reset.unlock = false ∧ State.reset.outcomes = [] ∧ State.reset.alarms.latched = 0 ∧
  State.reset.alarms.enabled = BitVec.allOnes 16 ∧
  State.reset.link.rx = .hunt ∧ State.reset.link.rxBuffer = [] ∧ State.reset.link.replies = [] ∧
  State.reset.link.reports = [] ∧ State.reset.link.tx = none ∧ State.reset.pending = []

/-- COLD_RESET: from every state, the cold values; the input pins stay where they are. That the input pins stay where they are is
the model's choice, log entry 26. -/
def Obligations.ColdResetGivesTheColdValues : Prop :=
  ∀ s : State, ∃ t, exec .coldReset s = .next t ∧
    t.phase = .coldReset ∧ t.timestamp = 0 ∧
    (∀ n : EncoderId, t.encoders[n].config = ⟨.count, .rise, false, 0, .noEdge⟩ ∧ t.encoders[n].position = 0 ∧
      t.encoders[n].lastDirection = .noDirection ∧ t.encoders[n].indexLatch = 0 ∧ t.encoders[n].indexCount = 0 ∧
      t.encoders[n].indexSeen = false ∧ t.encoders[n].pins = s.encoders[n].pins) ∧
    (∀ n : PacerId, t.pacers[n] = ⟨20000, none, false, 0, none⟩) ∧
    (∀ l : LaneId, t.lanes[l] = ⟨⟨.enc0, .same, 0, 1, 65536, 1, 64, 0⟩, .off, 0, []⟩) ∧
    (∀ h : Handle, t.slots[h] = ⟨0, none⟩) ∧ (∀ i : ProgramId, t.programs[i] = ⟨none, none, 0⟩) ∧
    t.updateHold = .closed ∧ (∀ k : RunSlotId, t.runs[k] = none) ∧
    (∀ o : OutputId, t.outputs[o] = ⟨.activeHigh, .pulseMode, .inactive, false⟩ ∧ t.pinLevel o = .low) ∧
    (∀ c : CameraId, t.cameras[c] = ⟨⟨.ignore, false, 200000, 0⟩, 0, 0, none, 0, [], s.cameras[c].fs⟩) ∧
    (∀ n : SafeId, t.safes[n] = ⟨.ignore, 0, 0, false, s.safes[n].pin⟩) ∧
    t.unlock = false ∧ t.outcomes = [] ∧ t.alarms.latched = 0 ∧ t.alarms.enabled = BitVec.allOnes 16 ∧
    t.link.rx = .hunt ∧ t.link.rxBuffer = [] ∧ t.link.replies = [] ∧ t.link.reports = [] ∧ t.link.tx = none

/-- RSTN_RISE in cold reset: the straps are sampled, the timestamp and the time to START count from 0, and every filtered level and
decoder reference takes the pin's level without a count; outside cold reset RSTN is high and the command changes nothing. That a rise
outside cold reset does nothing is log entry 6. -/
def Obligations.RstnRiseSamplesStrapsAndPins : Prop :=
  ∀ (straps : BitVec 2) (s : State),
    (s.phase = .coldReset → ∃ t, exec (.rstnRise straps) s = .next t ∧
      t.phase = .starting .cold ∧ t.timestamp = 0 ∧ t.halfTick = false ∧ t.startTimer = 0 ∧ t.link = { s.link with baud := straps } ∧
      (∀ n : EncoderId, t.encoders[n].filtered = s.encoders[n].pins ∧
        t.encoders[n].referenceA = s.encoders[n].pins.a ∧ t.encoders[n].referenceB = s.encoders[n].pins.b ∧
        t.encoders[n].position = s.encoders[n].position ∧ t.encoders[n].indexCount = s.encoders[n].indexCount ∧
        t.encoders[n].indexSeen = s.encoders[n].indexSeen ∧ t.encoders[n].config = s.encoders[n].config) ∧
      t.pacers = s.pacers ∧ t.lanes = s.lanes ∧ t.slots = s.slots ∧ t.programs = s.programs ∧ t.runs = s.runs ∧
      t.outputs = s.outputs ∧ t.cameras = s.cameras ∧ t.safes = s.safes ∧ t.unlock = s.unlock ∧
      t.outcomes = s.outcomes ∧ t.alarms = s.alarms) ∧
    (s.phase ≠ .coldReset → exec (.rstnRise straps) s = .next s)

/-- START while starting: the START report with its cause and the strap code is queued, first of all reports, the ALARM reports that
waited follow it, the idle transmitter begins it, and the receiver starts in HUNT. Before START an alarm latches as ever, and its
report, where enabled, joins those that wait. That START is taken at any time while starting is the model's choice, log entry 8;
where the waiting ALARM reports stand is log entry 25. -/
def Obligations.StartReportOpensService : Prop :=
  (∀ (c : StartCause) (s : State), s.phase = .starting c → s.link.replies = [] → s.link.reports = [] →
    s.link.deferred.length ≤ 7 →
    ∃ t, exec .start s = .next t ∧ t.phase = .running ∧ t.link.rx = .hunt ∧ t.link.deferred = [] ∧
      (s.link.tx = none → t.link.tx = some ⟨0x7D, 0, [c.code, BitVec.ofNat 8 s.link.baud.toNat]⟩ ∧
        t.link.reports = s.link.deferred) ∧
      (∀ f, s.link.tx = some f → t.link.tx = some f ∧ t.link.reports = .start c s.link.baud :: s.link.deferred) ∧
      t = { s with phase := t.phase, link := t.link }) ∧
  (∀ (a : Alarm) (s : State), s.phase ≠ .running → s.alarms.isLatched a = false →
    (s.latch a).alarms.isLatched a = true ∧
    (s.alarms.isEnabled a = true → s.latch a = { s with
      alarms := (s.latch a).alarms
      link := { s.link with deferred := s.link.deferred ++ [.alarm a (s.latch a).alarms.latched] } }) ∧
    (s.alarms.isEnabled a = false → s.latch a = { s with alarms := (s.latch a).alarms }))

/-- RESET, taken with an empty payload, is the warm reset: every block takes its warm values, no reply is queued, and the frame in
transmission goes on; the time to START counts from 0; with a payload it is refused BAD_LENGTH and resets nothing. That the warm
values take effect at the taking is log entry 27, and that the receiver goes on waiting for RXD to return high, if it does, is log entry 19. -/
def Obligations.ResetIsTheWarmReset : Prop :=
  ∀ (tag : Byte) (s : State), LinkFree s →
    (∃ t, exec (.reset tag []) s = .next t ∧
      t.phase = .starting .warm ∧ t.timestamp = s.timestamp ∧ t.halfTick = s.halfTick ∧ t.startTimer = 0 ∧
      (∀ n : EncoderId, t.encoders[n] = { s.encoders[n] with indexSeen := false }) ∧
      (∀ n : PacerId, t.pacers[n] = ⟨s.pacers[n].interval, none, false, s.pacers[n].position, none⟩) ∧
      (∀ l : LaneId, t.lanes[l] = ⟨s.lanes[l].settings, .off, s.lanes[l].mark, []⟩) ∧
      (∀ h : Handle, t.slots[h] = ⟨s.slots[h].generation, none⟩) ∧
      (∀ i : ProgramId, t.programs[i] = ⟨s.programs[i].active, none, 0⟩) ∧
      t.updateHold = .closed ∧ (∀ k : RunSlotId, t.runs[k] = none) ∧
      (∀ o : OutputId, t.outputs[o] = { s.outputs[o] with level := .inactive } ∧ t.outputActive o = false) ∧
      (∀ c : CameraId, t.cameras[c] = ⟨s.cameras[c].settings, 0, 0, none, 0, [], s.cameras[c].fs⟩) ∧
      t.safes = s.safes ∧ t.unlock = false ∧ t.outcomes = [] ∧ t.alarms.enabled = s.alarms.enabled ∧
      (∀ a : Alarm, t.alarms.isLatched a = true ↔
        s.alarms.isLatched a = true ∧ ∃ n : SafeId, a = .safe n ∧ s.safes[n].hold = true) ∧
      t.link = { s.link with rx := .hunt, receiving := false, gapTimer := 0, rxBuffer := [], replies := [], reports := [],
                             deferred := [] } ∧
      t.pending = s.pending) ∧
    (∀ p, p ≠ [] → exec (.reset tag p) s = .next (replied s 0x83 tag [1, 19]))

/-! ## The control link -/

/-- A request of fixed length whose payload has another length is refused BAD_LENGTH with the two reply bytes alone, closes the
unlock flag and does nothing else; and so are a SUBMIT and a PROGRAM_WRITE whose length does not follow from their count. A frame of
a KIND that Table 11-12 does not name is answered REFUSED UNKNOWN_KIND, with KIND + 0x80, or with its own KIND where that is 0x80 or
above. That a request command is the arrival of its whole frame is log entry 7. -/
def Obligations.UnknownKindAndWrongLengthAreRefused : Prop :=
  (∀ s : State, LinkFree s →
    (∀ (i : Instr) (kind : Byte) (n : Nat) (tag : Byte) (p : List Byte), fixedRequest i = some (kind, n, tag, p) →
      p.length ≠ n → exec i s = .next (replied s (kind + 0x80) tag [1, 19])) ∧
    (∀ (tag : Byte) (p : List Byte),
      (p.length < 3 ∨ (u8 p 1 = 0 ∧ p.length ≠ 3 + 13 * u8 p 2) ∨ (u8 p 1 ≠ 0 ∧ p.length ≠ 3 + 11 * u8 p 2)) →
      exec (.submit tag p) s = .next (replied s 0x98 tag [1, 19])) ∧
    (∀ (tag : Byte) (p : List Byte), (p.length < 2 ∨ p.length ≠ 2 + 6 * u8 p 1) →
      exec (.programWrite tag p) s = .next (replied s 0xA0 tag [1, 19]))) ∧
  (∀ (kind tag : Byte) (p : List Byte) (s : State), LinkFree s → kind ∉ requestKinds →
    exec (.unknownKind kind tag p) s =
      .next (replied s (if kind.toNat < 128 then kind + 0x80 else kind) tag [1, 18]))

/-- A request that comes in while another frame waits, or while no reply place is free, joins the receive buffer; where that holds 4
frames it is lost and LINK_OVERRUN latches; before START it is lost without a trace. That a request command is the arrival of its
whole frame is log entry 7. -/
def Obligations.RequestsWaitOrAreLost : Prop :=
  ∀ (i : Instr) (f : Frame) (s : State), requestFrame i = some f →
    (s.phase = .running → (s.link.rxBuffer ≠ [] ∨ 4 ≤ s.link.replies.length) →
      (s.link.rxBuffer.length < 4 →
        exec i s = .next { s with link := Link.begin { s.link with rxBuffer := s.link.rxBuffer ++ [f] } }) ∧
      (4 ≤ s.link.rxBuffer.length → ∃ t, exec i s = .next t ∧ t.link.rxBuffer = s.link.rxBuffer ∧
        t.alarms.isLatched .linkOverrun = true ∧ t = { s with alarms := t.alarms, link := t.link })) ∧
    (s.phase ≠ .running → exec i s = .next s)

/-- The oldest waiting frame is taken as the request it is: by the same rule as a request that finds the link free, the KIND
choosing the rule (Table 11-12). The younger frames go on waiting in their order, but for an accepted RESET, which clears them.
That a request command is the arrival of its whole frame is log entry 7. -/
def Obligations.WaitingFrameIsTakenAsItsRequest : Prop :=
  ∀ (i : Instr) (f : Frame) (rest : List Frame) (s : State), requestFrame i = some f → s.phase = .running →
    s.link.replies.length < 4 → s.link.rxBuffer = f :: rest →
    (∃ t, exec i { s with link := { s.link with rxBuffer := [] } } = .next t ∧
      execTakeOldest s = .next { t with link := { t.link with rxBuffer := if t.phase = .running then rest else [] } }) ∧
    (rest = [] → execTakeOldest s = exec i { s with link := { s.link with rxBuffer := [] } })

/-- The receiver moves as Table 11-1 states, a byte at a time; CRC_HIGH ends in HUNT, and what becomes of the frame there is
CompleteFrameIsJudgedByItsCrc; an over-long length latches LINK_ERROR. -/
def Obligations.ReceiverFollowsItsTable : Prop :=
  ∀ (b : Byte) (s : State), s.phase = .running → s.link.waitHigh = false →
    let go := fun (x : RxState) =>
      Host.Outcome.next (ρ := Refusal) (φ := Fault) { s with
        link := Link.begin { s.link with rx := x, receiving := false, gapTimer := 0 } }
    (s.link.rx = .hunt → b = 0x5A → exec (.rxByte b (.taken .high)) s = go .len) ∧
    (s.link.rx = .hunt → b ≠ 0x5A → exec (.rxByte b (.taken .high)) s = .next { s with
      link := Link.begin { s.link with receiving := false } }) ∧
    (s.link.rx = .len → b.toNat ≤ 250 → exec (.rxByte b (.taken .high)) s = go (.kind b)) ∧
    (s.link.rx = .len → 250 < b.toNat → ∃ t, exec (.rxByte b (.taken .high)) s = .next t ∧ t.link.rx = .hunt ∧
      t.link.rxBuffer = s.link.rxBuffer ∧ t.alarms.isLatched .linkError = true ∧
      t = { s with alarms := t.alarms, link := t.link }) ∧
    (∀ n, s.link.rx = .kind n → exec (.rxByte b (.taken .high)) s = go (.tag n b)) ∧
    (∀ n k, s.link.rx = .tag n k →
      exec (.rxByte b (.taken .high)) s = go (if n = 0 then .crcLow n k b [] else .payload n k b [])) ∧
    (∀ n k t got, s.link.rx = .payload n k t got →
      exec (.rxByte b (.taken .high)) s =
        go (if got.length + 1 < n.toNat then .payload n k t (got ++ [b]) else .crcLow n k t (got ++ [b]))) ∧
    (∀ n k t got, s.link.rx = .crcLow n k t got → exec (.rxByte b (.taken .high)) s = go (.crcHigh n k t got b)) ∧
    (∀ n k t got low, s.link.rx = .crcHigh n k t got low → ∃ u, exec (.rxByte b (.taken .high)) s = .next u ∧
      u.link.rx = .hunt ∧ u.link.receiving = false ∧ u.link.gapTimer = 0 ∧ u = { s with alarms := u.alarms, link := u.link })

/-- A complete frame with the right CRC joins the receive buffer, or is discarded with LINK_OVERRUN where 4 frames wait; with
another CRC it is discarded with LINK_ERROR. A discarded frame does nothing else. -/
def Obligations.CompleteFrameIsJudgedByItsCrc : Prop :=
  ∀ (n k t low high : Byte) (got : List Byte) (s : State), s.phase = .running → s.link.waitHigh = false →
    s.link.rx = .crcHigh n k t got low →
    let good := low.toNat + 256 * high.toNat = (crc16 (Frame.covered ⟨k, t, got⟩)).toNat
    (good → s.link.rxBuffer.length < 4 →
      exec (.rxByte high (.taken .high)) s = .next { s with
        link := Link.begin { s.link with
          rx := .hunt, receiving := false, gapTimer := 0, rxBuffer := s.link.rxBuffer ++ [⟨k, t, got⟩] } }) ∧
    (good → 4 ≤ s.link.rxBuffer.length → ∃ u, exec (.rxByte high (.taken .high)) s = .next u ∧ u.link.rx = .hunt ∧
      u.link.rxBuffer = s.link.rxBuffer ∧ u.alarms.isLatched .linkOverrun = true ∧
      u = { s with alarms := u.alarms, link := u.link }) ∧
    (¬ good → ∃ u, exec (.rxByte high (.taken .high)) s = .next u ∧ u.link.rx = .hunt ∧
      u.link.rxBuffer = s.link.rxBuffer ∧ u.alarms.isLatched .linkError = true ∧
      u = { s with alarms := u.alarms, link := u.link })

/-- The CRC of the nine bytes of the ASCII digits 1 to 9 is 0x29B1. -/
def Obligations.CrcOfTheNineDigits : Prop :=
  crc16 [0x31, 0x32, 0x33, 0x34, 0x35, 0x36, 0x37, 0x38, 0x39] = 0x29B1#16

/-- The bytes of any frame of at most 250 payload bytes, sent one after another to a receiver in HUNT with a place in its buffer,
put exactly that frame into the receive buffer and leave the receiver in HUNT: the frame layout, the length, the escape-free data
and the CRC of sender and receiver agree. -/
def Obligations.FrameOnTheWireIsReceivedWhole : Prop :=
  ∀ (f : Frame) (s : State), f.payload.length ≤ 250 → s.phase = .running → s.link.waitHigh = false →
    s.link.rx = .hunt → s.link.rxBuffer.length < 4 →
    Host.Core.run Sys2Proof.core f.wire.length { s with pending := f.wire.map (fun b => .rxByte b (.taken .high)) ++ s.pending }
      = .next { s with link := Link.begin { s.link with receiving := false, gapTimer := 0, rxBuffer := s.link.rxBuffer ++ [f] } }

/-- In every receiver state a byte whose stop bit reads low is taken as with a high one, with its data bits and all they do, and
then no byte is taken and no start bit seen until RXD returns high; bytes before START are discarded. A start bit ends the gap. A
frame in assembly without a start bit 1 ms after the end of the stop bit of its last byte is discarded with LINK_ERROR; before that,
or once a start bit has come, a gap timeout does nothing (log entry 6). How long half a stop bit is, is free within 1 % (log entry
10). That a discarded byte may leave the receiver waiting for the line is log entry 19, and what RX_BYTE carries is log entry 28. -/
def Obligations.LineConditionsOfTheReceiver : Prop :=
  (∀ (b : Byte) (stop : Level) (s : State), s.phase = .running → s.link.waitHigh = true →
    exec (.rxByte b (.taken stop)) s = .next s) ∧
  (∀ (b : Byte) (s : State), s.phase = .running → s.link.waitHigh = false → ∃ t, exec (.rxByte b (.taken .high)) s = .next t ∧
    t.link.waitHigh = false ∧ exec (.rxByte b (.taken .low)) s = .next { t with link := { t.link with waitHigh := true } }) ∧
  (∀ s : State, exec .rxdReturnHigh s = .next { s with link := { s.link with waitHigh := false } }) ∧
  (∀ (b : Byte) (stop : Level) (c : StartCause) (s : State), s.phase = .starting c → ∃ t,
    exec (.rxByte b (.taken stop)) s = .next t ∧ t = { s with link := { s.link with waitHigh := t.link.waitHigh } }) ∧
  (∀ (b : Byte) (stop : Level) (s : State), s.phase = .coldReset → exec (.rxByte b (.taken stop)) s = .next s) ∧
  (∀ (b : Byte) (s : State), s.phase = .running → s.link.waitHigh = false →
    exec (.rxByte b .startBit) s = .next { s with link := { s.link with receiving := true } }) ∧
  (∀ (b : Byte) (s : State), s.phase ≠ .running ∨ s.link.waitHigh = true → exec (.rxByte b .startBit) s = .next s) ∧
  (171 ≤ stopBitRest 0 ∧ stopBitRest 0 ≤ 176 ∧ 42 ≤ stopBitRest 1 ∧ stopBitRest 1 ≤ 44 ∧
    19 ≤ stopBitRest 2 ∧ stopBitRest 2 ≤ 21 ∧ 6 ≤ stopBitRest 3 ∧ stopBitRest 3 ≤ 7) ∧
  (∀ s : State, s.link.rx ≠ .hunt → s.link.receiving = false → 40000 + stopBitRest s.link.baud ≤ s.link.gapTimer →
    ∃ t, exec .gapTimeout s = .next t ∧ t.link.rx = .hunt ∧ t.link.rxBuffer = s.link.rxBuffer ∧
      t.alarms.isLatched .linkError = true ∧ t = { s with alarms := t.alarms, link := t.link }) ∧
  (∀ s : State, s.link.rx = .hunt ∨ s.link.receiving = true ∨ s.link.gapTimer < 40000 + stopBitRest s.link.baud →
    exec .gapTimeout s = .next s)

/-- TRANSMIT_FRAME_END: when the frame in transmission is out, the transmitter begins START where it waits, before every reply; else
the oldest reply, or else the oldest report, or else it stays idle. The frames of the three reports are those of Table 11-11. A frame
of n bytes takes 10 n bit times of the strapped rate, 400,000,000 n / rate half ticks; the model lets it be out from 1 % less on, and
takes a time within 1 % of it, rounded outwards to half ticks (log entry 9). That a frame end that cannot be yet does nothing is log
entry 6. -/
def Obligations.TransmitterPrefersReplies : Prop :=
  (∀ (f : Frame) (s : State), s.link.tx = some f →
    (frameTimeMin s.link.baud (f.payload.length + 6) ≤ s.link.txTimer →
      (∀ c b rest, s.link.reports = .start c b :: rest → exec .transmitFrameEnd s =
        .next { s with link := { s.link with
          tx := some ⟨0x7D, 0, [c.code, BitVec.ofNat 8 b.toNat]⟩, txTimer := 0, reports := rest } }) ∧
      (∀ g rest, s.link.replies = g :: rest → (∀ c b r, s.link.reports ≠ .start c b :: r) → exec .transmitFrameEnd s =
        .next { s with link := { s.link with tx := some g, txTimer := 0, replies := rest } }) ∧
      (∀ r rest, s.link.replies = [] → s.link.reports = r :: rest → exec .transmitFrameEnd s =
        .next { s with link := { s.link with tx := some r.frame, txTimer := 0, reports := rest } }) ∧
      (s.link.replies = [] → s.link.reports = [] → exec .transmitFrameEnd s =
        .next { s with link := { s.link with tx := none, txTimer := 0 } })) ∧
    (s.link.txTimer < frameTimeMin s.link.baud (f.payload.length + 6) → exec .transmitFrameEnd s = .next s)) ∧
  (∀ (c : StartCause) (b : BitVec 2), (Report.start c b).frame = ⟨0x7D, 0, [c.code, BitVec.ofNat 8 b.toNat]⟩) ∧
  (∀ (a : Alarm) (latched : BitVec 16),
    (Report.alarm a latched).frame = ⟨0x7E, 0, BitVec.ofNat 8 a.number :: le2 latched.toNat⟩) ∧
  Report.outcomeReady.frame = ⟨0x7F, 0, []⟩ ∧
  (∀ (baud : BitVec 2) (rate n : Nat),
    (baud = 0 ∧ rate = 115200) ∨ (baud = 1 ∧ rate = 460800) ∨ (baud = 2 ∧ rate = 1000000) ∨ (baud = 3 ∧ rate = 3000000) →
    frameTimeMin baud n = 396000000 * n / rate ∧ frameTimeMin baud n ≤ frameTime baud n ∧
    frameTime baud n ≤ 404000000 * n / rate + 1)

/-! ## Reports and alarms -/

/-- An occurrence of an alarm's cause: a clear alarm latches and, where its report is enabled, an ALARM report is queued in the
same event with the latched set as it then stands, unless 8 reports wait; a latched alarm changes nothing. (Of a report before
START speaks StartReportOpensService.) -/
def Obligations.AlarmLatchesAndReports : Prop :=
  ∀ (a : Alarm) (s : State),
    (s.alarms.isLatched a = true → s.latch a = s) ∧
    (s.alarms.isLatched a = false →
      (s.latch a).alarms.isLatched a = true ∧
      (∀ b : Alarm, b ≠ a → (s.latch a).alarms.isLatched b = s.alarms.isLatched b) ∧
      (s.latch a).alarms.enabled = s.alarms.enabled ∧
      (s.alarms.isEnabled a = false → s.latch a = { s with alarms := (s.latch a).alarms }) ∧
      (s.alarms.isEnabled a = true → s.phase = .running →
        (s.link.reports.length < 8 → s.latch a = { s with
          alarms := (s.latch a).alarms
          link := { s.link with reports := s.link.reports ++ [.alarm a (s.latch a).alarms.latched] } }) ∧
        (8 ≤ s.link.reports.length → s.latch a = { s with alarms := (s.latch a).alarms })))

/-- ALARM_READ returns the latched set and the report-enabled set and changes neither. ALARM_CLEAR clears every alarm named but a
SAFE alarm whose input's hold is ON, and replies OK with the latched set; ALARM_REPORT_SET replaces the report-enabled set and
replies OK with both sets. Neither does anything else. -/
def Obligations.AlarmRequests : Prop :=
  (∀ (tag : Byte) (s : State), LinkFree s →
    exec (.alarmRead tag []) s =
      .next (replied s 0xC1 tag ([0, 0] ++ le2 s.alarms.latched.toNat ++ le2 s.alarms.enabled.toNat))) ∧
  (∀ (tag : Byte) (p : List Byte) (s : State), LinkFree s → p.length = 2 →
    (∃ x : BitVec 16,
      exec (.alarmClear tag p) s =
        .next (replied { s with alarms := ⟨x, s.alarms.enabled⟩ } 0xC2 tag ([0, 0] ++ le2 x.toNat)) ∧
      ∀ a : Alarm, x.getLsbD a.number = true ↔ s.alarms.isLatched a = true ∧
        ((u16 p 0).testBit a.number = false ∨ ∃ n : SafeId, a = .safe n ∧ s.safes[n].hold = true)) ∧
    exec (.alarmReportSet tag p) s =
      .next (replied { s with alarms := ⟨s.alarms.latched, BitVec.ofNat 16 (u16 p 0)⟩ } 0xC3 tag
        ([0, 0] ++ le2 (u16 p 0) ++ le2 s.alarms.latched.toNat)))

/-! ## Outcomes -/

/-- The end of a shot: the slot becomes FREE with its generation kept, and the record taken from the slot is appended where the
outcome queue holds fewer than 64 records, with OUTCOME_READY queued where it held none; at a full queue the record is dropped
and OUTCOME_OVERFLOW latches. -/
def Obligations.ShotEndWritesItsRecord : Prop :=
  ∀ (h : Handle) (code : OutcomeCode) (sh : Shot) (s : State), s.slots[h].shot = some sh →
    let r : OutcomeRecord := ⟨h, s.slots[h].generation, sh.label, sh.lane, code, sh.amended, sh.collided, sh.trigger,
      sh.fireTime.getD 0, sh.confirmed, sh.lost, sh.frames⟩
    (s.endShot h code).slots = s.slots.set h ⟨s.slots[h].generation, none⟩ ∧
    (s.outcomes.length < 64 → (s.endShot h code).outcomes = s.outcomes ++ [r] ∧ (s.endShot h code).alarms = s.alarms) ∧
    (s.outcomes = [] → s.phase = .running → s.link.reports.length < 8 →
      (s.endShot h code).link = { s.link with reports := s.link.reports ++ [.outcomeReady] }) ∧
    (s.outcomes ≠ [] → s.outcomes.length < 64 → (s.endShot h code).link = s.link) ∧
    (64 ≤ s.outcomes.length → (s.endShot h code).outcomes = s.outcomes ∧
      (s.endShot h code).alarms.isLatched .outcomeOverflow = true) ∧
    s.endShot h code = { s with slots := (s.endShot h code).slots, outcomes := (s.endShot h code).outcomes,
                                alarms := (s.endShot h code).alarms, link := (s.endShot h code).link }

/-- OUTCOME_FETCH with a count from 1 to 6 removes the oldest records, up to that many, and returns them with the number that
remain; another count is refused BAD_FIELD and removes nothing. A record is the 40 bytes of Table 11-9, with the frame list, up to
four frames, in 20 bytes, unused ones 0. That the bits of its flags byte that the table does not name read 0 is log entry 31. -/
def Obligations.OutcomeFetchReturnsTheOldest : Prop :=
  (∀ r : OutcomeRecord, r.frames.length ≤ 4 →
    r.bytes.length = 40 ∧
    r.bytes = [BitVec.ofNat 8 r.handle.val, r.generation] ++ le4 r.label.toNat ++ [BitVec.ofNat 8 r.lane.val, r.code.code,
        BitVec.ofNat 8 ((if r.amended then 1 else 0) + (if r.collided then 2 else 0))]
      ++ le4 r.trigger.toNat ++ le4 r.fireTime.toNat
      ++ [BitVec.ofNat 8 r.confirmed, BitVec.ofNat 8 r.lost, BitVec.ofNat 8 r.frames.length] ++ frameListBytes r.frames) ∧
  (∀ fs : List FrameEntry, fs.length ≤ 4 → frameListBytes fs =
    fs.flatMap (fun e => BitVec.ofNat 8 e.camera.val :: le4 e.number.toNat) ++ List.replicate (20 - 5 * fs.length) 0) ∧
  ∀ (tag n : Byte) (s : State), LinkFree s →
    (1 ≤ n.toNat → n.toNat ≤ 6 →
      exec (.outcomeFetch tag [n]) s = .next (replied { s with outcomes := s.outcomes.drop n.toNat } 0xC0 tag
        ([0, 0] ++ le1 (min n.toNat s.outcomes.length) ++ le1 (s.outcomes.length - n.toNat)
          ++ (s.outcomes.take n.toNat).flatMap OutcomeRecord.bytes))) ∧
    ((n.toNat = 0 ∨ 6 < n.toNat) → exec (.outcomeFetch tag [n]) s = .next (replied s 0xC0 tag [1, 1, 0, 0]))

/-- STATUS returns the lane states, the FREE slots, the BUSY run slots, the records, the latched alarms and the update hold;
IDENT returns the vendor and part codes, the revision and the capacities. Neither changes anything but the unlock flag. -/
def Obligations.StatusAndIdentReply : Prop :=
  ∀ (tag : Byte) (s : State), LinkFree s →
    exec (.status tag []) s = .next (replied s 0x82 tag (
      ([0, 0, s.lanes[0].state.code, s.lanes[1].state.code, s.lanes[2].state.code, s.lanes[3].state.code] : List Byte)
      ++ le2 (allHandles.countP (fun h => (s.slots[h].shot).isNone))
      ++ le1 (allRunSlots.countP (fun k => (s.runs[k]).isSome)) ++ le1 s.outcomes.length
      ++ le2 s.alarms.latched.toNat ++ [s.updateHold.code])) ∧
    exec (.ident tag []) s = .next (replied s 0x81 tag
      [0, 0, 0x7C, 0x0A, 0x9C, 0x01, 1, 4, 2, 2, 0x00, 0x01, 6, 32, 8, 12, 4, 8, 64, 4, 4, 8, 250])

/-! ## Encoder channels -/

/-- The enumerated values have the codes of Tables 11-3 to 11-5, as a request carries them and as a reply does, and no other code:
the status and reason codes, the values of Table 11-4 with the slot state FREE and the two-valued fields (pacer command and run
state, position width, program selector and destination, protect action, confirm, safe hold), and the alarm numbers. The payload
fields are little-endian: a field read at the place where it was written gives the number written. -/
def Obligations.ValuesHaveTheirEncodings : Prop :=
  ((∀ (k : Nat) (x : EncoderMode), EncoderMode.ofCode k = some x ↔ k = x.code.toNat) ∧
  (∀ (k : Nat) (x : EdgeSelection), EdgeSelection.ofCode k = some x ↔ k = x.code.toNat) ∧
  (∀ (k : Nat) (x : IndexEdge), IndexEdge.ofCode k = some x ↔ k = x.code.toNat) ∧
  (∀ (k : Nat) (x : Source), Source.ofCode k = some x ↔ k = x.code.toNat) ∧
  (∀ (k : Nat) (x : Direction), Direction.ofCode k = some x ↔ k = x.code.toNat) ∧
  (∀ (k : Nat) (x : Polarity), Polarity.ofCode k = some x ↔ k = x.code.toNat) ∧
  (∀ (k : Nat) (x : OutputMode), OutputMode.ofCode k = some x ↔ k = x.code.toNat) ∧
  (∀ (k : Nat) (x : DriveLevel), DriveLevel.ofCode k = some x ↔ k = x.code.toNat) ∧
  (∀ (k : Nat) (x : FrameEdge), FrameEdge.ofCode k = some x ↔ k = x.code.toNat) ∧
  (∀ (k : Nat) (x : Detection), Detection.ofCode k = some x ↔ k = x.code.toNat) ∧
  [EncoderMode.quad4, .quad1, .stepdir, .count].map EncoderMode.code = [0, 1, 2, 3] ∧
  [EdgeSelection.rise, .fall, .both].map EdgeSelection.code = [0, 1, 2] ∧
  [IndexEdge.noEdge, .rise, .fall].map IndexEdge.code = [0, 1, 2] ∧
  [LastDirection.noDirection, .fwd, .rev].map LastDirection.code = [0, 1, 2] ∧
  [Source.enc0, .enc1, .pac0, .pac1].map Source.code = [0, 1, 2, 3] ∧
  [Direction.same, .opposite].map Direction.code = [0, 1] ∧
  [LaneState.off, .armed, .paused, .halted].map LaneState.code = [0, 1, 2, 3] ∧
  [ShotPhase.queued, .firing, .awaiting].map ShotPhase.code = [1, 2, 3] ∧
  [UpdateHold.closed, .opened].map UpdateHold.code = [0, 1] ∧
  [Polarity.activeHigh, .activeLow].map Polarity.code = [0, 1] ∧
  [OutputMode.pulseMode, .staticMode].map OutputMode.code = [0, 1] ∧
  [DriveLevel.inactive, .active].map DriveLevel.code = [0, 1] ∧
  [FrameEdge.ignore, .rise, .fall].map FrameEdge.code = [0, 1, 2] ∧
  [Detection.ignore, .rise, .fall, .both, .low, .high].map Detection.code = [0, 1, 2, 3, 4, 5] ∧
  [Level.low, .high].map levelCode = [0, 1] ∧
  [OutcomeCode.done, .frameLost, .aborted, .noEngine, .cameraBusy, .blocked, .passed, .flushed, .cancelled].map
    OutcomeCode.code = [1, 2, 3, 4, 5, 6, 7, 8, 9] ∧
  [StartCause.cold, .warm].map StartCause.code = [0, 1]) ∧
  ((∀ (k : Nat) (x : Bool), bitOfCode k = some x ↔ k = (flagByte x).toNat) ∧ [false, true].map flagByte = [0, 1] ∧
  (∀ g : BitVec 8, Slot.stateCode ⟨g, none⟩ = 0) ∧
  (∀ (g : BitVec 8) (sh : Shot), Slot.stateCode ⟨g, some sh⟩ = sh.phase.code) ∧
  (∀ fields : List Byte, okReply fields = 0 :: 0 :: fields) ∧
  (∀ (r : Reason) (fields : List Byte), refusedWith r fields = 1 :: r.code :: fields) ∧
  (∀ (r : Reason) (n : Nat), busyReply r n = 2 :: r.code :: List.replicate n 0) ∧
  [Reason.badField, .badState, .held, .noProgram, .tooNear, .tooFar, .spacing, .queueFull, .poolFull, .mismatch, .gone, .inUse,
    .overlap, .updateHold, .isProtected, .pendingWork, .locked, .unknownKind, .badLength].map Reason.code =
    [1, 2, 3, 4, 5, 6, 7, 8, 9, 10, 11, 12, 13, 14, 15, 16, 17, 18, 19] ∧
  [Alarm.safe 0, .safe 1, .reverse 0, .reverse 1, .reverse 2, .reverse 3, .encFault 0, .encFault 1, .collision, .stray 0,
    .stray 1, .stray 2, .stray 3, .outcomeOverflow, .linkError, .linkOverrun].map Alarm.number =
    [0, 1, 2, 3, 4, 5, 6, 7, 8, 9, 10, 11, 12, 13, 14, 15]) ∧
  (∀ (before after : List Byte) (n : Nat),
    (n < 65536 → u16 (before ++ [BitVec.ofNat 8 n, BitVec.ofNat 8 (n / 256)] ++ after) before.length = n) ∧
    (n < 4294967296 →
      u32 (before ++ [BitVec.ofNat 8 n, BitVec.ofNat 8 (n / 256), BitVec.ofNat 8 (n / 65536), BitVec.ofNat 8 (n / 16777216)]
        ++ after) before.length = n))

/-- What each mode counts (Table 1-1 and the tables of R6 and R7): `a`, `b` are the reference levels, `a'`, `b'` the new ones. -/
def Obligations.DecoderCountsByMode : Prop :=
  ∀ (c : EncoderConfig) (a b a' b' : Level),
    (c.mode = .quad4 ∨ c.mode = .quad1 → a ≠ a' → b ≠ b' → decodeAB c a b a' b' = .illegal) ∧
    (c.mode = .quad4 → (a, b, a', b') ∈ [(Level.low, Level.low, Level.high, Level.low), (.high, .low, .high, .high),
      (.high, .high, .low, .high), (.low, .high, .low, .low)] → decodeAB c a b a' b' = .step true) ∧
    (c.mode = .quad4 → (a', b', a, b) ∈ [(Level.low, Level.low, Level.high, Level.low), (.high, .low, .high, .high),
      (.high, .high, .low, .high), (.low, .high, .low, .low)] → decodeAB c a b a' b' = .step false) ∧
    (c.mode ≠ .stepdir ∧ c.mode ≠ .count → a = a' → b = b' → decodeAB c a b a' b' = .nothing) ∧
    (c.mode = .quad1 → b = b' → c.edge = .rise → a = .low → a' = .high →
      decodeAB c a b a' b' = .step (b == .low)) ∧
    (c.mode = .quad1 → b = b' → c.edge = .fall → a = .high → a' = .low →
      decodeAB c a b a' b' = .step (b == .high)) ∧
    (c.mode = .quad1 → (a = a' ∨ (c.edge = .rise ∧ a' = .low ∧ b = b') ∨ (c.edge = .fall ∧ a' = .high ∧ b = b')) →
      decodeAB c a b a' b' = .nothing) ∧
    (c.mode = .stepdir → decodeAB c a b a' b' =
      if a ≠ a' ∧ (c.edge = .both ∨ (c.edge = .rise ∧ a' = .high) ∨ (c.edge = .fall ∧ a' = .low))
      then .step (b' == .high) else .nothing) ∧
    (c.mode = .count → decodeAB c a b a' b' =
      if a ≠ a' ∧ (c.edge = .both ∨ (c.edge = .rise ∧ a' = .high) ∨ (c.edge = .fall ∧ a' = .low))
      then .step true else .nothing)

/-- An encoder channel that handles whole a filtered change to the levels `z`: the count event, after invert, moves the position
by one and sets the last direction; the index edge then latches the position, counts and sets its flag; the levels and the
reference follow. -/
def encoderAfterChange (e : Encoder) (z : EncoderPins) : Encoder :=
  let d := decodeAB e.config e.referenceA e.referenceB z.a z.b
  let position := match d with
    | .step up => if up = e.config.invert then e.position - 1 else e.position + 1
    | _ => e.position
  let index := e.filtered.z ≠ z.z ∧
    ((e.config.indexEdge = .rise ∧ z.z = .high) ∨ (e.config.indexEdge = .fall ∧ z.z = .low))
  { e with
    position := position
    lastDirection := match d with
      | .step up => if up = e.config.invert then .rev else .fwd
      | _ => e.lastDirection
    indexLatch := if index then position else e.indexLatch
    indexCount := if index then e.indexCount + 1 else e.indexCount
    indexSeen := if index then true else e.indexSeen
    filtered := z, referenceA := z.a, referenceB := z.b }

/-- The part after encoder `n`, standing at `e`, has handled a filtered change to the levels `z`, with the encoders left as given:
a step of A and B is handed to the lanes as a count event (R2; CountEventsMoveTheLanes says what it does), an illegal transition
latches ENC_FAULT (R5), and an idle transmitter begins what that queued. -/
def changeHanded (s : State) (n : EncoderId) (e : Encoder) (z : EncoderPins) (encoders : Vector Encoder 2) : State :=
  let t := match decodeAB e.config e.referenceA e.referenceB z.a z.b with
    | .nothing => s
    | .illegal => s.latch (.encFault n)
    | .step up => State.encoderCount { s with encoders := s.encoders.set n e } n up
  State.beginTx { t with encoders := encoders }

/-- ENCODER_PIN_CHANGE: with filter 0 the changed pins change their filtered levels at once and the change is handled whole: a count
is handed to the lanes, an illegal transition latches ENC_FAULT; with filter 1 to 7 a new level is timed from now, and a return to
the filtered level ends the timing, also at the moment the stable time is up (log entry 30); in cold reset only the pins move. The
other channel is not touched. The change is seen at a whole tick, in the second half of a tick at its end (the model's choice, log
entry 20). That the command carries the levels of the three pins is log entry 28. -/
def Obligations.EncoderPinChangeFollowsTheFilter : Prop :=
  ∀ (n : EncoderId) (z : EncoderPins) (s0 : State),
    let s := s0.wholeTick
    let e := s.encoders[n]
    let pick := fun (filtered old new : Level) => if old = new then filtered else new
    let still := fun (old new : Level) (t : Option Nat) => if old = new then t else none
    let timed := fun (filtered old new : Level) (t : Option Nat) =>
      if old = new then t else if new = filtered then none else some 0
    let f : EncoderPins := ⟨pick e.filtered.a e.pins.a z.a, pick e.filtered.b e.pins.b z.b, pick e.filtered.z e.pins.z z.z⟩
    let e0 : Encoder := { e with pins := z, timing := ⟨still e.pins.a z.a e.timing.a, still e.pins.b z.b e.timing.b,
      still e.pins.z z.z e.timing.z⟩ }
    s.halfTick = false ∧ (s0.halfTick = false → s = s0) ∧
    (s0.halfTick = true → s0.phase ≠ .coldReset → s0.dueEvents = [] →
      step { s0 with pending := [] } = .next { s with pending := [] }) ∧
    (s0.phase = .coldReset → exec (.encoderPinChange n z) s0 =
      .next { s0 with encoders := s0.encoders.set n { s0.encoders[n] with pins := z } }) ∧
    (s0.phase ≠ .coldReset → e.config.filter = 0 → ∃ t, exec (.encoderPinChange n z) s0 = .next t ∧
      t.encoders = s.encoders.set n (if f = e.filtered then e0 else encoderAfterChange e0 f) ∧
      (f = e.filtered → t = State.beginTx { s with encoders := t.encoders }) ∧
      (f ≠ e.filtered → t = changeHanded s n e0 f t.encoders) ∧
      (f ≠ e.filtered → decodeAB e.config e.referenceA e.referenceB f.a f.b = .illegal →
        t.alarms.isLatched (.encFault n) = true) ∧
      t.pacers = s.pacers ∧ t.outputs = s.outputs ∧ t.safes = s.safes ∧ t.timestamp = s.timestamp ∧
      t.updateHold = s.updateHold ∧ t.unlock = s.unlock ∧ t.phase = s.phase ∧ t.pending = s.pending) ∧
    (s0.phase ≠ .coldReset → e.config.filter ≠ 0 → ∃ t, exec (.encoderPinChange n z) s0 = .next t ∧
      t.encoders = s.encoders.set n { e with pins := z, timing := ⟨timed e.filtered.a e.pins.a z.a e.timing.a,
        timed e.filtered.b e.pins.b z.b e.timing.b, timed e.filtered.z e.pins.z z.z e.timing.z⟩ } ∧
      t = { s with encoders := t.encoders, link := s.link.begin })

/-- FILTERED_CHANGE at a whole tick: the pins that have held a new level for n × 100 ns (4 n half ticks) change their filtered levels,
as one change handled whole: a count is handed to the lanes, an illegal transition latches ENC_FAULT. Where no pin has, nothing
happens (the model's choice, log entry 6), nor in the second half of a tick (log entry 20). -/
def Obligations.FilteredChangeIsHandledWhole : Prop :=
  ∀ (n : EncoderId) (s : State), s.phase ≠ .coldReset →
    let e := s.encoders[n]
    let due := fun (t : Option Nat) => ∃ k, t = some k ∧ 4 * e.config.filter.val ≤ k
    (s.halfTick = false → (due e.timing.a ∨ due e.timing.b ∨ due e.timing.z) →
      ∃ (t : State) (z : EncoderPins), exec (.filteredChange n) s = .next t ∧
        (due e.timing.a → z.a = e.pins.a) ∧ (¬ due e.timing.a → z.a = e.filtered.a) ∧
        (due e.timing.b → z.b = e.pins.b) ∧ (¬ due e.timing.b → z.b = e.filtered.b) ∧
        (due e.timing.z → z.z = e.pins.z) ∧ (¬ due e.timing.z → z.z = e.filtered.z) ∧
        t.encoders = s.encoders.set n { encoderAfterChange e z with timing := t.encoders[n].timing } ∧
        (due e.timing.a → t.encoders[n].timing.a = none) ∧ (¬ due e.timing.a → t.encoders[n].timing.a = e.timing.a) ∧
        (due e.timing.b → t.encoders[n].timing.b = none) ∧ (¬ due e.timing.b → t.encoders[n].timing.b = e.timing.b) ∧
        (due e.timing.z → t.encoders[n].timing.z = none) ∧ (¬ due e.timing.z → t.encoders[n].timing.z = e.timing.z) ∧
        t = changeHanded s n { e with timing := t.encoders[n].timing } z t.encoders ∧
        (decodeAB e.config e.referenceA e.referenceB z.a z.b = .illegal → t.alarms.isLatched (.encFault n) = true) ∧
        t.pacers = s.pacers ∧ t.outputs = s.outputs ∧ t.safes = s.safes ∧ t.timestamp = s.timestamp ∧
        t.updateHold = s.updateHold ∧ t.unlock = s.unlock ∧ t.phase = s.phase ∧ t.pending = s.pending) ∧
    (s.halfTick = true → exec (.filteredChange n) s = .next s) ∧
    ((¬ due e.timing.a ∧ ¬ due e.timing.b ∧ ¬ due e.timing.z) → exec (.filteredChange n) s = .next s)

/-- ENCODER_SET: the checks in their order; an accepted one replaces the five configuration fields, sets the reference to the
filtered levels, times waiting pin changes afresh where the filter value changes, and presets the position where the flag is set; a
refused one changes nothing. ENCODER_READ returns configuration and state; with the clear-index flag the index-seen flag is cleared
after it was read. That any invert byte but 0 means on is log entry 16, and that the unnamed bits of the filtered levels read 0 is
log entry 31. -/
def Obligations.EncoderSetAndRead : Prop :=
  (∀ (tag : Byte) (p : List Byte) (s : State), LinkFree s → p.length = 11 →
    (∀ (n : EncoderId) (c : EncoderConfig), u8 p 0 = n.val → EncoderMode.ofCode (u8 p 1) = some c.mode →
      EdgeSelection.ofCode (u8 p 2) = some c.edge → c.invert = decide (u8 p 3 ≠ 0) → u8 p 4 = c.filter.val →
      IndexEdge.ofCode (u8 p 5) = some c.indexEdge → ¬ (c.mode = .quad1 ∧ c.edge = .both) →
      let e := s.encoders[n]
      let afresh := fun (t : Option Nat) => if e.config.filter = c.filter then t else t.map (fun _ => 0)
      let e' : Encoder := { e with config := c, referenceA := e.filtered.a, referenceB := e.filtered.b,
                                   timing := ⟨afresh e.timing.a, afresh e.timing.b, afresh e.timing.z⟩ }
      let inUse := ∃ l : LaneId, s.lanes[l].settings.source = encoderSource n ∧ s.lanes[l].state ≠ .off
      (u8 p 6 = 0 → exec (.encoderSet tag p) s = .next (replied { s with encoders := s.encoders.set n e' } 0x88 tag [0, 0])) ∧
      (u8 p 6 ≠ 0 → ¬ inUse → exec (.encoderSet tag p) s =
        .next (replied { s with encoders := s.encoders.set n { e' with position := w32 p 7, indexSeen := false } } 0x88 tag
          [0, 0])) ∧
      (u8 p 6 ≠ 0 → inUse → exec (.encoderSet tag p) s = .next (replied s 0x88 tag [1, 2]))) ∧
    ((1 < u8 p 0 ∨ 3 < u8 p 1 ∨ 2 < u8 p 2 ∨ 7 < u8 p 4 ∨ 2 < u8 p 5 ∨ (u8 p 1 = 1 ∧ u8 p 2 = 2)) →
      exec (.encoderSet tag p) s = .next (replied s 0x88 tag [1, 1]))) ∧
  (∀ (tag a b : Byte) (s : State), LinkFree s →
    (∀ n : EncoderId, a.toNat = n.val →
      let e := s.encoders[n]
      let bit := fun (x : Level) (k : Nat) => if x = .high then k else 0
      exec (.encoderRead tag [a, b]) s =
        .next (replied (if b = 0 then s else { s with encoders := s.encoders.set n { e with indexSeen := false } }) 0x89 tag
          (([0, 0, e.config.mode.code, e.config.edge.code, flagByte e.config.invert, BitVec.ofNat 8 e.config.filter.val,
            e.config.indexEdge.code] : List Byte) ++ le4 e.position.toNat ++ [e.lastDirection.code] ++ le4 e.indexLatch.toNat
            ++ le2 e.indexCount.toNat ++ [flagByte e.indexSeen]
            ++ le1 (bit e.filtered.a 1 + bit e.filtered.b 2 + bit e.filtered.z 4)))) ∧
    (1 < a.toNat → exec (.encoderRead tag [a, b]) s = .next (replied s 0x89 tag (([1, 1] : List Byte) ++ zeros 18))))

/-! ## Pacers -/

/-- PACER_SET: the checks in their order; the interval is written at once in STOP and becomes pending in RUN; the preset moves
the position in STOP alone, with every lane of the pacer OFF. -/
def Obligations.PacerSetWritesOrHoldsPending : Prop :=
  ∀ (tag : Byte) (p : List Byte) (s : State), LinkFree s → p.length = 10 →
    (∀ n : PacerId, u8 p 0 = n.val → 1 ≤ u32 p 1 → u32 p 1 ≤ 16777216 →
      let x := s.pacers[n]
      let inUse := ∃ l : LaneId, s.lanes[l].settings.source = pacerSource n ∧ s.lanes[l].state ≠ .off
      (u8 p 5 = 0 → x.running = false → exec (.pacerSet tag p) s =
        .next (replied { s with pacers := s.pacers.set n { x with interval := u32 p 1 } } 0x8A tag [0, 0])) ∧
      (u8 p 5 = 0 → x.running = true → exec (.pacerSet tag p) s =
        .next (replied { s with pacers := s.pacers.set n { x with pendingInterval := some (u32 p 1) } } 0x8A tag [0, 0])) ∧
      (u8 p 5 ≠ 0 → x.running = false → ¬ inUse → exec (.pacerSet tag p) s =
        .next (replied { s with pacers := s.pacers.set n { x with interval := u32 p 1, position := w32 p 6 } } 0x8A tag [0, 0])) ∧
      (u8 p 5 ≠ 0 → (x.running = true ∨ inUse) → exec (.pacerSet tag p) s = .next (replied s 0x8A tag [1, 2]))) ∧
    ((1 < u8 p 0 ∨ u32 p 1 = 0 ∨ 16777216 < u32 p 1) →
      exec (.pacerSet tag p) s = .next (replied s 0x8A tag [1, 1]))

/-- PACER_RUN: RUN starts a fresh interval from STOP; STOP discards the elapsed part, keeps the position and promotes a pending
interval; a command that repeats the run state changes nothing. PACER_READ returns the interval, the pending interval or its
absence, the run state, the position and, in RUN, the ticks elapsed, in STOP 0. It changes nothing. -/
def Obligations.PacerRunAndRead : Prop :=
  (∀ (tag a b : Byte) (s : State), LinkFree s →
    (∀ n : PacerId, a.toNat = n.val →
      let x := s.pacers[n]
      (b = 1 → x.running = false → exec (.pacerRun tag [a, b]) s = .next (replied
        { s with pacers := s.pacers.set n { x with running := true, intervalStart := some s.timestamp } } 0x8B tag [0, 0])) ∧
      (b = 0 → x.running = true → exec (.pacerRun tag [a, b]) s = .next (replied
        { s with pacers := s.pacers.set n ⟨x.pendingInterval.getD x.interval, none, false, x.position, none⟩ } 0x8B tag [0, 0])) ∧
      ((b = 1 ∧ x.running = true) ∨ (b = 0 ∧ x.running = false) →
        exec (.pacerRun tag [a, b]) s = .next (replied s 0x8B tag [0, 0]))) ∧
    ((1 < a.toNat ∨ 1 < b.toNat) → exec (.pacerRun tag [a, b]) s = .next (replied s 0x8B tag [1, 1]))) ∧
  (∀ (tag a : Byte) (s : State), LinkFree s →
    (∀ n : PacerId, a.toNat = n.val →
      let x := s.pacers[n]
      exec (.pacerRead tag [a]) s = .next (replied s 0x8C tag (([0, 0] : List Byte) ++ le4 x.interval
        ++ [flagByte x.pendingInterval.isSome] ++ le4 (x.pendingInterval.getD 0) ++ [flagByte x.running]
        ++ le4 x.position.toNat ++ le4 (match x.intervalStart with
          | some t0 => (s.timestamp - t0).toNat
          | none => 0)))) ∧
    (1 < a.toNat → exec (.pacerRead tag [a]) s = .next (replied s 0x8C tag (([1, 1] : List Byte) ++ zeros 18))))

/-- PACER_EXPIRY, with the interval passed: the position gains one, a pending interval takes over, a new interval starts now, and
every lane outside OFF that names the pacer takes the count event once, in one order or another; before that it does nothing. That
the order of the lanes is open is log entry 5, that an expiry before its time does nothing is log entry 6. -/
def Obligations.PacerExpiryCountsOnce : Prop :=
  ∀ (n : PacerId) (t0 : Timestamp) (s : State),
    let x := s.pacers[n]
    x.running = true → x.intervalStart = some t0 →
    (x.interval ≤ (s.timestamp - t0).toNat → ∃ (t : State) (ls : List LaneId) (a : Nat),
      exec (.pacerExpiry n) s = .next t ∧
      t.pacers = s.pacers.set n ⟨x.pendingInterval.getD x.interval, none, true, x.position + 1, some s.timestamp⟩ ∧
      ls.Nodup ∧ (∀ l : LaneId, l ∈ ls ↔ s.lanes[l].settings.source = pacerSource n ∧ s.lanes[l].state ≠ .off) ∧
      t = (ls.foldl (State.laneCount true) { s with pacers := t.pacers, arbiter := a }).beginTx) ∧
    ((s.timestamp - t0).toNat < x.interval → exec (.pacerExpiry n) s = .next s)

/-! ## Lanes -/

/-- LANE_SET, with every value in its range, replaces all eight settings of an OFF lane and nothing else; a lane in another state
is refused BAD_STATE, a value out of range BAD_FIELD. LANE_READ returns the settings, the state, the lane position, the mark, the
queue length and the head, and changes nothing. -/
def Obligations.LaneSettingsAreWrittenAndRead : Prop :=
  (∀ (tag : Byte) (p : List Byte) (s : State), LinkFree s → p.length = 19 →
    (∀ (l : LaneId) (src : Source) (dir : Direction), u8 p 0 = l.val → Source.ofCode (u8 p 1) = some src →
      Direction.ofCode (u8 p 2) = some dir → 1 ≤ u16 p 7 → u16 p 7 ≤ u32 p 9 → u32 p 9 ≤ 16777216 → 1 ≤ u16 p 13 →
      1 ≤ u16 p 15 → u16 p 15 ≤ 256 →
      (s.lanes[l].state = .off → exec (.laneSet tag p) s = .next (replied { s with lanes := s.lanes.set l { s.lanes[l] with
        settings := ⟨src, dir, w32 p 3, u16 p 7, u32 p 9, u16 p 13, u16 p 15, u16 p 17⟩ } } 0x90 tag [0, 0])) ∧
      (s.lanes[l].state ≠ .off → exec (.laneSet tag p) s = .next (replied s 0x90 tag [1, 2]))) ∧
    ((3 < u8 p 0 ∨ 3 < u8 p 1 ∨ 1 < u8 p 2 ∨ u16 p 7 = 0 ∨ u32 p 9 < u16 p 7 ∨ 16777216 < u32 p 9 ∨ u16 p 13 = 0 ∨
      u16 p 15 = 0 ∨ 256 < u16 p 15) → exec (.laneSet tag p) s = .next (replied s 0x90 tag [1, 1]))) ∧
  (∀ (tag b : Byte) (s : State), LinkFree s →
    (∀ l : LaneId, b.toNat = l.val →
      let x := s.lanes[l]
      let c := x.settings
      let fields := ([0, 0, c.source.code, c.direction.code] : List Byte) ++ le4 c.offset.toNat ++ le2 c.lead ++ le4 c.horizon
        ++ le2 c.spacing ++ le2 c.quota ++ le2 c.reverseLimit ++ [x.state.code] ++ le4 (s.lanePosition l).toNat
        ++ le4 x.mark.toNat ++ le2 x.queue.length
      (x.queue = [] → exec (.laneRead tag [b]) s = .next (replied s 0x95 tag (fields ++ [0, 0, 0, 0, 0, 0, 0]))) ∧
      (∀ h rest sh, x.queue = h :: rest → s.slots[h].shot = some sh → exec (.laneRead tag [b]) s =
        .next (replied s 0x95 tag (fields ++ [1, BitVec.ofNat 8 h.val, s.slots[h].generation] ++ le4 sh.trigger.toNat)))) ∧
    (3 < b.toNat → exec (.laneRead tag [b]) s = .next (replied s 0x95 tag (([1, 1] : List Byte) ++ zeros 36))))

/-- The lane position is the offset plus or minus the source position, modulo 2^32, by the direction. A count event of an encoder,
its step taken after invert, moves the position by one and reaches every lane outside OFF that names the encoder once each, in one
order or another. That the order of the lanes is open is log entry 5. -/
def Obligations.CountEventsMoveTheLanes : Prop :=
  (∀ (l : LaneId) (s : State),
    let c := s.lanes[l].settings
    let source := fun (x : Source) => match x with
      | .enc0 => s.encoders[0].position
      | .enc1 => s.encoders[1].position
      | .pac0 => s.pacers[0].position
      | .pac1 => s.pacers[1].position
    (c.direction = .same → s.lanePosition l = c.offset + source c.source) ∧
    (c.direction = .opposite → s.lanePosition l = c.offset - source c.source)) ∧
  (∀ (n : EncoderId) (up : Bool) (s : State),
    let e := s.encoders[n]
    let forward := up != e.config.invert
    ∃ (ls : List LaneId) (a : Nat), ls.Nodup ∧
      (∀ l : LaneId, l ∈ ls ↔ s.lanes[l].settings.source = encoderSource n ∧ s.lanes[l].state ≠ .off) ∧
      s.encoderCount n up = ls.foldl (State.laneCount forward) { s with
        encoders := s.encoders.set n { e with
          position := if forward then e.position + 1 else e.position - 1
          lastDirection := if forward then .fwd else .rev }
        arbiter := a })

/-- LANE_ARM, LANE_PAUSE and LANE_RESUME move the lane between its states as Table 2-3 states, refused HELD under a bound hold
that is ON; arming from OFF sets the mark to the lane position, every other change keeps mark and queue. That a refused LANE_PAUSE
shows the lane state is the model's choice, log entry 15. -/
def Obligations.LaneStateRequestsFollowTheTable : Prop :=
  ∀ (tag b : Byte) (s : State), LinkFree s →
    (∀ l : LaneId, b.toNat = l.val →
      let x := s.lanes[l]
      let held := ∃ n : SafeId, s.safes[n].hold = true ∧ s.safes[n].binding.getLsbD l.val = true
      let becomes := fun (y : Lane) => { s with lanes := s.lanes.set l y }
      (x.state = .off → ¬ held → exec (.laneArm tag [b]) s =
        .next (replied (becomes { x with state := .armed, mark := s.lanePosition l }) 0x91 tag [0, 0, 1])) ∧
      (x.state = .off → held → exec (.laneArm tag [b]) s = .next (replied s 0x91 tag [1, 3, 0])) ∧
      (x.state = .paused → exec (.laneArm tag [b]) s =
        .next (replied (becomes { x with state := .armed }) 0x91 tag [0, 0, 1])) ∧
      (x.state = .armed → exec (.laneArm tag [b]) s = .next (replied s 0x91 tag [0, 0, 1])) ∧
      (x.state = .halted → exec (.laneArm tag [b]) s = .next (replied s 0x91 tag [1, 2, 0])) ∧
      (x.state = .armed → exec (.lanePause tag [b]) s =
        .next (replied (becomes { x with state := .paused }) 0x92 tag [0, 0, 2])) ∧
      (x.state = .paused → exec (.lanePause tag [b]) s = .next (replied s 0x92 tag [0, 0, 2])) ∧
      (x.state = .off ∨ x.state = .halted → exec (.lanePause tag [b]) s =
        .next (replied s 0x92 tag [1, 2, x.state.code])) ∧
      (x.state = .halted → ¬ held → exec (.laneResume tag [b]) s =
        .next (replied (becomes { x with state := .paused }) 0x93 tag [0, 0, 2])) ∧
      (x.state = .halted → held → exec (.laneResume tag [b]) s = .next (replied s 0x93 tag [1, 3, 0])) ∧
      (x.state ≠ .halted → exec (.laneResume tag [b]) s = .next (replied s 0x93 tag [1, 2, 0]))) ∧
    (3 < b.toNat → exec (.laneArm tag [b]) s = .next (replied s 0x91 tag [1, 1, 0]) ∧
      exec (.lanePause tag [b]) s = .next (replied s 0x92 tag [1, 1, 0]) ∧
      exec (.laneResume tag [b]) s = .next (replied s 0x93 tag [1, 1, 0]))

/-- LANE_DISARM: the queue is emptied head first, each shot ends FLUSHED with its record appended while the outcome queue has room,
its slot is FREE with its generation kept, the reference counts fall by the shots that named each program, the lane is OFF with its
mark kept, and the reply carries the number flushed; runs, outputs, cameras, other lanes and other slots stand as they were. The
first record of an empty outcome queue queues OUTCOME_READY where a report place is free; a record dropped latches OUTCOME_OVERFLOW;
else alarms and link stand. That the reply goes before these reports on an idle transmitter is log entry 11. -/
def Obligations.LaneDisarmFlushesTheQueue : Prop :=
  ∀ (tag b : Byte) (s : State), LinkFree s → s.poolSound → s.outcomes.length ≤ 64 →
    (∀ l : LaneId, b.toNat = l.val →
      let x := s.lanes[l]
      let record := fun (h : Handle) => (s.slots[h].shot).map (fun sh => (⟨h, s.slots[h].generation, sh.label, sh.lane, .flushed,
        sh.amended, sh.collided, sh.trigger, sh.fireTime.getD 0, sh.confirmed, sh.lost, sh.frames⟩ : OutcomeRecord))
      let told : State := if x.queue = [] ∨ s.outcomes ≠ [] ∨ 8 ≤ s.link.reports.length then s
        else { s with link := { s.link with reports := s.link.reports ++ [.outcomeReady] } }
      ∃ t, exec (.laneDisarm tag [b]) s = .next (replied t 0x94 tag (([0, 0] : List Byte) ++ le2 x.queue.length)) ∧
        t.lanes = s.lanes.set l { x with queue := [], state := .off } ∧
        (∀ h : Handle, t.slots[h] = if h ∈ x.queue then ⟨s.slots[h].generation, none⟩ else s.slots[h]) ∧
        (∀ i : ProgramId, t.programs[i] = { s.programs[i] with
          refCount := s.programs[i].refCount - x.queue.countP (s.waitsFor i) }) ∧
        t.outcomes = (s.outcomes ++ x.queue.filterMap record).take 64 ∧
        (s.outcomes.length + x.queue.length ≤ 64 → t.alarms = s.alarms ∧ t.link = told.link) ∧
        (64 < s.outcomes.length + x.queue.length → t.alarms.isLatched .outcomeOverflow = true ∧
          t.alarms = (told.latch .outcomeOverflow).alarms ∧ t.link = (told.latch .outcomeOverflow).link) ∧
        t = { s with lanes := t.lanes, slots := t.slots, programs := t.programs, outcomes := t.outcomes,
                     alarms := t.alarms, link := t.link }) ∧
    (3 < b.toNat → exec (.laneDisarm tag [b]) s = .next (replied s 0x94 tag [1, 1, 0, 0]))

/-- A lane takes a count event of its source (the lane position having moved). Forward with lag 0 before it: the mark moves to the
lane position; a head whose trigger it reaches leaves the queue, with its program's reference count falling by one, and makes a fire
attempt in ARMED or ends PASSED in PAUSED and HALTED. Forward with a lag: nothing. Reverse: the mark stands, and a lag above a
reverse limit that is not 0 latches the lane's alarm and takes an ARMED lane to PAUSED. In OFF: nothing. -/
def Obligations.LaneTakesACountEvent : Prop :=
  ∀ (up : Bool) (l : LaneId) (s : State),
    let x := s.lanes[l]
    let forward := (x.settings.direction = .same ∧ up = true) ∨ (x.settings.direction = .opposite ∧ up = false)
    let lagBefore := (x.mark - (s.lanePosition l - 1)).toNat
    let lag := (x.mark - s.lanePosition l).toNat
    let moved : Lane := { x with mark := x.mark + 1 }
    (x.state = .off → State.laneCount up s l = s) ∧
    (x.state ≠ .off → forward → 0 < lagBefore → State.laneCount up s l = s) ∧
    (x.state ≠ .off → forward → lagBefore = 0 →
      (x.mark + 1 = s.lanePosition l) ∧
      (x.queue = [] → State.laneCount up s l = { s with lanes := s.lanes.set l moved }) ∧
      (∀ h rest sh, x.queue = h :: rest → s.slots[h].shot = some sh →
        let left : State := { s with
          lanes := s.lanes.set l { moved with queue := rest }
          programs := s.programs.set sh.program { s.programs[sh.program] with refCount := s.programs[sh.program].refCount - 1 } }
        (sh.trigger ≠ x.mark + 1 → State.laneCount up s l = { s with lanes := s.lanes.set l moved }) ∧
        (sh.trigger = x.mark + 1 → x.state = .armed → State.laneCount up s l = left.fireAttempt h) ∧
        (sh.trigger = x.mark + 1 → x.state = .paused ∨ x.state = .halted → State.laneCount up s l = left.endShot h .passed))) ∧
    (x.state ≠ .off → ¬ forward → (x.settings.reverseLimit = 0 ∨ lag ≤ x.settings.reverseLimit) →
      State.laneCount up s l = s) ∧
    (x.state ≠ .off → ¬ forward → x.settings.reverseLimit ≠ 0 → x.settings.reverseLimit < lag →
      (x.state = .armed → State.laneCount up s l =
        { s.latch (.reverse l) with lanes := s.lanes.set l { x with state := .paused } }) ∧
      (x.state ≠ .armed → State.laneCount up s l = s.latch (.reverse l)))

/-! ## The shot pool -/

/-- The seven checks of an entry, in their order, against the lane's mark, its queue, the active versions and the pool: the first
that fails gives the reason, and an entry that passes all takes the lowest-numbered FREE slot. -/
def Obligations.AdmissionChecksInOrder : Prop :=
  ∀ (l : LaneId) (rel : Bool) (e : Entry) (trigger : Position) (s : State),
    let x := s.lanes[l]
    let d := (trigger - x.mark).toNat
    let names := fun (i : ProgramId) => e.program = i.val ∧ (s.programs[i].active).isSome = true
    let bad := (rel = true ∧ e.position = 0) ∨ 1 < e.flags ∨ (e.flags = 1 ∧ (e.burstCount = 0 ∨ 8 < e.burstCount))
    let near := d = 0 ∨ 2 ^ 31 ≤ d ∨ d < x.settings.lead
    let far := x.settings.horizon < d
    let close := ∃ h ∈ x.queue, s.aheadOf l h < d + x.settings.spacing ∧ d < s.aheadOf l h + x.settings.spacing
    let full := x.settings.quota ≤ x.queue.length
    (x.state = .off → s.checkEntry l rel e trigger = .error .badState) ∧
    (x.state ≠ .off → (∀ i, ¬ names i) → s.checkEntry l rel e trigger = .error .noProgram) ∧
    (x.state ≠ .off → ∀ i, names i →
      (bad → s.checkEntry l rel e trigger = .error .badField) ∧
      (¬ bad → near → s.checkEntry l rel e trigger = .error .tooNear) ∧
      (¬ bad → ¬ near → far → s.checkEntry l rel e trigger = .error .tooFar) ∧
      (¬ bad → ¬ near → ¬ far → close → s.checkEntry l rel e trigger = .error .spacing) ∧
      (¬ bad → ¬ near → ¬ far → ¬ close → full → s.checkEntry l rel e trigger = .error .queueFull) ∧
      (¬ bad → ¬ near → ¬ far → ¬ close → ¬ full → (∀ h : Handle, s.slots[h].shot ≠ none) →
        s.checkEntry l rel e trigger = .error .poolFull) ∧
      (∀ h : Handle, ¬ bad → ¬ near → ¬ far → ¬ close → ¬ full → s.slots[h].shot = none →
        (∀ j : Handle, j.val < h.val → s.slots[j].shot ≠ none) → s.checkEntry l rel e trigger = .ok (i, h)))

/-- SUBMIT takes the entries of its payload in order. The first refused one ends the taking: the admitted ones before it stand, the
ones after it are NOT_TAKEN. An admitted entry fills its slot, its generation one up, is placed in the lane queue by its
ahead-distance, and raises its program's reference count; nothing else changes. A bad header is refused as a whole. -/
def Obligations.SubmitTakesItsEntriesInOrder : Prop :=
  (∀ (tag : Byte) (p : List Byte) (s : State), LinkFree s → 3 ≤ p.length →
    (∀ (l : LaneId) (rel : Bool) (es : List Entry), u8 p 0 = l.val → u8 p 1 = (if rel then 1 else 0) →
      1 ≤ es.length → es.length ≤ 16 → u8 p 2 = es.length → p.length = 3 + (if rel then 11 else 13) * es.length →
      (∀ (k : Nat) (e : Entry), es[k]? = some e → e = if rel
        then (⟨u16 p (3 + 11 * k), u8 p (5 + 11 * k), w32 p (6 + 11 * k), u8 p (10 + 11 * k), u8 p (11 + 11 * k), u16 p (12 + 11 * k)⟩ : Entry)
        else (⟨u32 p (3 + 13 * k), u8 p (7 + 13 * k), w32 p (8 + 13 * k), u8 p (12 + 13 * k), u8 p (13 + 13 * k),
          u16 p (14 + 13 * k)⟩ : Entry)) →
      let base := match s.lanes[l].queue.getLast? with
        | none => s.lanes[l].mark
        | some h => s.slots[h].trigger
      let b := s.admitAll l rel base es
      let head : List Byte := match b.refusal with
        | none => [0, 0]
        | some r => [1, r.code]
      exec (.submit tag p) s = .next (replied b.state 0x98 tag (head ++ [0, BitVec.ofNat 8 es.length]
        ++ b.results.flatMap EntryResult.bytes))) ∧
    ((3 < u8 p 0 ∨ 1 < u8 p 1 ∨ u8 p 2 = 0 ∨ 16 < u8 p 2) → p.length = 3 + (if u8 p 1 = 0 then 13 else 11) * u8 p 2 →
      exec (.submit tag p) s = .next (replied s 0x98 tag [1, 1, 1, 0]))) ∧
  (∀ (l : LaneId) (rel : Bool) (base : Position) (e : Entry) (rest : List Entry) (s : State),
    let trigger := if rel then base + BitVec.ofNat 32 e.position else BitVec.ofNat 32 e.position
    s.admitAll l rel base [] = ⟨s, [], none⟩ ∧
    (∀ r, s.checkEntry l rel e trigger = .error r →
      s.admitAll l rel base (e :: rest) = ⟨s, .refused r :: rest.map (fun _ => .notTaken), some r⟩) ∧
    (∀ i h, s.checkEntry l rel e trigger = .ok (i, h) → ∃ (t : State) (before after : List Handle),
      s.admitAll l rel base (e :: rest) = ⟨(t.admitAll l rel trigger rest).state,
        .admitted h (s.slots[h].generation + 1) :: (t.admitAll l rel trigger rest).results,
        (t.admitAll l rel trigger rest).refusal⟩ ∧
      t.slots = s.slots.set h ⟨s.slots[h].generation + 1, some
        { phase := .queued, label := e.label, lane := l, trigger := trigger, program := i
          burst := if e.flags = 1 then some ⟨e.burstCount, e.burstGap⟩ else none
          amended := false, collided := false, aborted := false, fireTime := none, runSlot := none
          outstanding := 0, confirmed := 0, lost := 0, frames := [] }⟩ ∧
      s.lanes[l].queue = before ++ after ∧
      t.lanes = s.lanes.set l { s.lanes[l] with queue := before ++ h :: after } ∧
      (∀ j ∈ before, t.aheadOf l j ≤ t.aheadOf l h) ∧ (∀ j, after.head? = some j → t.aheadOf l h < t.aheadOf l j) ∧
      t.programs = s.programs.set i { s.programs[i] with refCount := s.programs[i].refCount + 1 } ∧
      t = { s with slots := t.slots, lanes := t.lanes, programs := t.programs })) ∧
  (∀ (h : Handle) (g : BitVec 8) (r : Reason),
    EntryResult.bytes (.admitted h g) = [0, BitVec.ofNat 8 h.val, g] ∧
    EntryResult.bytes (.refused r) = [r.code, 0, 0] ∧ EntryResult.bytes .notTaken = [0xFF, 0, 0])

/-- CANCEL of a QUEUED shot of the expected generation: the handle leaves its queue, the reference count falls by one, the shot ends
CANCELLED; another generation is refused MISMATCH, a slot that is not QUEUED refused GONE, with nothing changed. SHOT_READ returns
state and generation of any slot, and every field of one that is not FREE; it changes nothing. The handle field of a CANCEL reply
reads 0, since the rule gives it no value. That on an idle transmitter the CANCEL reply goes before a report of the same event is log
entry 11, and that the bits of SHOT_READ's flags that the table does not name read 0 is log entry 31. -/
def Obligations.CancelAndShotRead : Prop :=
  (∀ (tag a b : Byte) (h : Handle) (s : State), LinkFree s → a.toNat = h.val →
    (∀ sh, s.slots[h].shot = some sh → sh.phase = .queued →
      (s.slots[h].generation = b → exec (.cancel tag [a, b]) s = .next (replied
        (State.endShot { s with
          lanes := s.lanes.set sh.lane { s.lanes[sh.lane] with queue := s.lanes[sh.lane].queue.filter (fun j => j ≠ h) }
          programs := s.programs.set sh.program { s.programs[sh.program] with
            refCount := s.programs[sh.program].refCount - 1 } } h .cancelled) 0x99 tag [0, 0, 0, b, 0])) ∧
      (s.slots[h].generation ≠ b → exec (.cancel tag [a, b]) s =
        .next (replied s 0x99 tag [1, 10, 0, s.slots[h].generation, 1]))) ∧
    (s.slots[h].shot = none → exec (.cancel tag [a, b]) s =
      .next (replied s 0x99 tag [1, 11, 0, s.slots[h].generation, 0])) ∧
    (∀ sh, s.slots[h].shot = some sh → sh.phase ≠ .queued → exec (.cancel tag [a, b]) s =
      .next (replied s 0x99 tag [1, 11, 0, s.slots[h].generation, sh.phase.code]))) ∧
  (∀ (tag a : Byte) (h : Handle) (s : State), LinkFree s → a.toNat = h.val →
    let g := s.slots[h].generation
    (s.slots[h].shot = none → exec (.shotRead tag [a]) s =
      .next (replied s 0x9A tag (([0, 0, 0, g] : List Byte) ++ zeros 51))) ∧
    (∀ sh, s.slots[h].shot = some sh →
      let bit := fun (x : Bool) (k : Nat) => if x then k else 0
      let burst := fun (f : Burst → Nat) => (sh.burst.map f).getD 0
      let place := if sh.phase = .queued then le1 (s.lanes[sh.lane].queue.idxOf h)
          ++ le4 (sh.trigger - s.lanes[sh.lane].mark).toNat else ([0, 0, 0, 0, 0] : List Byte)
      exec (.shotRead tag [a]) s = .next (replied s 0x9A tag (([0, 0, sh.phase.code, g] : List Byte) ++ le4 sh.label.toNat
        ++ le1 sh.lane.val ++ le4 sh.trigger.toNat ++ le1 sh.program.val ++ [flagByte sh.burst.isSome] ++ le1 (burst Burst.count)
        ++ le2 (burst Burst.gap) ++ le1 (bit sh.amended 1 + bit sh.collided 2 + bit sh.aborted 4)
        ++ [flagByte sh.fireTime.isSome] ++ le4 ((sh.fireTime.map BitVec.toNat).getD 0)
        ++ [flagByte sh.runSlot.isSome] ++ le1 ((sh.runSlot.map Fin.val).getD 0)
        ++ le1 sh.outstanding ++ le1 sh.confirmed ++ le1 sh.lost ++ le1 sh.frames.length ++ frameListBytes sh.frames
        ++ place))))

/-- What a successful amend leaves in a slot: program and label as set, the generation one up, the amended flag set. -/
def amendedSlot (x : Slot) (sh : Shot) (program : Option ProgramId) (label : Option (BitVec 32)) : Slot :=
  ⟨x.generation + 1, some { sh with program := program.getD sh.program, label := label.getD sh.label, amended := true }⟩

/-- The set an amend payload carries at offset `o` names slot `h` and passes the four checks of R52, with shot `sh`, new program and
new label as given (none where the flag is clear). -/
def amendPasses (s : State) (p : List Byte) (o : Nat) (h : Handle) (sh : Shot) (program : Option ProgramId)
    (label : Option (BitVec 32)) : Prop :=
  u8 p o = h.val ∧ 1 ≤ u8 p (o + 2) ∧ u8 p (o + 2) ≤ 3 ∧ s.waits h sh ∧ u8 p (o + 1) = s.slots[h].generation.toNat ∧
  (∀ i, program = some i → u8 p (o + 2) % 2 = 1 ∧ u8 p (o + 3) = i.val ∧ (s.programs[i].active).isSome = true) ∧
  (program = none → u8 p (o + 2) % 2 = 0) ∧
  label = if 2 ≤ u8 p (o + 2) then some (w32 p (o + 4)) else none

/-- The set an amend payload carries at offset `o` names slot `h` and fails with reason `r` at the first check of R52 that fails. -/
def amendFails (s : State) (p : List Byte) (o : Nat) (h : Handle) (r : Reason) : Prop :=
  let flags := u8 p (o + 2)
  let flagsBad := flags = 0 ∨ 3 < flags
  let queued := ∃ sh, s.waits h sh
  let same := u8 p (o + 1) = s.slots[h].generation.toNat
  let undefined := flags % 2 = 1 ∧ ∀ i : ProgramId, u8 p (o + 3) = i.val → s.programs[i].active = none
  u8 p o = h.val ∧
  ((r = .badField ∧ flagsBad) ∨ (r = .gone ∧ ¬ flagsBad ∧ ¬ queued) ∨ (r = .mismatch ∧ ¬ flagsBad ∧ queued ∧ ¬ same) ∨
    (r = .noProgram ∧ ¬ flagsBad ∧ queued ∧ same ∧ undefined))

/-- AMEND: the first check that fails refuses it with nothing changed; one that passes changes program and label of the QUEUED shot
as its flags say, moves the reference counts from the old program to a new one, and touches nothing else. The reply carries the
handle, the generation and the state after the request. -/
def Obligations.AmendChangesAWaitingShot : Prop :=
  ∀ (tag : Byte) (p : List Byte) (h : Handle) (s : State), LinkFree s → p.length = 8 →
    (∀ sh program label, amendPasses s p 0 h sh program label →
      ∃ t, exec (.amend tag p) s =
          .next (replied t 0x9B tag [0, 0, BitVec.ofNat 8 h.val, s.slots[h].generation + 1, 1]) ∧
        t.slots = s.slots.set h (amendedSlot s.slots[h] sh program label) ∧
        (program = none ∨ program = some sh.program → t.programs = s.programs) ∧
        (∀ i, program = some i → i ≠ sh.program → ∀ j : ProgramId, t.programs[j] = { s.programs[j] with
          refCount := if j = i then s.programs[j].refCount + 1 else if j = sh.program then s.programs[j].refCount - 1
            else s.programs[j].refCount }) ∧
        t = { s with slots := t.slots, programs := t.programs }) ∧
    (∀ r, amendFails s p 0 h r → exec (.amend tag p) s =
      .next (replied s 0x9B tag [1, r.code, BitVec.ofNat 8 h.val, s.slots[h].generation, s.slots[h].stateCode]))

/-- AMEND_PAIR: equal handles, or the first set that fails, set 0 before set 1, refuse both sets with nothing changed; where both
pass, both slots are amended in one step and the reference counts move by the sum of the two changes. -/
def Obligations.AmendPairAmendsBothOrNeither : Prop :=
  ∀ (tag : Byte) (p : List Byte) (h j : Handle) (s : State), LinkFree s → p.length = 16 → u8 p 0 = h.val → u8 p 8 = j.val →
    let slot := fun (k : Handle) => ([BitVec.ofNat 8 k.val, s.slots[k].generation, s.slots[k].stateCode] : List Byte)
    (∀ sh sj ph pj lh lj, h ≠ j → s.refsSound → amendPasses s p 0 h sh ph lh → amendPasses s p 8 j sj pj lj →
      ∃ t, exec (.amendPair tag p) s = .next (replied t 0x9C tag [0, 0, 0xFF, BitVec.ofNat 8 h.val,
          s.slots[h].generation + 1, 1, BitVec.ofNat 8 j.val, s.slots[j].generation + 1, 1]) ∧
        t.slots = (s.slots.set h (amendedSlot s.slots[h] sh ph lh)).set j (amendedSlot s.slots[j] sj pj lj) ∧
        (∀ i : ProgramId, t.programs[i].active = s.programs[i].active ∧ t.programs[i].staged = s.programs[i].staged ∧
          t.programs[i].refCount + (if sh.program = i then 1 else 0) + (if sj.program = i then 1 else 0) =
            s.programs[i].refCount + (if ph.getD sh.program = i then 1 else 0) + (if pj.getD sj.program = i then 1 else 0)) ∧
        t = { s with slots := t.slots, programs := t.programs }) ∧
    (h = j → exec (.amendPair tag p) s = .next (replied s 0x9C tag (([1, 1, 0xFE] : List Byte) ++ slot h ++ slot j))) ∧
    (∀ r, h ≠ j → amendFails s p 0 h r → exec (.amendPair tag p) s =
      .next (replied s 0x9C tag (([1, r.code, 0] : List Byte) ++ slot h ++ slot j))) ∧
    (∀ r sh ph lh, h ≠ j → amendPasses s p 0 h sh ph lh → amendFails s p 8 j r → exec (.amendPair tag p) s =
      .next (replied s 0x9C tag (([1, r.code, 1] : List Byte) ++ slot h ++ slot j)))

/-! ## Pulse programs and the update hold -/

/-- A PROGRAM_WRITE payload carries `x` as pulse `k` (Table 11-8). -/
def carriesPulse (p : List Byte) (k : Nat) (x : Pulse) : Prop :=
  u8 p (2 + 6 * k) = x.output.val ∧ u16 p (3 + 6 * k) = x.start ∧ u16 p (5 + 6 * k) = x.width ∧
  u8 p (7 + 6 * k) = (if x.fine then 1 else 0)

/-- Pulse `k` of a PROGRAM_WRITE payload has a field out of its range. -/
def badPulse (p : List Byte) (k : Nat) : Prop :=
  11 < u8 p (2 + 6 * k) ∨ 65534 < u16 p (3 + 6 * k) ∨ u16 p (5 + 6 * k) = 0 ∨
  65535 < u16 p (3 + 6 * k) + u16 p (5 + 6 * k) ∨ 1 < u8 p (7 + 6 * k)

/-- The interval of a pulse in half ticks, and when two pulses of one version overlap. -/
def Obligations.PulseIntervalsAndTheirOverlap : Prop :=
  ∀ x y : Pulse,
    x.begins = 2 * x.start ∧
    (x.fine = false → x.ends = 2 * (x.start + x.width)) ∧ (x.fine = true → x.ends = 2 * (x.start + x.width) + 1) ∧
    (x.overlaps y = true ↔ x.output = y.output ∧ x.begins < y.ends ∧ y.begins < x.ends)

/-- PROGRAM_WRITE: pulses in range, no two overlapping, become the active version while the hold is CLOSED, the staged one while it
is OPEN, with the largest interval end as the program end; a refused write changes nothing and names the header, the first bad
pulse, or the overlapping pair with the smallest later index and then the smallest earlier one. -/
def Obligations.ProgramWriteStoresACheckedVersion : Prop :=
  ∀ (tag : Byte) (p : List Byte) (s : State), LinkFree s → 2 ≤ p.length → p.length = 2 + 6 * u8 p 1 →
    (∀ (i : ProgramId) (xs : List Pulse) (e : Nat), u8 p 0 = i.val → xs.length = u8 p 1 → 1 ≤ xs.length → xs.length ≤ 8 →
      (∀ k x, xs[k]? = some x → carriesPulse p k x ∧ ¬ badPulse p k) → xs.Pairwise (fun x y => x.overlaps y = false) →
      (∃ x ∈ xs, e = x.ends) → (∀ x ∈ xs, x.ends ≤ e) →
      (s.updateHold = .closed → exec (.programWrite tag p) s = .next (replied { s with
        programs := s.programs.set i { s.programs[i] with active := some ⟨xs, e⟩ } } 0xA0 tag
          (([0, 0, BitVec.ofNat 8 i.val, 0, BitVec.ofNat 8 xs.length] : List Byte) ++ le4 e ++ [0xFF, 0xFF]))) ∧
      (s.updateHold = .opened → exec (.programWrite tag p) s = .next (replied { s with
        programs := s.programs.set i { s.programs[i] with staged := some ⟨xs, e⟩ } } 0xA0 tag
          (([0, 0, BitVec.ofNat 8 i.val, 1, BitVec.ofNat 8 xs.length] : List Byte) ++ le4 e ++ [0xFF, 0xFF])))) ∧
    ((31 < u8 p 0 ∨ u8 p 1 = 0 ∨ 8 < u8 p 1) → exec (.programWrite tag p) s =
      .next (replied s 0xA0 tag [1, 1, 0, 0, 0, 0, 0, 0, 0, 0xFE, 0xFE])) ∧
    (∀ k : Nat, u8 p 0 ≤ 31 → u8 p 1 ≤ 8 → k < u8 p 1 → badPulse p k → (∀ j, j < k → ¬ badPulse p j) →
      exec (.programWrite tag p) s = .next (replied s 0xA0 tag [1, 1, 0, 0, 0, 0, 0, 0, 0, BitVec.ofNat 8 k, 0xFF])) ∧
    (∀ (xs : List Pulse) (a b : Nat) (x y : Pulse), u8 p 0 ≤ 31 → xs.length = u8 p 1 → xs.length ≤ 8 →
      (∀ k x, xs[k]? = some x → carriesPulse p k x ∧ ¬ badPulse p k) →
      a < b → xs[a]? = some x → xs[b]? = some y → x.overlaps y = true →
      (∀ a' b' x' y', a' < b' → xs[a']? = some x' → xs[b']? = some y' → x'.overlaps y' = true →
        b < b' ∨ (b = b' ∧ a ≤ a')) →
      exec (.programWrite tag p) s = .next (replied s 0xA0 tag
        [1, 13, 0, 0, 0, 0, 0, 0, 0, BitVec.ofNat 8 a, BitVec.ofNat 8 b]))

/-- PROGRAM_READ returns one version or the EMPTY marker, with the hold and the reference count, and changes nothing; PROGRAM_CLEAR
makes the active version EMPTY, but is BUSY while the hold is OPEN and refused IN_USE while a waiting shot names the program.
PROGRAM_CLEAR's reply gives the reference count alone; its program field reads 0. HOLD_OPEN opens a closed hold; HOLD_RELEASE makes every staged
version active at once and closes the hold; HOLD_DISCARD drops every staged version and closes the hold. Each out of its state
is refused BAD_STATE and changes nothing. -/
def Obligations.ProgramStoreRequests : Prop :=
  (∀ (tag a b : Byte) (s : State), LinkFree s →
    (∀ i : ProgramId, a.toNat = i.val →
      let x := s.programs[i]
      let version := fun (v : Option Version) => match v with
        | none => ([0, 0, 0, 0, 0] : List Byte)
        | some v => le1 v.pulses.length ++ le4 v.programEnd ++ v.pulses.flatMap (fun y =>
            le1 y.output.val ++ le2 y.start ++ le2 y.width ++ [flagByte y.fine])
      (b = 0 → exec (.programRead tag [a, b]) s = .next (replied s 0xA1 tag
        (([0, 0, a, 0, s.updateHold.code] : List Byte) ++ le2 x.refCount ++ version x.active))) ∧
      (b = 1 → exec (.programRead tag [a, b]) s = .next (replied s 0xA1 tag
        (([0, 0, a, 1, s.updateHold.code] : List Byte) ++ le2 x.refCount ++ version x.staged))) ∧
      (s.updateHold = .opened → exec (.programClear tag [a]) s = .next (replied s 0xA2 tag [2, 14, 0, 0, 0])) ∧
      (s.updateHold = .closed → x.refCount ≠ 0 → exec (.programClear tag [a]) s =
        .next (replied s 0xA2 tag (([1, 12, 0] : List Byte) ++ le2 x.refCount))) ∧
      (s.updateHold = .closed → x.refCount = 0 → exec (.programClear tag [a]) s =
        .next (replied { s with programs := s.programs.set i { x with active := none } } 0xA2 tag [0, 0, 0, 0, 0]))) ∧
    ((31 < a.toNat ∨ 1 < b.toNat) → exec (.programRead tag [a, b]) s = .next (replied s 0xA1 tag
      (([1, 1] : List Byte) ++ zeros 10))) ∧
    (31 < a.toNat → exec (.programClear tag [a]) s = .next (replied s 0xA2 tag [1, 1, 0, 0, 0]))) ∧
  (∀ (tag : Byte) (s : State), LinkFree s →
    let stagedCount := (List.finRange 32).countP (fun i => (s.programs[i].staged).isSome)
    (s.updateHold = .closed →
      exec (.holdOpen tag []) s = .next (replied { s with updateHold := .opened } 0xA3 tag [0, 0]) ∧
      exec (.holdRelease tag []) s = .next (replied s 0xA4 tag [1, 2, 0, 0, 0, 0, 0]) ∧
      exec (.holdDiscard tag []) s = .next (replied s 0xA5 tag [1, 2, 0])) ∧
    (s.updateHold = .opened →
      exec (.holdOpen tag []) s = .next (replied s 0xA3 tag [1, 2]) ∧
      (∃ (t : Vector Program 32) (set : BitVec 32),
        exec (.holdRelease tag []) s = .next (replied { s with programs := t, updateHold := .closed } 0xA4 tag
          (([0, 0, BitVec.ofNat 8 stagedCount] : List Byte) ++ le4 set.toNat)) ∧
        ∀ i : ProgramId, set.getLsbD i.val = (s.programs[i].staged).isSome ∧ t[i].staged = none ∧
          t[i].refCount = s.programs[i].refCount ∧ (s.programs[i].staged = none → t[i].active = s.programs[i].active) ∧
          (∀ v, s.programs[i].staged = some v → t[i].active = some v)) ∧
      (∃ t : Vector Program 32,
        exec (.holdDiscard tag []) s = .next (replied { s with programs := t, updateHold := .closed } 0xA5 tag
          [0, 0, BitVec.ofNat 8 stagedCount]) ∧
        ∀ i : ProgramId, t[i] = { s.programs[i] with staged := none })))

/-! ## The pulse engine -/

/-- A fire attempt: BLOCKED where an output of the version is held; else NO_ENGINE where no run slot is FREE; else CAMERA_BUSY where
a camera the version triggers is not ready (settle count, retrigger interval, free places); else the fire, which fills the
lowest-numbered FREE run slot with a copy of the version, reserves the demand on the confirming cameras, makes the shot FIRING, and
starts the pulses of start 0. -/
def Obligations.FireAttemptChecksThenFires : Prop :=
  ∀ (h : Handle) (sh : Shot) (v : Version) (s : State), s.slots[h].shot = some sh →
    s.programs[sh.program].active = some v →
    let count := match sh.burst with
      | some b => b.count
      | none => 1
    let gap := match sh.burst with
      | some b => b.gap
      | none => 0
    let held := ∃ x ∈ v.pulses, ∃ n : SafeId, s.safes[n].hold = true ∧ s.safes[n].group.getLsbD x.output.val = true
    let trg := fun (c : CameraId) => v.pulses.filter (fun x => x.output.val = c.val)
    let demand := fun (c : CameraId) => (trg c).length * count
    let ready := fun (c : CameraId) =>
      let x := s.cameras[c]
      x.settle = 0 ∧ (x.lastTrigger = none ∨ ∀ y ∈ trg c, x.settings.minInterval ≤ x.elapsed + y.start) ∧
      (x.settings.confirm = false ∨ demand c ≤ 8 - x.queue.length - s.reservedOn c)
    let allReady := ∀ c : CameraId, trg c ≠ [] → ready c
    (held → s.fireAttempt h = s.endShot h .blocked) ∧
    (¬ held → (∀ k : RunSlotId, s.runs[k] ≠ none) → s.fireAttempt h = s.endShot h .noEngine) ∧
    (¬ held → ∀ k : RunSlotId, s.runs[k] = none → (∀ j : RunSlotId, j.val < k.val → s.runs[j] ≠ none) →
      (¬ allReady → s.fireAttempt h = s.endShot h .cameraBusy) ∧
      (allReady → ∃ reserved : Vector Nat 4,
        (∀ c : CameraId, reserved[c] = if s.cameras[c].settings.confirm then demand c else 0) ∧
        s.fireAttempt h = (v.pulses.zipIdx.filter (fun x => x.1.start = 0)).foldl (State.startPulse k) { s with
          runs := s.runs.set k (some { handle := h, fireTime := s.timestamp, pulses := v.pulses, programEnd := v.programEnd
                                       burstCount := count, burstGap := gap, burstIndex := 0, position := 0, held := 0
                                       skipped := 0, reserved := reserved, eventDone := true })
          slots := s.slots.set h ⟨s.slots[h].generation, some { sh with phase := .firing, fireTime := some s.timestamp,
                                                                        runSlot := some k }⟩ }))

/-- A pulse start of the run in slot `k`. On a STATIC output it is skipped, and gives up a place on a TRG output. On a PULSE output
the run holds the output; where another run holds it, both shots take the collided flag and COLLISION latches; on TRGn the camera
records the pulse start timestamp and, where a place is reserved, takes an expectation with its deadline, which the shot counts as
outstanding. That a collision needs another run is log entry 13, and that the elapsed time starts at 0 at the pulse start is log
entry 21. -/
def Obligations.PulseStartHoldsItsOutput : Prop :=
  ∀ (k : RunSlotId) (r : Run) (x : Pulse) (i : Nat) (s : State), s.runs[k] = some r →
    let o := x.output
    let time := r.fireTime + BitVec.ofNat 32 (r.position / 2)
    let others := (s.holders o).filter (fun j => j ≠ k)
    let marked := fun (h : Handle) => others ≠ [] ∧ (h = r.handle ∨ ∃ j ∈ others, (s.runs[j]).map Run.handle = some h)
    (∀ j : RunSlotId, j ∈ s.holders o ↔ ∃ q, s.runs[j] = some q ∧ q.held.getLsbD o.val = true) ∧
    ∃ reserved : Vector Nat 4,
      (∀ c : CameraId, reserved[c] = if c.val = o.val then r.reserved[c] - 1 else r.reserved[c]) ∧
      (s.outputs[o].mode = .staticMode → State.startPulse k s (x, i) = { s with
        runs := s.runs.set k (some { r with skipped := r.skipped ||| BitVec.ofNat 8 (2 ^ i), reserved := reserved }) }) ∧
      (s.outputs[o].mode = .pulseMode → ∃ t, State.startPulse k s (x, i) = t ∧
        t.runs = s.runs.set k (some { r with held := r.held ||| BitVec.ofNat 12 (2 ^ o.val), reserved := reserved }) ∧
        (∀ c : CameraId, c.val ≠ o.val → t.cameras[c] = s.cameras[c]) ∧
        (∀ c : CameraId, c.val = o.val → t.cameras[c] = { s.cameras[c] with
          lastTrigger := some time, elapsed := 0
          queue := if r.reserved[c] = 0 then s.cameras[c].queue else s.cameras[c].queue
            ++ [⟨r.handle, time, time + BitVec.ofNat 32 s.cameras[c].settings.window⟩] }) ∧
        (∀ h : Handle, s.slots[h].shot = none → t.slots[h] = s.slots[h]) ∧
        (∀ (h : Handle) (sh : Shot), s.slots[h].shot = some sh → ∃ (collided : Bool) (outstanding : Nat),
          t.slots[h] = ⟨s.slots[h].generation, some { sh with collided := collided, outstanding := outstanding }⟩ ∧
          (collided = true ↔ sh.collided = true ∨ marked h) ∧
          ((h = r.handle ∧ ∃ c : CameraId, c.val = o.val ∧ r.reserved[c] ≠ 0) → outstanding = sh.outstanding + 1) ∧
          (¬ (h = r.handle ∧ ∃ c : CameraId, c.val = o.val ∧ r.reserved[c] ≠ 0) → outstanding = sh.outstanding)) ∧
        (others ≠ [] → t.alarms = (s.latch .collision).alarms ∧ t.link = (s.latch .collision).link) ∧
        (others = [] → t.alarms = s.alarms ∧ t.link = s.link) ∧
        t = { s with runs := t.runs, cameras := t.cameras, slots := t.slots, alarms := t.alarms, link := t.link })

/-- PULSE_START and PULSE_END: all pulse ends and starts at the run position are one event; the run
leaves the outputs of the unskipped pulses that end, empties its skipped pulses and goes to its next burst at the end of a burst,
and starts the pulses that begin here, in written order. At the end of the run the event is the completion too, whichever command
carries it out (log entry 12). Where none starts, none ends, or the event at this position is done
already, the command does nothing (log entries 6 and 12). -/
def Obligations.RunEventsFollowThePulses : Prop :=
  ∀ (k : RunSlotId) (s : State),
    ((∀ r, s.runs[k] = some r → r.eventDone = true) →
      exec (.pulseStart k) s = .next s ∧ exec (.pulseEnd k) s = .next s ∧ exec (.runCompletion k) s = .next s) ∧
    (∀ r, s.runs[k] = some r → r.eventDone = false →
      let period := r.programEnd + 2 * r.burstGap
      let here := r.burstIndex * period
      let ending := fun (x : Pulse) => r.position = here + x.ends
      let burstOver := r.position = here + r.programEnd
      let burst := if burstOver ∧ r.burstIndex + 1 < r.burstCount then r.burstIndex + 1 else r.burstIndex
      let starts := r.pulses.zipIdx.filter (fun x => r.position = burst * period + x.1.begins)
      let endsHere := burstOver ∨ ∃ x ∈ r.pulses, ending x
      (starts = [] → exec (.pulseStart k) s = .next s) ∧
      (¬ endsHere → exec (.pulseEnd k) s = .next s) ∧
      (r.position = (r.burstCount - 1) * period + r.programEnd →
        (starts ≠ [] → exec (.pulseStart k) s = exec (.runCompletion k) s) ∧
        (endsHere → exec (.pulseEnd k) s = exec (.runCompletion k) s)) ∧
      (r.position ≠ (r.burstCount - 1) * period + r.programEnd → ∃ held : BitVec 12,
        (∀ o : OutputId, held.getLsbD o.val = true ↔ r.held.getLsbD o.val = true ∧
          ¬ ∃ x ∈ r.pulses.zipIdx, x.1.output = o ∧ ending x.1 ∧ r.skipped.getLsbD x.2 = false) ∧
        let t := starts.foldl (State.startPulse k) { s with runs := s.runs.set k (some { r with
          held := held, skipped := if burstOver then 0 else r.skipped, burstIndex := burst, eventDone := true }) }
        (starts ≠ [] → exec (.pulseStart k) s = .next t.beginTx) ∧ (endsHere → exec (.pulseEnd k) s = .next t.beginTx)))

/-- RUN_COMPLETION at the run length: the run slot is FREE, its holds and places gone with it; a shot with nothing outstanding ends
ABORTED, FRAME_LOST or DONE, another becomes AWAITING. Before the run length it does nothing. An abort does the same at once and
sets the aborted flag; the runs aborted for a set of outputs are those that name one, in ascending order of their slots. That a
completion before its time does nothing is log entry 6, and which command carries it out is log entry 12. -/
def Obligations.RunsCompleteOrAbort : Prop :=
  (∀ (k : RunSlotId) (r : Run) (sh : Shot) (s : State), s.runs[k] = some r → s.slots[r.handle].shot = some sh →
    let length := (r.burstCount - 1) * (r.programEnd + 2 * r.burstGap) + r.programEnd
    let after := fun (x : Shot) => ({ s with
      runs := s.runs.set k none
      slots := s.slots.set r.handle ⟨s.slots[r.handle].generation, some x⟩ } : State)
    let code := if sh.aborted then OutcomeCode.aborted else if 0 < sh.lost then .frameLost else .done
    (r.position ≠ length → exec (.runCompletion k) s = .next s) ∧
    (r.position = length → r.eventDone = false → sh.outstanding = 0 → exec (.runCompletion k) s =
      .next (State.beginTx ((after { sh with runSlot := none }).endShot r.handle code))) ∧
    (r.position = length → r.eventDone = false → sh.outstanding ≠ 0 → exec (.runCompletion k) s =
      .next (State.beginTx (after { sh with runSlot := none, phase := .awaiting }))) ∧
    (sh.outstanding = 0 → s.abortRun k =
      (after { sh with runSlot := none, aborted := true }).endShot r.handle .aborted) ∧
    (sh.outstanding ≠ 0 → s.abortRun k = after { sh with runSlot := none, aborted := true, phase := .awaiting })) ∧
  (∀ (outputs : BitVec 12) (s : State), ∃ ks : List RunSlotId, ks.Pairwise (fun i j => i.val < j.val) ∧
    (∀ k : RunSlotId, k ∈ ks ↔ ∃ r, s.runs[k] = some r ∧ ∃ x ∈ r.pulses, outputs.getLsbD x.output.val = true) ∧
    s.abortNaming outputs = ks.foldl State.abortRun s)

/-! ## Outputs -/

/-- An output is held while a safe input whose hold is ON has it in its group; it is active when it is not held and is STATIC with
level ACTIVE, or PULSE with a run holding it; the pin shows that through the polarity, and is low while RSTN is low. -/
def Obligations.PinsShowTheActiveState : Prop :=
  ∀ (o : OutputId) (s : State),
    (s.outputHeld o = true ↔ ∃ n : SafeId, s.safes[n].hold = true ∧ s.safes[n].group.getLsbD o.val = true) ∧
    (s.outputActive o = true ↔ s.outputHeld o = false ∧
      ((s.outputs[o].mode = .staticMode ∧ s.outputs[o].level = .active) ∨
       (s.outputs[o].mode = .pulseMode ∧ ∃ (k : RunSlotId) (r : Run), s.runs[k] = some r ∧ r.held.getLsbD o.val = true))) ∧
    (s.phase = .coldReset → s.pinLevel o = .low) ∧
    (s.phase ≠ .coldReset → s.outputs[o].polarity = .activeHigh → (s.pinLevel o = .high ↔ s.outputActive o = true)) ∧
    (s.phase ≠ .coldReset → s.outputs[o].polarity = .activeLow → (s.pinLevel o = .low ↔ s.outputActive o = true))

/-- OUTPUT_SET writes polarity and mode; a change of mode makes the static level INACTIVE, and PULSE to STATIC drops every run's
hold on the output. OUTPUT_DRIVE sets the static level of a STATIC output, ACTIVE only while it is not held. Each is refused
PROTECTED under the protect flag, and a refused one changes nothing. The output field of a reply reads 0, since neither rule gives
it a value. -/
def Obligations.OutputSetAndDrive : Prop :=
  (∀ (tag a b c : Byte) (s : State), LinkFree s →
    (∀ (o : OutputId) (pol : Polarity) (mode : OutputMode), a.toNat = o.val → b = pol.code → c = mode.code →
      let x := s.outputs[o]
      let answer := fun (t : State) => replied t 0xA8 tag [0, 0, 0, b, c, t.outputs[o].level.code, flagByte (t.outputHeld o),
        flagByte (t.outputActive o)]
      (x.protect = true → exec (.outputSet tag [a, b, c]) s = .next (replied s 0xA8 tag [1, 15, 0, 0, 0, 0, 0, 0])) ∧
      (x.protect = false → mode = x.mode → exec (.outputSet tag [a, b, c]) s =
        .next (answer { s with outputs := s.outputs.set o { x with polarity := pol } })) ∧
      (x.protect = false → x.mode = .staticMode → mode = .pulseMode → exec (.outputSet tag [a, b, c]) s =
        .next (answer { s with outputs := s.outputs.set o ⟨pol, .pulseMode, .inactive, false⟩ })) ∧
      (x.protect = false → x.mode = .pulseMode → mode = .staticMode → ∃ runs : Vector (Option Run) 6,
        exec (.outputSet tag [a, b, c]) s =
          .next (answer { s with outputs := s.outputs.set o ⟨pol, .staticMode, .inactive, false⟩, runs := runs }) ∧
        (∀ k : RunSlotId, s.runs[k] = none → runs[k] = none) ∧
        (∀ (k : RunSlotId) (r : Run), s.runs[k] = some r → ∃ held : BitVec 12, runs[k] = some { r with held := held } ∧
          ∀ q : OutputId, held.getLsbD q.val = true ↔ r.held.getLsbD q.val = true ∧ q ≠ o))) ∧
    ((11 < a.toNat ∨ 1 < b.toNat ∨ 1 < c.toNat) → exec (.outputSet tag [a, b, c]) s =
      .next (replied s 0xA8 tag [1, 1, 0, 0, 0, 0, 0, 0]))) ∧
  (∀ (tag a b : Byte) (s : State), LinkFree s →
    (∀ (o : OutputId) (level : DriveLevel), a.toNat = o.val → b = level.code →
      let x := s.outputs[o]
      let t : State := { s with outputs := s.outputs.set o { x with level := level } }
      (x.protect = true → exec (.outputDrive tag [a, b]) s = .next (replied s 0xA9 tag [1, 15, 0, 0, 0, 0, 0, 0])) ∧
      (x.protect = false → x.mode = .pulseMode → exec (.outputDrive tag [a, b]) s =
        .next (replied s 0xA9 tag [1, 2, 0, 0, 0, 0, 0, 0])) ∧
      (x.protect = false → x.mode = .staticMode → level = .active → s.outputHeld o = true →
        exec (.outputDrive tag [a, b]) s = .next (replied s 0xA9 tag [1, 3, 0, 0, 0, 0, 0, 0])) ∧
      (x.protect = false → x.mode = .staticMode → (level = .inactive ∨ s.outputHeld o = false) →
        exec (.outputDrive tag [a, b]) s = .next (replied t 0xA9 tag [0, 0, 0, x.polarity.code, 1, b,
          flagByte (s.outputHeld o), flagByte (decide (level = .active))]))) ∧
    ((11 < a.toNat ∨ 1 < b.toNat) → exec (.outputDrive tag [a, b]) s =
      .next (replied s 0xA9 tag [1, 1, 0, 0, 0, 0, 0, 0])))

/-- OUTPUT_PROTECT sets or clears the protect flags of the outputs of a set, leaves the others, and replies with the protected set;
OUTPUT_READ returns the state byte and the number of holders of every output and changes nothing. That the unnamed bit 7 of a state
byte reads 0 is log entry 31. -/
def Obligations.OutputProtectAndRead : Prop :=
  (∀ (tag : Byte) (p : List Byte) (s : State), LinkFree s → p.length = 3 →
    (u8 p 0 ≤ 1 → u16 p 1 < 4096 → ∃ (outputs : Vector Output 12) (set : BitVec 12),
      exec (.outputProtect tag p) s =
        .next (replied { s with outputs := outputs } 0xAA tag (([0, 0] : List Byte) ++ le2 set.toNat)) ∧
      (∀ o : OutputId, outputs[o] = { s.outputs[o] with
        protect := if (u16 p 1).testBit o.val then decide (u8 p 0 = 1) else s.outputs[o].protect }) ∧
      (∀ o : OutputId, set.getLsbD o.val = outputs[o].protect)) ∧
    ((1 < u8 p 0 ∨ 4096 ≤ u16 p 1) → exec (.outputProtect tag p) s = .next (replied s 0xAA tag [1, 1, 0, 0]))) ∧
  (∀ (tag : Byte) (s : State), LinkFree s →
    let bit := fun (x : Bool) (k : Nat) => if x then k else 0
    let state := fun (o : OutputId) =>
      let x := s.outputs[o]
      bit (decide (x.polarity = .activeLow)) 1 + bit (decide (x.mode = .staticMode)) 2 + bit (decide (x.level = .active)) 4
        + bit x.protect 8 + bit (s.outputHeld o) 16 + bit (s.outputActive o) 32 + bit (decide (s.pinLevel o = .high)) 64
    let holders := fun (o : OutputId) => allRunSlots.countP (fun k => match s.runs[k] with
      | none => false
      | some r => r.held.getLsbD o.val)
    exec (.outputRead tag []) s = .next (replied s 0xAB tag
      (([0, 0] : List Byte) ++ (List.finRange 12).flatMap (fun o => [BitVec.ofNat 8 (state o), BitVec.ofNat 8 (holders o)]))))

/-! ## Camera channels -/

/-- CAMERA_SET replaces the four settings, CAMERA_SETTLE the settle count; each is BUSY PENDING while the queue holds an entry or a
run a reserved place, and changes nothing then. CAMERA_READ returns settings, counts, last trigger, places and entries; its camera
field reads 0. That CAMERA_SET's reply carries the camera number, the first of "the same five fields", is log entry 14. -/
def Obligations.CameraRequests : Prop :=
  ∀ (tag a b : Byte) (p : List Byte) (s : State), LinkFree s → p.length = 11 →
    (∀ c : CameraId,
      let x := s.cameras[c]
      let pending := x.queue ≠ [] ∨ ∃ (k : RunSlotId) (r : Run), s.runs[k] = some r ∧ r.reserved[c] ≠ 0
      (∀ y : CameraSettings, u8 p 0 = c.val → u8 p 1 = y.edge.code.toNat → u8 p 2 = (if y.confirm then 1 else 0) →
        u32 p 3 = y.window → u32 p 7 = y.minInterval → 1 ≤ y.window → y.window ≤ 16777216 → y.minInterval ≤ 16777216 →
        ¬ (y.confirm = true ∧ y.edge = .ignore) →
        (¬ pending → exec (.cameraSet tag p) s = .next (replied { s with cameras := s.cameras.set c { x with settings := y } }
          0xB0 tag (([0, 0, BitVec.ofNat 8 c.val, y.edge.code, flagByte y.confirm] : List Byte) ++ le4 y.window
            ++ le4 y.minInterval))) ∧
        (pending → exec (.cameraSet tag p) s = .next (replied s 0xB0 tag (([2, 16] : List Byte) ++ zeros 11)))) ∧
      (a.toNat = c.val → b.toNat ≤ 15 →
        (¬ pending → exec (.cameraSettle tag [a, b]) s = .next (replied
          { s with cameras := s.cameras.set c { x with settle := b.toNat } } 0xB1 tag
          (([0, 0, b] : List Byte) ++ le4 x.counter.toNat))) ∧
        (pending → exec (.cameraSettle tag [a, b]) s = .next (replied s 0xB1 tag [2, 16, 0, 0, 0, 0, 0]))) ∧
      (a.toNat = c.val → exec (.cameraRead tag [a]) s = .next (replied s 0xB2 tag (
        ([0, 0, 0, x.settings.edge.code, flagByte x.settings.confirm] : List Byte) ++ le4 x.settings.window
        ++ le4 x.settings.minInterval ++ le4 x.counter.toNat ++ le1 x.settle ++ [flagByte x.lastTrigger.isSome]
        ++ le4 ((x.lastTrigger.map BitVec.toNat).getD 0) ++ le4 x.elapsed ++ le1 x.queue.length ++ le1 (s.reservedOn c)
        ++ le1 (8 - x.queue.length - s.reservedOn c)
        ++ (x.queue.take 8).flatMap (fun e => le1 e.handle.val ++ le4 e.pulseStart.toNat ++ le4 e.deadline.toNat)
        ++ zeros (72 - 9 * (x.queue.take 8).length))))) ∧
    ((3 < u8 p 0 ∨ 2 < u8 p 1 ∨ 1 < u8 p 2 ∨ u32 p 3 = 0 ∨ 16777216 < u32 p 3 ∨ 16777216 < u32 p 7 ∨
      (u8 p 2 = 1 ∧ u8 p 1 = 0)) → exec (.cameraSet tag p) s = .next (replied s 0xB0 tag (([1, 1] : List Byte) ++ zeros 11))) ∧
    ((3 < a.toNat ∨ 15 < b.toNat) → exec (.cameraSettle tag [a, b]) s = .next (replied s 0xB1 tag [1, 1, 0, 0, 0, 0, 0])) ∧
    (3 < a.toNat → exec (.cameraRead tag [a]) s = .next (replied s 0xB2 tag (([1, 1] : List Byte) ++ zeros 100)))

/-- FRAME_START: an edge on FSn of the selected kind counts a frame; the settle count takes it, or with confirm ON the oldest
expectation is confirmed by it, its shot counting it and keeping it among its first four frames, or with none waiting STRAY_Cn
latches; an AWAITING shot with nothing outstanding then ends. An edge of another kind, or no edge, counts nothing. DEADLINE_EXPIRY:
when the timestamp has reached the deadline of the oldest expectation, that entry is removed and its shot counts one lost; an
AWAITING shot with nothing outstanding then ends ABORTED or FRAME_LOST. Before the deadline, and with an empty queue, nothing
happens. While the part is in reset or starting an edge moves the level of the pin and nothing else (log entry 18). That FRAME_START
carries the level of the pin is log entry 28, and that an expiry before its time does nothing is log entry
6. -/
def Obligations.ExpectationsAreConfirmedOrLost : Prop :=
  (∀ (c : CameraId) (level : Level) (s : State), s.phase = .running →
    let x := s.cameras[c]
    let selected := (x.settings.edge = .rise ∧ level = .high) ∨ (x.settings.edge = .fall ∧ level = .low)
    let y : Camera := { x with fs := level, counter := x.counter + 1 }
    let camera := fun (z : Camera) => ({ s with cameras := s.cameras.set c z } : State)
    (x.fs = level → exec (.frameStart c level) s = .next s) ∧
    (x.fs ≠ level → ¬ selected → exec (.frameStart c level) s = .next (camera { x with fs := level })) ∧
    (x.fs ≠ level → selected → 0 < x.settle →
      exec (.frameStart c level) s = .next (camera { y with settle := x.settle - 1 }).beginTx) ∧
    (x.fs ≠ level → selected → x.settle = 0 → x.settings.confirm = false →
      exec (.frameStart c level) s = .next (camera y).beginTx) ∧
    (x.fs ≠ level → selected → x.settle = 0 → x.settings.confirm = true → x.queue = [] →
      exec (.frameStart c level) s = .next ((camera y).latch (.stray c)).beginTx) ∧
    (∀ e rest sh, x.fs ≠ level → selected → x.settle = 0 → x.settings.confirm = true → x.queue = e :: rest →
      s.slots[e.handle].shot = some sh →
      let sh' : Shot := { sh with
        confirmed := sh.confirmed + 1
        outstanding := sh.outstanding - 1
        frames := if sh.frames.length < 4 then sh.frames ++ [⟨c, x.counter + 1⟩] else sh.frames }
      let t : State := { camera { y with queue := rest } with
        slots := s.slots.set e.handle ⟨s.slots[e.handle].generation, some sh'⟩ }
      let code := if sh.aborted then OutcomeCode.aborted else if 0 < sh.lost then .frameLost else .done
      (sh.phase = .awaiting → sh.outstanding ≤ 1 →
        exec (.frameStart c level) s = .next (t.endShot e.handle code).beginTx) ∧
      (sh.phase ≠ .awaiting ∨ 1 < sh.outstanding → exec (.frameStart c level) s = .next t.beginTx))) ∧
  (∀ (c : CameraId) (level : Level) (s : State), s.phase ≠ .running →
    let x := s.cameras[c]
    (x.fs = level → exec (.frameStart c level) s = .next s) ∧
    (x.fs ≠ level → exec (.frameStart c level) s = .next { s with cameras := s.cameras.set c { x with fs := level } })) ∧
  (∀ (c : CameraId) (s : State),
    let x := s.cameras[c]
    (x.queue = [] → exec (.deadlineExpiry c) s = .next s) ∧
    (∀ e rest sh, x.queue = e :: rest → s.slots[e.handle].shot = some sh →
      let due := (e.deadline - e.pulseStart).toNat ≤ (s.timestamp - e.pulseStart).toNat
      let t : State := { s with
        cameras := s.cameras.set c { x with queue := rest }
        slots := s.slots.set e.handle ⟨s.slots[e.handle].generation,
          some { sh with lost := sh.lost + 1, outstanding := sh.outstanding - 1 }⟩ }
      (¬ due → exec (.deadlineExpiry c) s = .next s) ∧
      (due → sh.phase = .awaiting → sh.outstanding ≤ 1 → exec (.deadlineExpiry c) s =
        .next (t.endShot e.handle (if sh.aborted then .aborted else .frameLost)).beginTx) ∧
      (due → sh.phase ≠ .awaiting ∨ 1 < sh.outstanding → exec (.deadlineExpiry c) s = .next t.beginTx)))

/-! ## Safe-stop inputs -/

/-- What a hold does to outputs it newly takes and lanes it newly binds: STATIC outputs go to the level INACTIVE, every run that
names one of the outputs is aborted, and ARMED and PAUSED lanes are HALTED. -/
def holdTakes (s : State) (group : BitVec 12) (binding : BitVec 4) (t : State) : Prop :=
  ∃ (outputs : Vector Output 12) (lanes : Vector Lane 4),
    (∀ o : OutputId, outputs[o] = { s.outputs[o] with
      level := if group.getLsbD o.val = true ∧ s.outputs[o].mode = .staticMode then .inactive else s.outputs[o].level }) ∧
    (∀ l : LaneId, lanes[l] = { s.lanes[l] with
      state := if binding.getLsbD l.val = true ∧ (s.lanes[l].state = .armed ∨ s.lanes[l].state = .paused) then .halted
        else s.lanes[l].state }) ∧
    t = { State.abortNaming { s with outputs := outputs } group with lanes := lanes }

/-- SAFE_PIN_CHANGE: a detection while the hold is OFF is a hold onset: the hold ON, the group held, the runs that name it aborted,
the bound lanes halted and the alarm latched, in one event; a detection while the hold is ON, an edge that is no detection, or a
level the pin has already does nothing but move the pin. The other input is not touched. That the command carries the level of the
pin is log entry 28, and the order inside the onset is log entry 17. -/
def Obligations.SafePinChangeStartsTheHold : Prop :=
  ∀ (n : SafeId) (level : Level) (s : State),
    let x := s.safes[n]
    let detects := (x.detection = .rise ∧ level = .high) ∨ (x.detection = .fall ∧ level = .low) ∨ x.detection = .both ∨
      (x.detection = .low ∧ level = .low) ∨ (x.detection = .high ∧ level = .high)
    let moved : State := { s with safes := s.safes.set n { x with pin := level } }
    (x.pin = level → exec (.safePinChange n level) s = .next s) ∧
    (x.pin ≠ level → s.phase = .coldReset → exec (.safePinChange n level) s = .next moved) ∧
    (x.pin ≠ level → s.phase ≠ .coldReset → (¬ detects ∨ x.hold = true) →
      exec (.safePinChange n level) s = .next moved.beginTx) ∧
    (x.pin ≠ level → s.phase ≠ .coldReset → detects → x.hold = false → ∃ t,
      holdTakes { s with safes := s.safes.set n { x with pin := level, hold := true } } x.group x.binding t ∧
      exec (.safePinChange n level) s = .next (t.latch (.safe n)).beginTx)

/-- SAFE_UNLOCK leaves the unlock flag set for the next request; SAFE_SET without it is refused LOCKED; with it the three settings
are replaced, a level condition already present starts a hold that is OFF, and under a hold that is ON the added outputs and lanes
are taken; SAFE_READ returns the flag as noted and both inputs. SAFE_RELEASE turns the hold OFF, but not while the input shows its
level condition; outputs and lanes stay as they are. That a refused one shows hold and pin is the model's choice, log entry 15. The
input field of a SAFE_SET reply reads 0. That the order inside an onset is the model's choice is log entry 17, and that on an idle
transmitter the SAFE_SET reply goes before the reports of the same event is log entry 11. -/
def Obligations.SafeRequests : Prop :=
  (∀ (tag : Byte) (p : List Byte) (s : State), LinkFree s → p.length = 5 →
    exec (.safeUnlock tag []) s = .next { replied s 0xB8 tag [0, 0] with unlock := true } ∧
    (s.unlock = false → exec (.safeSet tag p) s = .next (replied s 0xB9 tag [1, 17, 0, 0, 0, 0, 0, 0, 0])) ∧
    (s.unlock = true → (1 < u8 p 0 ∨ 5 < u8 p 1 ∨ 4096 ≤ u16 p 2 ∨ 16 ≤ u8 p 4) →
      exec (.safeSet tag p) s = .next (replied s 0xB9 tag [1, 1, 0, 0, 0, 0, 0, 0, 0])) ∧
    (∀ (n : SafeId) (d : Detection) (g : BitVec 12) (b : BitVec 4), s.unlock = true → u8 p 0 = n.val →
      u8 p 1 = d.code.toNat → u16 p 2 = g.toNat → u8 p 4 = b.toNat →
      let x := s.safes[n]
      let shows := (d = .low ∧ x.pin = .low) ∨ (d = .high ∧ x.pin = .high)
      let installed := fun (hold : Bool) => ({ s with safes := s.safes.set n ⟨d, g, b, hold, x.pin⟩ } : State)
      let reply := fun (hold : Bool) => ([0, 0, 0, d.code] : List Byte) ++ le2 g.toNat ++ le1 b.toNat
        ++ [flagByte hold, levelCode x.pin]
      (x.hold = false → ¬ shows → exec (.safeSet tag p) s = .next (replied (installed false) 0xB9 tag (reply false))) ∧
      (x.hold = false → shows → ∃ t, holdTakes (installed true) g b t ∧
        exec (.safeSet tag p) s = .next (replied (t.latch (.safe n)) 0xB9 tag (reply true))) ∧
      (x.hold = true → ∃ t, holdTakes (installed true) (g &&& ~~~x.group) (b &&& ~~~x.binding) t ∧
        exec (.safeSet tag p) s = .next (replied t 0xB9 tag (reply true)))) ∧
    (∀ input : SafeInput → List Byte, input = (fun (x : SafeInput) => ([x.detection.code] : List Byte) ++ le2 x.group.toNat ++ le1 x.binding.toNat
        ++ [flagByte x.hold, levelCode x.pin, flagByte (decide ((x.detection = .low ∧ x.pin = .low) ∨
          (x.detection = .high ∧ x.pin = .high)))]) →
      exec (.safeRead tag []) s = .next (replied s 0xBB tag
        (([0, 0, flagByte s.unlock] : List Byte) ++ input s.safes[0] ++ input s.safes[1])))) ∧
  (∀ (tag a : Byte) (s : State), LinkFree s →
    (∀ n : SafeId, a.toNat = n.val →
      let x := s.safes[n]
      let shows := (x.detection = .low ∧ x.pin = .low) ∨ (x.detection = .high ∧ x.pin = .high)
      (x.hold = true → shows → exec (.safeRelease tag [a]) s = .next (replied s 0xBA tag [1, 3, 1, levelCode x.pin])) ∧
      (x.hold = true → ¬ shows → exec (.safeRelease tag [a]) s = .next (replied
        { s with safes := s.safes.set n { x with hold := false } } 0xBA tag [0, 0, 0, levelCode x.pin])) ∧
      (x.hold = false → exec (.safeRelease tag [a]) s = .next (replied s 0xBA tag [0, 0, 0, levelCode x.pin]))) ∧
    (1 < a.toNat → exec (.safeRelease tag [a]) s = .next (replied s 0xBA tag [1, 1, 0, 0])))

/-! ## What every step keeps -/

/-- Every step keeps the outcome queue at 64 records or fewer, the receive buffer and the reply buffer at 4 frames each and the report
queue at 8 reports. (Of the cameras' expectation queues speaks StepKeepsTheCameraPlaces, of the lane queues StepKeepsTheQueuesOrdered.)
The program store stays sound: no staged version under a CLOSED hold, and every version checked. -/
def Obligations.StepKeepsCapacitiesAndTheStore : Prop :=
  (∀ s t : State, s.withinCapacity → step s = .next t → t.withinCapacity) ∧
  (∀ s t : State, s.storeSound → step s = .next t → t.storeSound)

/-- What stands under a safe hold that is ON stands after every step: its alarm latched, its lanes OFF or HALTED, its outputs
INACTIVE, no run naming them; and an output's mode agrees with its holders and its static level. -/
def Obligations.StepKeepsTheSafeHolds : Prop :=
  ∀ s t : State, s.holdsStand → s.modesStand → step s = .next t → t.holdsStand ∧ t.modesStand

/-- A camera's expectations plus its reserved places never exceed 8. The times of runs, pacers and expectations stay in step with the
timestamp, and in a state where they are the deadlines of a camera's expectations do not decrease from the oldest to the newest.
That fires fall on whole ticks, on which this rests, is log entry 20. -/
def Obligations.StepKeepsTheCameraPlaces : Prop :=
  (∀ s t : State, s.placesSound → step s = .next t → t.placesSound) ∧
  (∀ s t : State, s.timesSound → step s = .next t → t.timesSound) ∧
  (∀ s : State, s.timesSound → s.deadlinesOrdered)

/-- Every slot stays in one state, named by one queue or one run slot as it says, and a reference count stays the number of QUEUED
shots that name the program, each naming a DEFINED one. -/
def Obligations.StepKeepsThePoolAndItsReferences : Prop :=
  ∀ s t : State, s.poolSound → s.refsSound → step s = .next t → t.poolSound ∧ t.refsSound

/-- The lane queues stay ordered: ahead-distances from 1 to the horizon, ascending by at least the spacing, within the quota. -/
def Obligations.StepKeepsTheQueuesOrdered : Prop :=
  ∀ s t : State, s.poolSound → s.queuesOrdered → step s = .next t → t.queuesOrdered

/-- A shot's outstanding count stays the number of expectations that name it, and only FIRING and AWAITING shots are named. -/
def Obligations.StepKeepsTheExpectations : Prop :=
  ∀ s t : State, s.poolSound → s.awaitSound → step s = .next t → t.awaitSound

/-- The machine right after reset has every property that the steps keep. -/
def Obligations.ResetHasWhatTheStepsKeep : Prop :=
  State.reset.withinCapacity ∧ State.reset.holdsStand ∧ State.reset.modesStand ∧ State.reset.storeSound ∧
  State.reset.placesSound ∧ State.reset.poolSound ∧ State.reset.refsSound ∧ State.reset.queuesOrdered ∧ State.reset.awaitSound ∧
  State.reset.timesSound
end

