-- ==== Sys2Proof/Laws/State.lean ====
section
/-! SUPPORT. One lemma per field of State for each update of it, all true by rfl: no later proof unfolds a record update. -/

namespace Sys2Proof.Machine

/-! ## State.setEncoder -/

@[simp] theorem State.setEncoder_phase (s : State) (n : EncoderId) (x : Encoder) : (s.setEncoder n x).phase = s.phase := rfl
@[simp] theorem State.setEncoder_startTimer (s : State) (n : EncoderId) (x : Encoder) : (s.setEncoder n x).startTimer = s.startTimer := rfl
@[simp] theorem State.setEncoder_timestamp (s : State) (n : EncoderId) (x : Encoder) : (s.setEncoder n x).timestamp = s.timestamp := rfl
@[simp] theorem State.setEncoder_halfTick (s : State) (n : EncoderId) (x : Encoder) : (s.setEncoder n x).halfTick = s.halfTick := rfl
@[simp] theorem State.setEncoder_encoders (s : State) (n : EncoderId) (x : Encoder) : (s.setEncoder n x).encoders = s.encoders.set n x := rfl
@[simp] theorem State.setEncoder_pacers (s : State) (n : EncoderId) (x : Encoder) : (s.setEncoder n x).pacers = s.pacers := rfl
@[simp] theorem State.setEncoder_lanes (s : State) (n : EncoderId) (x : Encoder) : (s.setEncoder n x).lanes = s.lanes := rfl
@[simp] theorem State.setEncoder_slots (s : State) (n : EncoderId) (x : Encoder) : (s.setEncoder n x).slots = s.slots := rfl
@[simp] theorem State.setEncoder_programs (s : State) (n : EncoderId) (x : Encoder) : (s.setEncoder n x).programs = s.programs := rfl
@[simp] theorem State.setEncoder_updateHold (s : State) (n : EncoderId) (x : Encoder) : (s.setEncoder n x).updateHold = s.updateHold := rfl
@[simp] theorem State.setEncoder_runs (s : State) (n : EncoderId) (x : Encoder) : (s.setEncoder n x).runs = s.runs := rfl
@[simp] theorem State.setEncoder_outputs (s : State) (n : EncoderId) (x : Encoder) : (s.setEncoder n x).outputs = s.outputs := rfl
@[simp] theorem State.setEncoder_cameras (s : State) (n : EncoderId) (x : Encoder) : (s.setEncoder n x).cameras = s.cameras := rfl
@[simp] theorem State.setEncoder_safes (s : State) (n : EncoderId) (x : Encoder) : (s.setEncoder n x).safes = s.safes := rfl
@[simp] theorem State.setEncoder_unlock (s : State) (n : EncoderId) (x : Encoder) : (s.setEncoder n x).unlock = s.unlock := rfl
@[simp] theorem State.setEncoder_outcomes (s : State) (n : EncoderId) (x : Encoder) : (s.setEncoder n x).outcomes = s.outcomes := rfl
@[simp] theorem State.setEncoder_alarms (s : State) (n : EncoderId) (x : Encoder) : (s.setEncoder n x).alarms = s.alarms := rfl
@[simp] theorem State.setEncoder_link (s : State) (n : EncoderId) (x : Encoder) : (s.setEncoder n x).link = s.link := rfl
@[simp] theorem State.setEncoder_arbiter (s : State) (n : EncoderId) (x : Encoder) : (s.setEncoder n x).arbiter = s.arbiter := rfl
@[simp] theorem State.setEncoder_pending (s : State) (n : EncoderId) (x : Encoder) : (s.setEncoder n x).pending = s.pending := rfl

/-! ## State.setPacer -/

@[simp] theorem State.setPacer_phase (s : State) (n : PacerId) (x : Pacer) : (s.setPacer n x).phase = s.phase := rfl
@[simp] theorem State.setPacer_startTimer (s : State) (n : PacerId) (x : Pacer) : (s.setPacer n x).startTimer = s.startTimer := rfl
@[simp] theorem State.setPacer_timestamp (s : State) (n : PacerId) (x : Pacer) : (s.setPacer n x).timestamp = s.timestamp := rfl
@[simp] theorem State.setPacer_halfTick (s : State) (n : PacerId) (x : Pacer) : (s.setPacer n x).halfTick = s.halfTick := rfl
@[simp] theorem State.setPacer_encoders (s : State) (n : PacerId) (x : Pacer) : (s.setPacer n x).encoders = s.encoders := rfl
@[simp] theorem State.setPacer_pacers (s : State) (n : PacerId) (x : Pacer) : (s.setPacer n x).pacers = s.pacers.set n x := rfl
@[simp] theorem State.setPacer_lanes (s : State) (n : PacerId) (x : Pacer) : (s.setPacer n x).lanes = s.lanes := rfl
@[simp] theorem State.setPacer_slots (s : State) (n : PacerId) (x : Pacer) : (s.setPacer n x).slots = s.slots := rfl
@[simp] theorem State.setPacer_programs (s : State) (n : PacerId) (x : Pacer) : (s.setPacer n x).programs = s.programs := rfl
@[simp] theorem State.setPacer_updateHold (s : State) (n : PacerId) (x : Pacer) : (s.setPacer n x).updateHold = s.updateHold := rfl
@[simp] theorem State.setPacer_runs (s : State) (n : PacerId) (x : Pacer) : (s.setPacer n x).runs = s.runs := rfl
@[simp] theorem State.setPacer_outputs (s : State) (n : PacerId) (x : Pacer) : (s.setPacer n x).outputs = s.outputs := rfl
@[simp] theorem State.setPacer_cameras (s : State) (n : PacerId) (x : Pacer) : (s.setPacer n x).cameras = s.cameras := rfl
@[simp] theorem State.setPacer_safes (s : State) (n : PacerId) (x : Pacer) : (s.setPacer n x).safes = s.safes := rfl
@[simp] theorem State.setPacer_unlock (s : State) (n : PacerId) (x : Pacer) : (s.setPacer n x).unlock = s.unlock := rfl
@[simp] theorem State.setPacer_outcomes (s : State) (n : PacerId) (x : Pacer) : (s.setPacer n x).outcomes = s.outcomes := rfl
@[simp] theorem State.setPacer_alarms (s : State) (n : PacerId) (x : Pacer) : (s.setPacer n x).alarms = s.alarms := rfl
@[simp] theorem State.setPacer_link (s : State) (n : PacerId) (x : Pacer) : (s.setPacer n x).link = s.link := rfl
@[simp] theorem State.setPacer_arbiter (s : State) (n : PacerId) (x : Pacer) : (s.setPacer n x).arbiter = s.arbiter := rfl
@[simp] theorem State.setPacer_pending (s : State) (n : PacerId) (x : Pacer) : (s.setPacer n x).pending = s.pending := rfl

/-! ## State.setLane -/

@[simp] theorem State.setLane_phase (s : State) (l : LaneId) (x : Lane) : (s.setLane l x).phase = s.phase := rfl
@[simp] theorem State.setLane_startTimer (s : State) (l : LaneId) (x : Lane) : (s.setLane l x).startTimer = s.startTimer := rfl
@[simp] theorem State.setLane_timestamp (s : State) (l : LaneId) (x : Lane) : (s.setLane l x).timestamp = s.timestamp := rfl
@[simp] theorem State.setLane_halfTick (s : State) (l : LaneId) (x : Lane) : (s.setLane l x).halfTick = s.halfTick := rfl
@[simp] theorem State.setLane_encoders (s : State) (l : LaneId) (x : Lane) : (s.setLane l x).encoders = s.encoders := rfl
@[simp] theorem State.setLane_pacers (s : State) (l : LaneId) (x : Lane) : (s.setLane l x).pacers = s.pacers := rfl
@[simp] theorem State.setLane_lanes (s : State) (l : LaneId) (x : Lane) : (s.setLane l x).lanes = s.lanes.set l x := rfl
@[simp] theorem State.setLane_slots (s : State) (l : LaneId) (x : Lane) : (s.setLane l x).slots = s.slots := rfl
@[simp] theorem State.setLane_programs (s : State) (l : LaneId) (x : Lane) : (s.setLane l x).programs = s.programs := rfl
@[simp] theorem State.setLane_updateHold (s : State) (l : LaneId) (x : Lane) : (s.setLane l x).updateHold = s.updateHold := rfl
@[simp] theorem State.setLane_runs (s : State) (l : LaneId) (x : Lane) : (s.setLane l x).runs = s.runs := rfl
@[simp] theorem State.setLane_outputs (s : State) (l : LaneId) (x : Lane) : (s.setLane l x).outputs = s.outputs := rfl
@[simp] theorem State.setLane_cameras (s : State) (l : LaneId) (x : Lane) : (s.setLane l x).cameras = s.cameras := rfl
@[simp] theorem State.setLane_safes (s : State) (l : LaneId) (x : Lane) : (s.setLane l x).safes = s.safes := rfl
@[simp] theorem State.setLane_unlock (s : State) (l : LaneId) (x : Lane) : (s.setLane l x).unlock = s.unlock := rfl
@[simp] theorem State.setLane_outcomes (s : State) (l : LaneId) (x : Lane) : (s.setLane l x).outcomes = s.outcomes := rfl
@[simp] theorem State.setLane_alarms (s : State) (l : LaneId) (x : Lane) : (s.setLane l x).alarms = s.alarms := rfl
@[simp] theorem State.setLane_link (s : State) (l : LaneId) (x : Lane) : (s.setLane l x).link = s.link := rfl
@[simp] theorem State.setLane_arbiter (s : State) (l : LaneId) (x : Lane) : (s.setLane l x).arbiter = s.arbiter := rfl
@[simp] theorem State.setLane_pending (s : State) (l : LaneId) (x : Lane) : (s.setLane l x).pending = s.pending := rfl

/-! ## State.setSlot -/

@[simp] theorem State.setSlot_phase (s : State) (h : Handle) (x : Slot) : (s.setSlot h x).phase = s.phase := rfl
@[simp] theorem State.setSlot_startTimer (s : State) (h : Handle) (x : Slot) : (s.setSlot h x).startTimer = s.startTimer := rfl
@[simp] theorem State.setSlot_timestamp (s : State) (h : Handle) (x : Slot) : (s.setSlot h x).timestamp = s.timestamp := rfl
@[simp] theorem State.setSlot_halfTick (s : State) (h : Handle) (x : Slot) : (s.setSlot h x).halfTick = s.halfTick := rfl
@[simp] theorem State.setSlot_encoders (s : State) (h : Handle) (x : Slot) : (s.setSlot h x).encoders = s.encoders := rfl
@[simp] theorem State.setSlot_pacers (s : State) (h : Handle) (x : Slot) : (s.setSlot h x).pacers = s.pacers := rfl
@[simp] theorem State.setSlot_lanes (s : State) (h : Handle) (x : Slot) : (s.setSlot h x).lanes = s.lanes := rfl
@[simp] theorem State.setSlot_slots (s : State) (h : Handle) (x : Slot) : (s.setSlot h x).slots = s.slots.set h x := rfl
@[simp] theorem State.setSlot_programs (s : State) (h : Handle) (x : Slot) : (s.setSlot h x).programs = s.programs := rfl
@[simp] theorem State.setSlot_updateHold (s : State) (h : Handle) (x : Slot) : (s.setSlot h x).updateHold = s.updateHold := rfl
@[simp] theorem State.setSlot_runs (s : State) (h : Handle) (x : Slot) : (s.setSlot h x).runs = s.runs := rfl
@[simp] theorem State.setSlot_outputs (s : State) (h : Handle) (x : Slot) : (s.setSlot h x).outputs = s.outputs := rfl
@[simp] theorem State.setSlot_cameras (s : State) (h : Handle) (x : Slot) : (s.setSlot h x).cameras = s.cameras := rfl
@[simp] theorem State.setSlot_safes (s : State) (h : Handle) (x : Slot) : (s.setSlot h x).safes = s.safes := rfl
@[simp] theorem State.setSlot_unlock (s : State) (h : Handle) (x : Slot) : (s.setSlot h x).unlock = s.unlock := rfl
@[simp] theorem State.setSlot_outcomes (s : State) (h : Handle) (x : Slot) : (s.setSlot h x).outcomes = s.outcomes := rfl
@[simp] theorem State.setSlot_alarms (s : State) (h : Handle) (x : Slot) : (s.setSlot h x).alarms = s.alarms := rfl
@[simp] theorem State.setSlot_link (s : State) (h : Handle) (x : Slot) : (s.setSlot h x).link = s.link := rfl
@[simp] theorem State.setSlot_arbiter (s : State) (h : Handle) (x : Slot) : (s.setSlot h x).arbiter = s.arbiter := rfl
@[simp] theorem State.setSlot_pending (s : State) (h : Handle) (x : Slot) : (s.setSlot h x).pending = s.pending := rfl

/-! ## State.setProgram -/

@[simp] theorem State.setProgram_phase (s : State) (i : ProgramId) (x : Program) : (s.setProgram i x).phase = s.phase := rfl
@[simp] theorem State.setProgram_startTimer (s : State) (i : ProgramId) (x : Program) : (s.setProgram i x).startTimer = s.startTimer := rfl
@[simp] theorem State.setProgram_timestamp (s : State) (i : ProgramId) (x : Program) : (s.setProgram i x).timestamp = s.timestamp := rfl
@[simp] theorem State.setProgram_halfTick (s : State) (i : ProgramId) (x : Program) : (s.setProgram i x).halfTick = s.halfTick := rfl
@[simp] theorem State.setProgram_encoders (s : State) (i : ProgramId) (x : Program) : (s.setProgram i x).encoders = s.encoders := rfl
@[simp] theorem State.setProgram_pacers (s : State) (i : ProgramId) (x : Program) : (s.setProgram i x).pacers = s.pacers := rfl
@[simp] theorem State.setProgram_lanes (s : State) (i : ProgramId) (x : Program) : (s.setProgram i x).lanes = s.lanes := rfl
@[simp] theorem State.setProgram_slots (s : State) (i : ProgramId) (x : Program) : (s.setProgram i x).slots = s.slots := rfl
@[simp] theorem State.setProgram_programs (s : State) (i : ProgramId) (x : Program) : (s.setProgram i x).programs = s.programs.set i x := rfl
@[simp] theorem State.setProgram_updateHold (s : State) (i : ProgramId) (x : Program) : (s.setProgram i x).updateHold = s.updateHold := rfl
@[simp] theorem State.setProgram_runs (s : State) (i : ProgramId) (x : Program) : (s.setProgram i x).runs = s.runs := rfl
@[simp] theorem State.setProgram_outputs (s : State) (i : ProgramId) (x : Program) : (s.setProgram i x).outputs = s.outputs := rfl
@[simp] theorem State.setProgram_cameras (s : State) (i : ProgramId) (x : Program) : (s.setProgram i x).cameras = s.cameras := rfl
@[simp] theorem State.setProgram_safes (s : State) (i : ProgramId) (x : Program) : (s.setProgram i x).safes = s.safes := rfl
@[simp] theorem State.setProgram_unlock (s : State) (i : ProgramId) (x : Program) : (s.setProgram i x).unlock = s.unlock := rfl
@[simp] theorem State.setProgram_outcomes (s : State) (i : ProgramId) (x : Program) : (s.setProgram i x).outcomes = s.outcomes := rfl
@[simp] theorem State.setProgram_alarms (s : State) (i : ProgramId) (x : Program) : (s.setProgram i x).alarms = s.alarms := rfl
@[simp] theorem State.setProgram_link (s : State) (i : ProgramId) (x : Program) : (s.setProgram i x).link = s.link := rfl
@[simp] theorem State.setProgram_arbiter (s : State) (i : ProgramId) (x : Program) : (s.setProgram i x).arbiter = s.arbiter := rfl
@[simp] theorem State.setProgram_pending (s : State) (i : ProgramId) (x : Program) : (s.setProgram i x).pending = s.pending := rfl

/-! ## State.setRun -/

@[simp] theorem State.setRun_phase (s : State) (k : RunSlotId) (x : Option Run) : (s.setRun k x).phase = s.phase := rfl
@[simp] theorem State.setRun_startTimer (s : State) (k : RunSlotId) (x : Option Run) : (s.setRun k x).startTimer = s.startTimer := rfl
@[simp] theorem State.setRun_timestamp (s : State) (k : RunSlotId) (x : Option Run) : (s.setRun k x).timestamp = s.timestamp := rfl
@[simp] theorem State.setRun_halfTick (s : State) (k : RunSlotId) (x : Option Run) : (s.setRun k x).halfTick = s.halfTick := rfl
@[simp] theorem State.setRun_encoders (s : State) (k : RunSlotId) (x : Option Run) : (s.setRun k x).encoders = s.encoders := rfl
@[simp] theorem State.setRun_pacers (s : State) (k : RunSlotId) (x : Option Run) : (s.setRun k x).pacers = s.pacers := rfl
@[simp] theorem State.setRun_lanes (s : State) (k : RunSlotId) (x : Option Run) : (s.setRun k x).lanes = s.lanes := rfl
@[simp] theorem State.setRun_slots (s : State) (k : RunSlotId) (x : Option Run) : (s.setRun k x).slots = s.slots := rfl
@[simp] theorem State.setRun_programs (s : State) (k : RunSlotId) (x : Option Run) : (s.setRun k x).programs = s.programs := rfl
@[simp] theorem State.setRun_updateHold (s : State) (k : RunSlotId) (x : Option Run) : (s.setRun k x).updateHold = s.updateHold := rfl
@[simp] theorem State.setRun_runs (s : State) (k : RunSlotId) (x : Option Run) : (s.setRun k x).runs = s.runs.set k x := rfl
@[simp] theorem State.setRun_outputs (s : State) (k : RunSlotId) (x : Option Run) : (s.setRun k x).outputs = s.outputs := rfl
@[simp] theorem State.setRun_cameras (s : State) (k : RunSlotId) (x : Option Run) : (s.setRun k x).cameras = s.cameras := rfl
@[simp] theorem State.setRun_safes (s : State) (k : RunSlotId) (x : Option Run) : (s.setRun k x).safes = s.safes := rfl
@[simp] theorem State.setRun_unlock (s : State) (k : RunSlotId) (x : Option Run) : (s.setRun k x).unlock = s.unlock := rfl
@[simp] theorem State.setRun_outcomes (s : State) (k : RunSlotId) (x : Option Run) : (s.setRun k x).outcomes = s.outcomes := rfl
@[simp] theorem State.setRun_alarms (s : State) (k : RunSlotId) (x : Option Run) : (s.setRun k x).alarms = s.alarms := rfl
@[simp] theorem State.setRun_link (s : State) (k : RunSlotId) (x : Option Run) : (s.setRun k x).link = s.link := rfl
@[simp] theorem State.setRun_arbiter (s : State) (k : RunSlotId) (x : Option Run) : (s.setRun k x).arbiter = s.arbiter := rfl
@[simp] theorem State.setRun_pending (s : State) (k : RunSlotId) (x : Option Run) : (s.setRun k x).pending = s.pending := rfl

/-! ## State.setOutput -/

@[simp] theorem State.setOutput_phase (s : State) (o : OutputId) (x : Output) : (s.setOutput o x).phase = s.phase := rfl
@[simp] theorem State.setOutput_startTimer (s : State) (o : OutputId) (x : Output) : (s.setOutput o x).startTimer = s.startTimer := rfl
@[simp] theorem State.setOutput_timestamp (s : State) (o : OutputId) (x : Output) : (s.setOutput o x).timestamp = s.timestamp := rfl
@[simp] theorem State.setOutput_halfTick (s : State) (o : OutputId) (x : Output) : (s.setOutput o x).halfTick = s.halfTick := rfl
@[simp] theorem State.setOutput_encoders (s : State) (o : OutputId) (x : Output) : (s.setOutput o x).encoders = s.encoders := rfl
@[simp] theorem State.setOutput_pacers (s : State) (o : OutputId) (x : Output) : (s.setOutput o x).pacers = s.pacers := rfl
@[simp] theorem State.setOutput_lanes (s : State) (o : OutputId) (x : Output) : (s.setOutput o x).lanes = s.lanes := rfl
@[simp] theorem State.setOutput_slots (s : State) (o : OutputId) (x : Output) : (s.setOutput o x).slots = s.slots := rfl
@[simp] theorem State.setOutput_programs (s : State) (o : OutputId) (x : Output) : (s.setOutput o x).programs = s.programs := rfl
@[simp] theorem State.setOutput_updateHold (s : State) (o : OutputId) (x : Output) : (s.setOutput o x).updateHold = s.updateHold := rfl
@[simp] theorem State.setOutput_runs (s : State) (o : OutputId) (x : Output) : (s.setOutput o x).runs = s.runs := rfl
@[simp] theorem State.setOutput_outputs (s : State) (o : OutputId) (x : Output) : (s.setOutput o x).outputs = s.outputs.set o x := rfl
@[simp] theorem State.setOutput_cameras (s : State) (o : OutputId) (x : Output) : (s.setOutput o x).cameras = s.cameras := rfl
@[simp] theorem State.setOutput_safes (s : State) (o : OutputId) (x : Output) : (s.setOutput o x).safes = s.safes := rfl
@[simp] theorem State.setOutput_unlock (s : State) (o : OutputId) (x : Output) : (s.setOutput o x).unlock = s.unlock := rfl
@[simp] theorem State.setOutput_outcomes (s : State) (o : OutputId) (x : Output) : (s.setOutput o x).outcomes = s.outcomes := rfl
@[simp] theorem State.setOutput_alarms (s : State) (o : OutputId) (x : Output) : (s.setOutput o x).alarms = s.alarms := rfl
@[simp] theorem State.setOutput_link (s : State) (o : OutputId) (x : Output) : (s.setOutput o x).link = s.link := rfl
@[simp] theorem State.setOutput_arbiter (s : State) (o : OutputId) (x : Output) : (s.setOutput o x).arbiter = s.arbiter := rfl
@[simp] theorem State.setOutput_pending (s : State) (o : OutputId) (x : Output) : (s.setOutput o x).pending = s.pending := rfl

/-! ## State.setCamera -/

@[simp] theorem State.setCamera_phase (s : State) (c : CameraId) (x : Camera) : (s.setCamera c x).phase = s.phase := rfl
@[simp] theorem State.setCamera_startTimer (s : State) (c : CameraId) (x : Camera) : (s.setCamera c x).startTimer = s.startTimer := rfl
@[simp] theorem State.setCamera_timestamp (s : State) (c : CameraId) (x : Camera) : (s.setCamera c x).timestamp = s.timestamp := rfl
@[simp] theorem State.setCamera_halfTick (s : State) (c : CameraId) (x : Camera) : (s.setCamera c x).halfTick = s.halfTick := rfl
@[simp] theorem State.setCamera_encoders (s : State) (c : CameraId) (x : Camera) : (s.setCamera c x).encoders = s.encoders := rfl
@[simp] theorem State.setCamera_pacers (s : State) (c : CameraId) (x : Camera) : (s.setCamera c x).pacers = s.pacers := rfl
@[simp] theorem State.setCamera_lanes (s : State) (c : CameraId) (x : Camera) : (s.setCamera c x).lanes = s.lanes := rfl
@[simp] theorem State.setCamera_slots (s : State) (c : CameraId) (x : Camera) : (s.setCamera c x).slots = s.slots := rfl
@[simp] theorem State.setCamera_programs (s : State) (c : CameraId) (x : Camera) : (s.setCamera c x).programs = s.programs := rfl
@[simp] theorem State.setCamera_updateHold (s : State) (c : CameraId) (x : Camera) : (s.setCamera c x).updateHold = s.updateHold := rfl
@[simp] theorem State.setCamera_runs (s : State) (c : CameraId) (x : Camera) : (s.setCamera c x).runs = s.runs := rfl
@[simp] theorem State.setCamera_outputs (s : State) (c : CameraId) (x : Camera) : (s.setCamera c x).outputs = s.outputs := rfl
@[simp] theorem State.setCamera_cameras (s : State) (c : CameraId) (x : Camera) : (s.setCamera c x).cameras = s.cameras.set c x := rfl
@[simp] theorem State.setCamera_safes (s : State) (c : CameraId) (x : Camera) : (s.setCamera c x).safes = s.safes := rfl
@[simp] theorem State.setCamera_unlock (s : State) (c : CameraId) (x : Camera) : (s.setCamera c x).unlock = s.unlock := rfl
@[simp] theorem State.setCamera_outcomes (s : State) (c : CameraId) (x : Camera) : (s.setCamera c x).outcomes = s.outcomes := rfl
@[simp] theorem State.setCamera_alarms (s : State) (c : CameraId) (x : Camera) : (s.setCamera c x).alarms = s.alarms := rfl
@[simp] theorem State.setCamera_link (s : State) (c : CameraId) (x : Camera) : (s.setCamera c x).link = s.link := rfl
@[simp] theorem State.setCamera_arbiter (s : State) (c : CameraId) (x : Camera) : (s.setCamera c x).arbiter = s.arbiter := rfl
@[simp] theorem State.setCamera_pending (s : State) (c : CameraId) (x : Camera) : (s.setCamera c x).pending = s.pending := rfl

/-! ## State.setSafe -/

@[simp] theorem State.setSafe_phase (s : State) (n : SafeId) (x : SafeInput) : (s.setSafe n x).phase = s.phase := rfl
@[simp] theorem State.setSafe_startTimer (s : State) (n : SafeId) (x : SafeInput) : (s.setSafe n x).startTimer = s.startTimer := rfl
@[simp] theorem State.setSafe_timestamp (s : State) (n : SafeId) (x : SafeInput) : (s.setSafe n x).timestamp = s.timestamp := rfl
@[simp] theorem State.setSafe_halfTick (s : State) (n : SafeId) (x : SafeInput) : (s.setSafe n x).halfTick = s.halfTick := rfl
@[simp] theorem State.setSafe_encoders (s : State) (n : SafeId) (x : SafeInput) : (s.setSafe n x).encoders = s.encoders := rfl
@[simp] theorem State.setSafe_pacers (s : State) (n : SafeId) (x : SafeInput) : (s.setSafe n x).pacers = s.pacers := rfl
@[simp] theorem State.setSafe_lanes (s : State) (n : SafeId) (x : SafeInput) : (s.setSafe n x).lanes = s.lanes := rfl
@[simp] theorem State.setSafe_slots (s : State) (n : SafeId) (x : SafeInput) : (s.setSafe n x).slots = s.slots := rfl
@[simp] theorem State.setSafe_programs (s : State) (n : SafeId) (x : SafeInput) : (s.setSafe n x).programs = s.programs := rfl
@[simp] theorem State.setSafe_updateHold (s : State) (n : SafeId) (x : SafeInput) : (s.setSafe n x).updateHold = s.updateHold := rfl
@[simp] theorem State.setSafe_runs (s : State) (n : SafeId) (x : SafeInput) : (s.setSafe n x).runs = s.runs := rfl
@[simp] theorem State.setSafe_outputs (s : State) (n : SafeId) (x : SafeInput) : (s.setSafe n x).outputs = s.outputs := rfl
@[simp] theorem State.setSafe_cameras (s : State) (n : SafeId) (x : SafeInput) : (s.setSafe n x).cameras = s.cameras := rfl
@[simp] theorem State.setSafe_safes (s : State) (n : SafeId) (x : SafeInput) : (s.setSafe n x).safes = s.safes.set n x := rfl
@[simp] theorem State.setSafe_unlock (s : State) (n : SafeId) (x : SafeInput) : (s.setSafe n x).unlock = s.unlock := rfl
@[simp] theorem State.setSafe_outcomes (s : State) (n : SafeId) (x : SafeInput) : (s.setSafe n x).outcomes = s.outcomes := rfl
@[simp] theorem State.setSafe_alarms (s : State) (n : SafeId) (x : SafeInput) : (s.setSafe n x).alarms = s.alarms := rfl
@[simp] theorem State.setSafe_link (s : State) (n : SafeId) (x : SafeInput) : (s.setSafe n x).link = s.link := rfl
@[simp] theorem State.setSafe_arbiter (s : State) (n : SafeId) (x : SafeInput) : (s.setSafe n x).arbiter = s.arbiter := rfl
@[simp] theorem State.setSafe_pending (s : State) (n : SafeId) (x : SafeInput) : (s.setSafe n x).pending = s.pending := rfl

/-! ## State.setLink -/

@[simp] theorem State.setLink_phase (s : State) (x : Link) : (s.setLink x).phase = s.phase := rfl
@[simp] theorem State.setLink_startTimer (s : State) (x : Link) : (s.setLink x).startTimer = s.startTimer := rfl
@[simp] theorem State.setLink_timestamp (s : State) (x : Link) : (s.setLink x).timestamp = s.timestamp := rfl
@[simp] theorem State.setLink_halfTick (s : State) (x : Link) : (s.setLink x).halfTick = s.halfTick := rfl
@[simp] theorem State.setLink_encoders (s : State) (x : Link) : (s.setLink x).encoders = s.encoders := rfl
@[simp] theorem State.setLink_pacers (s : State) (x : Link) : (s.setLink x).pacers = s.pacers := rfl
@[simp] theorem State.setLink_lanes (s : State) (x : Link) : (s.setLink x).lanes = s.lanes := rfl
@[simp] theorem State.setLink_slots (s : State) (x : Link) : (s.setLink x).slots = s.slots := rfl
@[simp] theorem State.setLink_programs (s : State) (x : Link) : (s.setLink x).programs = s.programs := rfl
@[simp] theorem State.setLink_updateHold (s : State) (x : Link) : (s.setLink x).updateHold = s.updateHold := rfl
@[simp] theorem State.setLink_runs (s : State) (x : Link) : (s.setLink x).runs = s.runs := rfl
@[simp] theorem State.setLink_outputs (s : State) (x : Link) : (s.setLink x).outputs = s.outputs := rfl
@[simp] theorem State.setLink_cameras (s : State) (x : Link) : (s.setLink x).cameras = s.cameras := rfl
@[simp] theorem State.setLink_safes (s : State) (x : Link) : (s.setLink x).safes = s.safes := rfl
@[simp] theorem State.setLink_unlock (s : State) (x : Link) : (s.setLink x).unlock = s.unlock := rfl
@[simp] theorem State.setLink_outcomes (s : State) (x : Link) : (s.setLink x).outcomes = s.outcomes := rfl
@[simp] theorem State.setLink_alarms (s : State) (x : Link) : (s.setLink x).alarms = s.alarms := rfl
@[simp] theorem State.setLink_link (s : State) (x : Link) : (s.setLink x).link = x := rfl
@[simp] theorem State.setLink_arbiter (s : State) (x : Link) : (s.setLink x).arbiter = s.arbiter := rfl
@[simp] theorem State.setLink_pending (s : State) (x : Link) : (s.setLink x).pending = s.pending := rfl

/-! ## State.setAlarms -/

@[simp] theorem State.setAlarms_phase (s : State) (x : AlarmSet) : (s.setAlarms x).phase = s.phase := rfl
@[simp] theorem State.setAlarms_startTimer (s : State) (x : AlarmSet) : (s.setAlarms x).startTimer = s.startTimer := rfl
@[simp] theorem State.setAlarms_timestamp (s : State) (x : AlarmSet) : (s.setAlarms x).timestamp = s.timestamp := rfl
@[simp] theorem State.setAlarms_halfTick (s : State) (x : AlarmSet) : (s.setAlarms x).halfTick = s.halfTick := rfl
@[simp] theorem State.setAlarms_encoders (s : State) (x : AlarmSet) : (s.setAlarms x).encoders = s.encoders := rfl
@[simp] theorem State.setAlarms_pacers (s : State) (x : AlarmSet) : (s.setAlarms x).pacers = s.pacers := rfl
@[simp] theorem State.setAlarms_lanes (s : State) (x : AlarmSet) : (s.setAlarms x).lanes = s.lanes := rfl
@[simp] theorem State.setAlarms_slots (s : State) (x : AlarmSet) : (s.setAlarms x).slots = s.slots := rfl
@[simp] theorem State.setAlarms_programs (s : State) (x : AlarmSet) : (s.setAlarms x).programs = s.programs := rfl
@[simp] theorem State.setAlarms_updateHold (s : State) (x : AlarmSet) : (s.setAlarms x).updateHold = s.updateHold := rfl
@[simp] theorem State.setAlarms_runs (s : State) (x : AlarmSet) : (s.setAlarms x).runs = s.runs := rfl
@[simp] theorem State.setAlarms_outputs (s : State) (x : AlarmSet) : (s.setAlarms x).outputs = s.outputs := rfl
@[simp] theorem State.setAlarms_cameras (s : State) (x : AlarmSet) : (s.setAlarms x).cameras = s.cameras := rfl
@[simp] theorem State.setAlarms_safes (s : State) (x : AlarmSet) : (s.setAlarms x).safes = s.safes := rfl
@[simp] theorem State.setAlarms_unlock (s : State) (x : AlarmSet) : (s.setAlarms x).unlock = s.unlock := rfl
@[simp] theorem State.setAlarms_outcomes (s : State) (x : AlarmSet) : (s.setAlarms x).outcomes = s.outcomes := rfl
@[simp] theorem State.setAlarms_alarms (s : State) (x : AlarmSet) : (s.setAlarms x).alarms = x := rfl
@[simp] theorem State.setAlarms_link (s : State) (x : AlarmSet) : (s.setAlarms x).link = s.link := rfl
@[simp] theorem State.setAlarms_arbiter (s : State) (x : AlarmSet) : (s.setAlarms x).arbiter = s.arbiter := rfl
@[simp] theorem State.setAlarms_pending (s : State) (x : AlarmSet) : (s.setAlarms x).pending = s.pending := rfl

/-! ## State.setOutcomes -/

@[simp] theorem State.setOutcomes_phase (s : State) (x : List OutcomeRecord) : (s.setOutcomes x).phase = s.phase := rfl
@[simp] theorem State.setOutcomes_startTimer (s : State) (x : List OutcomeRecord) : (s.setOutcomes x).startTimer = s.startTimer := rfl
@[simp] theorem State.setOutcomes_timestamp (s : State) (x : List OutcomeRecord) : (s.setOutcomes x).timestamp = s.timestamp := rfl
@[simp] theorem State.setOutcomes_halfTick (s : State) (x : List OutcomeRecord) : (s.setOutcomes x).halfTick = s.halfTick := rfl
@[simp] theorem State.setOutcomes_encoders (s : State) (x : List OutcomeRecord) : (s.setOutcomes x).encoders = s.encoders := rfl
@[simp] theorem State.setOutcomes_pacers (s : State) (x : List OutcomeRecord) : (s.setOutcomes x).pacers = s.pacers := rfl
@[simp] theorem State.setOutcomes_lanes (s : State) (x : List OutcomeRecord) : (s.setOutcomes x).lanes = s.lanes := rfl
@[simp] theorem State.setOutcomes_slots (s : State) (x : List OutcomeRecord) : (s.setOutcomes x).slots = s.slots := rfl
@[simp] theorem State.setOutcomes_programs (s : State) (x : List OutcomeRecord) : (s.setOutcomes x).programs = s.programs := rfl
@[simp] theorem State.setOutcomes_updateHold (s : State) (x : List OutcomeRecord) : (s.setOutcomes x).updateHold = s.updateHold := rfl
@[simp] theorem State.setOutcomes_runs (s : State) (x : List OutcomeRecord) : (s.setOutcomes x).runs = s.runs := rfl
@[simp] theorem State.setOutcomes_outputs (s : State) (x : List OutcomeRecord) : (s.setOutcomes x).outputs = s.outputs := rfl
@[simp] theorem State.setOutcomes_cameras (s : State) (x : List OutcomeRecord) : (s.setOutcomes x).cameras = s.cameras := rfl
@[simp] theorem State.setOutcomes_safes (s : State) (x : List OutcomeRecord) : (s.setOutcomes x).safes = s.safes := rfl
@[simp] theorem State.setOutcomes_unlock (s : State) (x : List OutcomeRecord) : (s.setOutcomes x).unlock = s.unlock := rfl
@[simp] theorem State.setOutcomes_outcomes (s : State) (x : List OutcomeRecord) : (s.setOutcomes x).outcomes = x := rfl
@[simp] theorem State.setOutcomes_alarms (s : State) (x : List OutcomeRecord) : (s.setOutcomes x).alarms = s.alarms := rfl
@[simp] theorem State.setOutcomes_link (s : State) (x : List OutcomeRecord) : (s.setOutcomes x).link = s.link := rfl
@[simp] theorem State.setOutcomes_arbiter (s : State) (x : List OutcomeRecord) : (s.setOutcomes x).arbiter = s.arbiter := rfl
@[simp] theorem State.setOutcomes_pending (s : State) (x : List OutcomeRecord) : (s.setOutcomes x).pending = s.pending := rfl

/-! ## State.closeUnlock -/

@[simp] theorem State.closeUnlock_phase (s : State) : (s.closeUnlock).phase = s.phase := rfl
@[simp] theorem State.closeUnlock_startTimer (s : State) : (s.closeUnlock).startTimer = s.startTimer := rfl
@[simp] theorem State.closeUnlock_timestamp (s : State) : (s.closeUnlock).timestamp = s.timestamp := rfl
@[simp] theorem State.closeUnlock_halfTick (s : State) : (s.closeUnlock).halfTick = s.halfTick := rfl
@[simp] theorem State.closeUnlock_encoders (s : State) : (s.closeUnlock).encoders = s.encoders := rfl
@[simp] theorem State.closeUnlock_pacers (s : State) : (s.closeUnlock).pacers = s.pacers := rfl
@[simp] theorem State.closeUnlock_lanes (s : State) : (s.closeUnlock).lanes = s.lanes := rfl
@[simp] theorem State.closeUnlock_slots (s : State) : (s.closeUnlock).slots = s.slots := rfl
@[simp] theorem State.closeUnlock_programs (s : State) : (s.closeUnlock).programs = s.programs := rfl
@[simp] theorem State.closeUnlock_updateHold (s : State) : (s.closeUnlock).updateHold = s.updateHold := rfl
@[simp] theorem State.closeUnlock_runs (s : State) : (s.closeUnlock).runs = s.runs := rfl
@[simp] theorem State.closeUnlock_outputs (s : State) : (s.closeUnlock).outputs = s.outputs := rfl
@[simp] theorem State.closeUnlock_cameras (s : State) : (s.closeUnlock).cameras = s.cameras := rfl
@[simp] theorem State.closeUnlock_safes (s : State) : (s.closeUnlock).safes = s.safes := rfl
@[simp] theorem State.closeUnlock_unlock (s : State) : (s.closeUnlock).unlock = false := rfl
@[simp] theorem State.closeUnlock_outcomes (s : State) : (s.closeUnlock).outcomes = s.outcomes := rfl
@[simp] theorem State.closeUnlock_alarms (s : State) : (s.closeUnlock).alarms = s.alarms := rfl
@[simp] theorem State.closeUnlock_link (s : State) : (s.closeUnlock).link = s.link := rfl
@[simp] theorem State.closeUnlock_arbiter (s : State) : (s.closeUnlock).arbiter = s.arbiter := rfl
@[simp] theorem State.closeUnlock_pending (s : State) : (s.closeUnlock).pending = s.pending := rfl

/-! ## State.beginTx -/

@[simp] theorem State.beginTx_phase (s : State) : (s.beginTx).phase = s.phase := rfl
@[simp] theorem State.beginTx_startTimer (s : State) : (s.beginTx).startTimer = s.startTimer := rfl
@[simp] theorem State.beginTx_timestamp (s : State) : (s.beginTx).timestamp = s.timestamp := rfl
@[simp] theorem State.beginTx_halfTick (s : State) : (s.beginTx).halfTick = s.halfTick := rfl
@[simp] theorem State.beginTx_encoders (s : State) : (s.beginTx).encoders = s.encoders := rfl
@[simp] theorem State.beginTx_pacers (s : State) : (s.beginTx).pacers = s.pacers := rfl
@[simp] theorem State.beginTx_lanes (s : State) : (s.beginTx).lanes = s.lanes := rfl
@[simp] theorem State.beginTx_slots (s : State) : (s.beginTx).slots = s.slots := rfl
@[simp] theorem State.beginTx_programs (s : State) : (s.beginTx).programs = s.programs := rfl
@[simp] theorem State.beginTx_updateHold (s : State) : (s.beginTx).updateHold = s.updateHold := rfl
@[simp] theorem State.beginTx_runs (s : State) : (s.beginTx).runs = s.runs := rfl
@[simp] theorem State.beginTx_outputs (s : State) : (s.beginTx).outputs = s.outputs := rfl
@[simp] theorem State.beginTx_cameras (s : State) : (s.beginTx).cameras = s.cameras := rfl
@[simp] theorem State.beginTx_safes (s : State) : (s.beginTx).safes = s.safes := rfl
@[simp] theorem State.beginTx_unlock (s : State) : (s.beginTx).unlock = s.unlock := rfl
@[simp] theorem State.beginTx_outcomes (s : State) : (s.beginTx).outcomes = s.outcomes := rfl
@[simp] theorem State.beginTx_alarms (s : State) : (s.beginTx).alarms = s.alarms := rfl
@[simp] theorem State.beginTx_link (s : State) : (s.beginTx).link = s.link.begin := rfl
@[simp] theorem State.beginTx_arbiter (s : State) : (s.beginTx).arbiter = s.arbiter := rfl
@[simp] theorem State.beginTx_pending (s : State) : (s.beginTx).pending = s.pending := rfl

/-! ## State.queueReply -/

@[simp] theorem State.queueReply_phase (s : State) (k t : Byte) (p : List Byte) : (s.queueReply k t p).phase = s.phase := rfl
@[simp] theorem State.queueReply_startTimer (s : State) (k t : Byte) (p : List Byte) : (s.queueReply k t p).startTimer = s.startTimer := rfl
@[simp] theorem State.queueReply_timestamp (s : State) (k t : Byte) (p : List Byte) : (s.queueReply k t p).timestamp = s.timestamp := rfl
@[simp] theorem State.queueReply_halfTick (s : State) (k t : Byte) (p : List Byte) : (s.queueReply k t p).halfTick = s.halfTick := rfl
@[simp] theorem State.queueReply_encoders (s : State) (k t : Byte) (p : List Byte) : (s.queueReply k t p).encoders = s.encoders := rfl
@[simp] theorem State.queueReply_pacers (s : State) (k t : Byte) (p : List Byte) : (s.queueReply k t p).pacers = s.pacers := rfl
@[simp] theorem State.queueReply_lanes (s : State) (k t : Byte) (p : List Byte) : (s.queueReply k t p).lanes = s.lanes := rfl
@[simp] theorem State.queueReply_slots (s : State) (k t : Byte) (p : List Byte) : (s.queueReply k t p).slots = s.slots := rfl
@[simp] theorem State.queueReply_programs (s : State) (k t : Byte) (p : List Byte) : (s.queueReply k t p).programs = s.programs := rfl
@[simp] theorem State.queueReply_updateHold (s : State) (k t : Byte) (p : List Byte) : (s.queueReply k t p).updateHold = s.updateHold := rfl
@[simp] theorem State.queueReply_runs (s : State) (k t : Byte) (p : List Byte) : (s.queueReply k t p).runs = s.runs := rfl
@[simp] theorem State.queueReply_outputs (s : State) (k t : Byte) (p : List Byte) : (s.queueReply k t p).outputs = s.outputs := rfl
@[simp] theorem State.queueReply_cameras (s : State) (k t : Byte) (p : List Byte) : (s.queueReply k t p).cameras = s.cameras := rfl
@[simp] theorem State.queueReply_safes (s : State) (k t : Byte) (p : List Byte) : (s.queueReply k t p).safes = s.safes := rfl
@[simp] theorem State.queueReply_unlock (s : State) (k t : Byte) (p : List Byte) : (s.queueReply k t p).unlock = s.unlock := rfl
@[simp] theorem State.queueReply_outcomes (s : State) (k t : Byte) (p : List Byte) : (s.queueReply k t p).outcomes = s.outcomes := rfl
@[simp] theorem State.queueReply_alarms (s : State) (k t : Byte) (p : List Byte) : (s.queueReply k t p).alarms = s.alarms := rfl
@[simp] theorem State.queueReply_link (s : State) (k t : Byte) (p : List Byte) : (s.queueReply k t p).link = { s.link with replies := s.link.replies ++ [⟨replyKind k, t, p⟩] } := rfl
@[simp] theorem State.queueReply_arbiter (s : State) (k t : Byte) (p : List Byte) : (s.queueReply k t p).arbiter = s.arbiter := rfl
@[simp] theorem State.queueReply_pending (s : State) (k t : Byte) (p : List Byte) : (s.queueReply k t p).pending = s.pending := rfl

/-! ## State.rxGo -/

@[simp] theorem State.rxGo_phase (s : State) (x : RxState) : (s.rxGo x).phase = s.phase := rfl
@[simp] theorem State.rxGo_startTimer (s : State) (x : RxState) : (s.rxGo x).startTimer = s.startTimer := rfl
@[simp] theorem State.rxGo_timestamp (s : State) (x : RxState) : (s.rxGo x).timestamp = s.timestamp := rfl
@[simp] theorem State.rxGo_halfTick (s : State) (x : RxState) : (s.rxGo x).halfTick = s.halfTick := rfl
@[simp] theorem State.rxGo_encoders (s : State) (x : RxState) : (s.rxGo x).encoders = s.encoders := rfl
@[simp] theorem State.rxGo_pacers (s : State) (x : RxState) : (s.rxGo x).pacers = s.pacers := rfl
@[simp] theorem State.rxGo_lanes (s : State) (x : RxState) : (s.rxGo x).lanes = s.lanes := rfl
@[simp] theorem State.rxGo_slots (s : State) (x : RxState) : (s.rxGo x).slots = s.slots := rfl
@[simp] theorem State.rxGo_programs (s : State) (x : RxState) : (s.rxGo x).programs = s.programs := rfl
@[simp] theorem State.rxGo_updateHold (s : State) (x : RxState) : (s.rxGo x).updateHold = s.updateHold := rfl
@[simp] theorem State.rxGo_runs (s : State) (x : RxState) : (s.rxGo x).runs = s.runs := rfl
@[simp] theorem State.rxGo_outputs (s : State) (x : RxState) : (s.rxGo x).outputs = s.outputs := rfl
@[simp] theorem State.rxGo_cameras (s : State) (x : RxState) : (s.rxGo x).cameras = s.cameras := rfl
@[simp] theorem State.rxGo_safes (s : State) (x : RxState) : (s.rxGo x).safes = s.safes := rfl
@[simp] theorem State.rxGo_unlock (s : State) (x : RxState) : (s.rxGo x).unlock = s.unlock := rfl
@[simp] theorem State.rxGo_outcomes (s : State) (x : RxState) : (s.rxGo x).outcomes = s.outcomes := rfl
@[simp] theorem State.rxGo_alarms (s : State) (x : RxState) : (s.rxGo x).alarms = s.alarms := rfl
@[simp] theorem State.rxGo_link (s : State) (x : RxState) : (s.rxGo x).link = { s.link with rx := x, gapTimer := 0 } := rfl
@[simp] theorem State.rxGo_arbiter (s : State) (x : RxState) : (s.rxGo x).arbiter = s.arbiter := rfl
@[simp] theorem State.rxGo_pending (s : State) (x : RxState) : (s.rxGo x).pending = s.pending := rfl

end Sys2Proof.Machine
end

