-- ==== Sys2Proof/Laws/Ops.lean ====
section
/-! SUPPORT. What each shared operation leaves alone: one lemma for each field of State that the operation does not write. -/

set_option linter.unusedTactic false

namespace Sys2Proof.Machine

/-- What every step of a fold keeps, the fold keeps. -/
theorem foldl_keeps {α β : Type} (P : State → β) (g : State → α → State) (h : ∀ s x, P (g s x) = P s) (xs : List α)
    (s : State) : P (xs.foldl g s) = P s := by
  induction xs generalizing s with
  | nil => rfl
  | cons x xs ih => rw [List.foldl_cons, ih, h]

/-! ## queueReport -/

@[simp] theorem State.queueReport_phase (s : State) (r : Report) : (s.queueReport r).phase = s.phase := by unfold State.queueReport; split <;> rfl
@[simp] theorem State.queueReport_startTimer (s : State) (r : Report) : (s.queueReport r).startTimer = s.startTimer := by unfold State.queueReport; split <;> rfl
@[simp] theorem State.queueReport_timestamp (s : State) (r : Report) : (s.queueReport r).timestamp = s.timestamp := by unfold State.queueReport; split <;> rfl
@[simp] theorem State.queueReport_halfTick (s : State) (r : Report) : (s.queueReport r).halfTick = s.halfTick := by unfold State.queueReport; split <;> rfl
@[simp] theorem State.queueReport_encoders (s : State) (r : Report) : (s.queueReport r).encoders = s.encoders := by unfold State.queueReport; split <;> rfl
@[simp] theorem State.queueReport_pacers (s : State) (r : Report) : (s.queueReport r).pacers = s.pacers := by unfold State.queueReport; split <;> rfl
@[simp] theorem State.queueReport_lanes (s : State) (r : Report) : (s.queueReport r).lanes = s.lanes := by unfold State.queueReport; split <;> rfl
@[simp] theorem State.queueReport_slots (s : State) (r : Report) : (s.queueReport r).slots = s.slots := by unfold State.queueReport; split <;> rfl
@[simp] theorem State.queueReport_programs (s : State) (r : Report) : (s.queueReport r).programs = s.programs := by unfold State.queueReport; split <;> rfl
@[simp] theorem State.queueReport_updateHold (s : State) (r : Report) : (s.queueReport r).updateHold = s.updateHold := by unfold State.queueReport; split <;> rfl
@[simp] theorem State.queueReport_runs (s : State) (r : Report) : (s.queueReport r).runs = s.runs := by unfold State.queueReport; split <;> rfl
@[simp] theorem State.queueReport_outputs (s : State) (r : Report) : (s.queueReport r).outputs = s.outputs := by unfold State.queueReport; split <;> rfl
@[simp] theorem State.queueReport_cameras (s : State) (r : Report) : (s.queueReport r).cameras = s.cameras := by unfold State.queueReport; split <;> rfl
@[simp] theorem State.queueReport_safes (s : State) (r : Report) : (s.queueReport r).safes = s.safes := by unfold State.queueReport; split <;> rfl
@[simp] theorem State.queueReport_unlock (s : State) (r : Report) : (s.queueReport r).unlock = s.unlock := by unfold State.queueReport; split <;> rfl
@[simp] theorem State.queueReport_outcomes (s : State) (r : Report) : (s.queueReport r).outcomes = s.outcomes := by unfold State.queueReport; split <;> rfl
@[simp] theorem State.queueReport_alarms (s : State) (r : Report) : (s.queueReport r).alarms = s.alarms := by unfold State.queueReport; split <;> rfl
@[simp] theorem State.queueReport_arbiter (s : State) (r : Report) : (s.queueReport r).arbiter = s.arbiter := by unfold State.queueReport; split <;> rfl
@[simp] theorem State.queueReport_pending (s : State) (r : Report) : (s.queueReport r).pending = s.pending := by unfold State.queueReport; split <;> rfl

/-! ## latch -/

@[simp] theorem State.latch_phase (s : State) (a : Alarm) : (s.latch a).phase = s.phase := by unfold State.latch; (repeat' first | split | (dsimp only; split)) <;> simp
@[simp] theorem State.latch_startTimer (s : State) (a : Alarm) : (s.latch a).startTimer = s.startTimer := by unfold State.latch; (repeat' first | split | (dsimp only; split)) <;> simp
@[simp] theorem State.latch_timestamp (s : State) (a : Alarm) : (s.latch a).timestamp = s.timestamp := by unfold State.latch; (repeat' first | split | (dsimp only; split)) <;> simp
@[simp] theorem State.latch_halfTick (s : State) (a : Alarm) : (s.latch a).halfTick = s.halfTick := by unfold State.latch; (repeat' first | split | (dsimp only; split)) <;> simp
@[simp] theorem State.latch_encoders (s : State) (a : Alarm) : (s.latch a).encoders = s.encoders := by unfold State.latch; (repeat' first | split | (dsimp only; split)) <;> simp
@[simp] theorem State.latch_pacers (s : State) (a : Alarm) : (s.latch a).pacers = s.pacers := by unfold State.latch; (repeat' first | split | (dsimp only; split)) <;> simp
@[simp] theorem State.latch_lanes (s : State) (a : Alarm) : (s.latch a).lanes = s.lanes := by unfold State.latch; (repeat' first | split | (dsimp only; split)) <;> simp
@[simp] theorem State.latch_slots (s : State) (a : Alarm) : (s.latch a).slots = s.slots := by unfold State.latch; (repeat' first | split | (dsimp only; split)) <;> simp
@[simp] theorem State.latch_programs (s : State) (a : Alarm) : (s.latch a).programs = s.programs := by unfold State.latch; (repeat' first | split | (dsimp only; split)) <;> simp
@[simp] theorem State.latch_updateHold (s : State) (a : Alarm) : (s.latch a).updateHold = s.updateHold := by unfold State.latch; (repeat' first | split | (dsimp only; split)) <;> simp
@[simp] theorem State.latch_runs (s : State) (a : Alarm) : (s.latch a).runs = s.runs := by unfold State.latch; (repeat' first | split | (dsimp only; split)) <;> simp
@[simp] theorem State.latch_outputs (s : State) (a : Alarm) : (s.latch a).outputs = s.outputs := by unfold State.latch; (repeat' first | split | (dsimp only; split)) <;> simp
@[simp] theorem State.latch_cameras (s : State) (a : Alarm) : (s.latch a).cameras = s.cameras := by unfold State.latch; (repeat' first | split | (dsimp only; split)) <;> simp
@[simp] theorem State.latch_safes (s : State) (a : Alarm) : (s.latch a).safes = s.safes := by unfold State.latch; (repeat' first | split | (dsimp only; split)) <;> simp
@[simp] theorem State.latch_unlock (s : State) (a : Alarm) : (s.latch a).unlock = s.unlock := by unfold State.latch; (repeat' first | split | (dsimp only; split)) <;> simp
@[simp] theorem State.latch_outcomes (s : State) (a : Alarm) : (s.latch a).outcomes = s.outcomes := by unfold State.latch; (repeat' first | split | (dsimp only; split)) <;> simp
@[simp] theorem State.latch_arbiter (s : State) (a : Alarm) : (s.latch a).arbiter = s.arbiter := by unfold State.latch; (repeat' first | split | (dsimp only; split)) <;> simp
@[simp] theorem State.latch_pending (s : State) (a : Alarm) : (s.latch a).pending = s.pending := by unfold State.latch; (repeat' first | split | (dsimp only; split)) <;> simp

/-! ## appendOutcome -/

@[simp] theorem State.appendOutcome_phase (s : State) (r : OutcomeRecord) : (s.appendOutcome r).phase = s.phase := by unfold State.appendOutcome; (repeat' first | split | (dsimp only; split)) <;> simp
@[simp] theorem State.appendOutcome_startTimer (s : State) (r : OutcomeRecord) : (s.appendOutcome r).startTimer = s.startTimer := by unfold State.appendOutcome; (repeat' first | split | (dsimp only; split)) <;> simp
@[simp] theorem State.appendOutcome_timestamp (s : State) (r : OutcomeRecord) : (s.appendOutcome r).timestamp = s.timestamp := by unfold State.appendOutcome; (repeat' first | split | (dsimp only; split)) <;> simp
@[simp] theorem State.appendOutcome_halfTick (s : State) (r : OutcomeRecord) : (s.appendOutcome r).halfTick = s.halfTick := by unfold State.appendOutcome; (repeat' first | split | (dsimp only; split)) <;> simp
@[simp] theorem State.appendOutcome_encoders (s : State) (r : OutcomeRecord) : (s.appendOutcome r).encoders = s.encoders := by unfold State.appendOutcome; (repeat' first | split | (dsimp only; split)) <;> simp
@[simp] theorem State.appendOutcome_pacers (s : State) (r : OutcomeRecord) : (s.appendOutcome r).pacers = s.pacers := by unfold State.appendOutcome; (repeat' first | split | (dsimp only; split)) <;> simp
@[simp] theorem State.appendOutcome_lanes (s : State) (r : OutcomeRecord) : (s.appendOutcome r).lanes = s.lanes := by unfold State.appendOutcome; (repeat' first | split | (dsimp only; split)) <;> simp
@[simp] theorem State.appendOutcome_slots (s : State) (r : OutcomeRecord) : (s.appendOutcome r).slots = s.slots := by unfold State.appendOutcome; (repeat' first | split | (dsimp only; split)) <;> simp
@[simp] theorem State.appendOutcome_programs (s : State) (r : OutcomeRecord) : (s.appendOutcome r).programs = s.programs := by unfold State.appendOutcome; (repeat' first | split | (dsimp only; split)) <;> simp
@[simp] theorem State.appendOutcome_updateHold (s : State) (r : OutcomeRecord) : (s.appendOutcome r).updateHold = s.updateHold := by unfold State.appendOutcome; (repeat' first | split | (dsimp only; split)) <;> simp
@[simp] theorem State.appendOutcome_runs (s : State) (r : OutcomeRecord) : (s.appendOutcome r).runs = s.runs := by unfold State.appendOutcome; (repeat' first | split | (dsimp only; split)) <;> simp
@[simp] theorem State.appendOutcome_outputs (s : State) (r : OutcomeRecord) : (s.appendOutcome r).outputs = s.outputs := by unfold State.appendOutcome; (repeat' first | split | (dsimp only; split)) <;> simp
@[simp] theorem State.appendOutcome_cameras (s : State) (r : OutcomeRecord) : (s.appendOutcome r).cameras = s.cameras := by unfold State.appendOutcome; (repeat' first | split | (dsimp only; split)) <;> simp
@[simp] theorem State.appendOutcome_safes (s : State) (r : OutcomeRecord) : (s.appendOutcome r).safes = s.safes := by unfold State.appendOutcome; (repeat' first | split | (dsimp only; split)) <;> simp
@[simp] theorem State.appendOutcome_unlock (s : State) (r : OutcomeRecord) : (s.appendOutcome r).unlock = s.unlock := by unfold State.appendOutcome; (repeat' first | split | (dsimp only; split)) <;> simp
@[simp] theorem State.appendOutcome_arbiter (s : State) (r : OutcomeRecord) : (s.appendOutcome r).arbiter = s.arbiter := by unfold State.appendOutcome; (repeat' first | split | (dsimp only; split)) <;> simp
@[simp] theorem State.appendOutcome_pending (s : State) (r : OutcomeRecord) : (s.appendOutcome r).pending = s.pending := by unfold State.appendOutcome; (repeat' first | split | (dsimp only; split)) <;> simp

/-! ## endShot -/

@[simp] theorem State.endShot_phase (s : State) (h : Handle) (c : OutcomeCode) : (s.endShot h c).phase = s.phase := by unfold State.endShot; split <;> simp
@[simp] theorem State.endShot_startTimer (s : State) (h : Handle) (c : OutcomeCode) : (s.endShot h c).startTimer = s.startTimer := by unfold State.endShot; split <;> simp
@[simp] theorem State.endShot_timestamp (s : State) (h : Handle) (c : OutcomeCode) : (s.endShot h c).timestamp = s.timestamp := by unfold State.endShot; split <;> simp
@[simp] theorem State.endShot_halfTick (s : State) (h : Handle) (c : OutcomeCode) : (s.endShot h c).halfTick = s.halfTick := by unfold State.endShot; split <;> simp
@[simp] theorem State.endShot_encoders (s : State) (h : Handle) (c : OutcomeCode) : (s.endShot h c).encoders = s.encoders := by unfold State.endShot; split <;> simp
@[simp] theorem State.endShot_pacers (s : State) (h : Handle) (c : OutcomeCode) : (s.endShot h c).pacers = s.pacers := by unfold State.endShot; split <;> simp
@[simp] theorem State.endShot_lanes (s : State) (h : Handle) (c : OutcomeCode) : (s.endShot h c).lanes = s.lanes := by unfold State.endShot; split <;> simp
@[simp] theorem State.endShot_programs (s : State) (h : Handle) (c : OutcomeCode) : (s.endShot h c).programs = s.programs := by unfold State.endShot; split <;> simp
@[simp] theorem State.endShot_updateHold (s : State) (h : Handle) (c : OutcomeCode) : (s.endShot h c).updateHold = s.updateHold := by unfold State.endShot; split <;> simp
@[simp] theorem State.endShot_runs (s : State) (h : Handle) (c : OutcomeCode) : (s.endShot h c).runs = s.runs := by unfold State.endShot; split <;> simp
@[simp] theorem State.endShot_outputs (s : State) (h : Handle) (c : OutcomeCode) : (s.endShot h c).outputs = s.outputs := by unfold State.endShot; split <;> simp
@[simp] theorem State.endShot_cameras (s : State) (h : Handle) (c : OutcomeCode) : (s.endShot h c).cameras = s.cameras := by unfold State.endShot; split <;> simp
@[simp] theorem State.endShot_safes (s : State) (h : Handle) (c : OutcomeCode) : (s.endShot h c).safes = s.safes := by unfold State.endShot; split <;> simp
@[simp] theorem State.endShot_unlock (s : State) (h : Handle) (c : OutcomeCode) : (s.endShot h c).unlock = s.unlock := by unfold State.endShot; split <;> simp
@[simp] theorem State.endShot_arbiter (s : State) (h : Handle) (c : OutcomeCode) : (s.endShot h c).arbiter = s.arbiter := by unfold State.endShot; split <;> simp
@[simp] theorem State.endShot_pending (s : State) (h : Handle) (c : OutcomeCode) : (s.endShot h c).pending = s.pending := by unfold State.endShot; split <;> simp

/-! ## mapShot -/

@[simp] theorem State.mapShot_phase (s : State) (h : Handle) (f : Shot → Shot) : (s.mapShot h f).phase = s.phase := by simp [State.mapShot]
@[simp] theorem State.mapShot_startTimer (s : State) (h : Handle) (f : Shot → Shot) : (s.mapShot h f).startTimer = s.startTimer := by simp [State.mapShot]
@[simp] theorem State.mapShot_timestamp (s : State) (h : Handle) (f : Shot → Shot) : (s.mapShot h f).timestamp = s.timestamp := by simp [State.mapShot]
@[simp] theorem State.mapShot_halfTick (s : State) (h : Handle) (f : Shot → Shot) : (s.mapShot h f).halfTick = s.halfTick := by simp [State.mapShot]
@[simp] theorem State.mapShot_encoders (s : State) (h : Handle) (f : Shot → Shot) : (s.mapShot h f).encoders = s.encoders := by simp [State.mapShot]
@[simp] theorem State.mapShot_pacers (s : State) (h : Handle) (f : Shot → Shot) : (s.mapShot h f).pacers = s.pacers := by simp [State.mapShot]
@[simp] theorem State.mapShot_lanes (s : State) (h : Handle) (f : Shot → Shot) : (s.mapShot h f).lanes = s.lanes := by simp [State.mapShot]
@[simp] theorem State.mapShot_programs (s : State) (h : Handle) (f : Shot → Shot) : (s.mapShot h f).programs = s.programs := by simp [State.mapShot]
@[simp] theorem State.mapShot_updateHold (s : State) (h : Handle) (f : Shot → Shot) : (s.mapShot h f).updateHold = s.updateHold := by simp [State.mapShot]
@[simp] theorem State.mapShot_runs (s : State) (h : Handle) (f : Shot → Shot) : (s.mapShot h f).runs = s.runs := by simp [State.mapShot]
@[simp] theorem State.mapShot_outputs (s : State) (h : Handle) (f : Shot → Shot) : (s.mapShot h f).outputs = s.outputs := by simp [State.mapShot]
@[simp] theorem State.mapShot_cameras (s : State) (h : Handle) (f : Shot → Shot) : (s.mapShot h f).cameras = s.cameras := by simp [State.mapShot]
@[simp] theorem State.mapShot_safes (s : State) (h : Handle) (f : Shot → Shot) : (s.mapShot h f).safes = s.safes := by simp [State.mapShot]
@[simp] theorem State.mapShot_unlock (s : State) (h : Handle) (f : Shot → Shot) : (s.mapShot h f).unlock = s.unlock := by simp [State.mapShot]
@[simp] theorem State.mapShot_outcomes (s : State) (h : Handle) (f : Shot → Shot) : (s.mapShot h f).outcomes = s.outcomes := by simp [State.mapShot]
@[simp] theorem State.mapShot_alarms (s : State) (h : Handle) (f : Shot → Shot) : (s.mapShot h f).alarms = s.alarms := by simp [State.mapShot]
@[simp] theorem State.mapShot_link (s : State) (h : Handle) (f : Shot → Shot) : (s.mapShot h f).link = s.link := by simp [State.mapShot]
@[simp] theorem State.mapShot_arbiter (s : State) (h : Handle) (f : Shot → Shot) : (s.mapShot h f).arbiter = s.arbiter := by simp [State.mapShot]
@[simp] theorem State.mapShot_pending (s : State) (h : Handle) (f : Shot → Shot) : (s.mapShot h f).pending = s.pending := by simp [State.mapShot]

/-! ## incRef -/

@[simp] theorem State.incRef_phase (s : State) (i : ProgramId) : (s.incRef i).phase = s.phase := by simp [State.incRef]
@[simp] theorem State.incRef_startTimer (s : State) (i : ProgramId) : (s.incRef i).startTimer = s.startTimer := by simp [State.incRef]
@[simp] theorem State.incRef_timestamp (s : State) (i : ProgramId) : (s.incRef i).timestamp = s.timestamp := by simp [State.incRef]
@[simp] theorem State.incRef_halfTick (s : State) (i : ProgramId) : (s.incRef i).halfTick = s.halfTick := by simp [State.incRef]
@[simp] theorem State.incRef_encoders (s : State) (i : ProgramId) : (s.incRef i).encoders = s.encoders := by simp [State.incRef]
@[simp] theorem State.incRef_pacers (s : State) (i : ProgramId) : (s.incRef i).pacers = s.pacers := by simp [State.incRef]
@[simp] theorem State.incRef_lanes (s : State) (i : ProgramId) : (s.incRef i).lanes = s.lanes := by simp [State.incRef]
@[simp] theorem State.incRef_slots (s : State) (i : ProgramId) : (s.incRef i).slots = s.slots := by simp [State.incRef]
@[simp] theorem State.incRef_updateHold (s : State) (i : ProgramId) : (s.incRef i).updateHold = s.updateHold := by simp [State.incRef]
@[simp] theorem State.incRef_runs (s : State) (i : ProgramId) : (s.incRef i).runs = s.runs := by simp [State.incRef]
@[simp] theorem State.incRef_outputs (s : State) (i : ProgramId) : (s.incRef i).outputs = s.outputs := by simp [State.incRef]
@[simp] theorem State.incRef_cameras (s : State) (i : ProgramId) : (s.incRef i).cameras = s.cameras := by simp [State.incRef]
@[simp] theorem State.incRef_safes (s : State) (i : ProgramId) : (s.incRef i).safes = s.safes := by simp [State.incRef]
@[simp] theorem State.incRef_unlock (s : State) (i : ProgramId) : (s.incRef i).unlock = s.unlock := by simp [State.incRef]
@[simp] theorem State.incRef_outcomes (s : State) (i : ProgramId) : (s.incRef i).outcomes = s.outcomes := by simp [State.incRef]
@[simp] theorem State.incRef_alarms (s : State) (i : ProgramId) : (s.incRef i).alarms = s.alarms := by simp [State.incRef]
@[simp] theorem State.incRef_link (s : State) (i : ProgramId) : (s.incRef i).link = s.link := by simp [State.incRef]
@[simp] theorem State.incRef_arbiter (s : State) (i : ProgramId) : (s.incRef i).arbiter = s.arbiter := by simp [State.incRef]
@[simp] theorem State.incRef_pending (s : State) (i : ProgramId) : (s.incRef i).pending = s.pending := by simp [State.incRef]

/-! ## decRef -/

@[simp] theorem State.decRef_phase (s : State) (i : ProgramId) : (s.decRef i).phase = s.phase := by simp [State.decRef]
@[simp] theorem State.decRef_startTimer (s : State) (i : ProgramId) : (s.decRef i).startTimer = s.startTimer := by simp [State.decRef]
@[simp] theorem State.decRef_timestamp (s : State) (i : ProgramId) : (s.decRef i).timestamp = s.timestamp := by simp [State.decRef]
@[simp] theorem State.decRef_halfTick (s : State) (i : ProgramId) : (s.decRef i).halfTick = s.halfTick := by simp [State.decRef]
@[simp] theorem State.decRef_encoders (s : State) (i : ProgramId) : (s.decRef i).encoders = s.encoders := by simp [State.decRef]
@[simp] theorem State.decRef_pacers (s : State) (i : ProgramId) : (s.decRef i).pacers = s.pacers := by simp [State.decRef]
@[simp] theorem State.decRef_lanes (s : State) (i : ProgramId) : (s.decRef i).lanes = s.lanes := by simp [State.decRef]
@[simp] theorem State.decRef_slots (s : State) (i : ProgramId) : (s.decRef i).slots = s.slots := by simp [State.decRef]
@[simp] theorem State.decRef_updateHold (s : State) (i : ProgramId) : (s.decRef i).updateHold = s.updateHold := by simp [State.decRef]
@[simp] theorem State.decRef_runs (s : State) (i : ProgramId) : (s.decRef i).runs = s.runs := by simp [State.decRef]
@[simp] theorem State.decRef_outputs (s : State) (i : ProgramId) : (s.decRef i).outputs = s.outputs := by simp [State.decRef]
@[simp] theorem State.decRef_cameras (s : State) (i : ProgramId) : (s.decRef i).cameras = s.cameras := by simp [State.decRef]
@[simp] theorem State.decRef_safes (s : State) (i : ProgramId) : (s.decRef i).safes = s.safes := by simp [State.decRef]
@[simp] theorem State.decRef_unlock (s : State) (i : ProgramId) : (s.decRef i).unlock = s.unlock := by simp [State.decRef]
@[simp] theorem State.decRef_outcomes (s : State) (i : ProgramId) : (s.decRef i).outcomes = s.outcomes := by simp [State.decRef]
@[simp] theorem State.decRef_alarms (s : State) (i : ProgramId) : (s.decRef i).alarms = s.alarms := by simp [State.decRef]
@[simp] theorem State.decRef_link (s : State) (i : ProgramId) : (s.decRef i).link = s.link := by simp [State.decRef]
@[simp] theorem State.decRef_arbiter (s : State) (i : ProgramId) : (s.decRef i).arbiter = s.arbiter := by simp [State.decRef]
@[simp] theorem State.decRef_pending (s : State) (i : ProgramId) : (s.decRef i).pending = s.pending := by simp [State.decRef]

/-! ## dropRef -/

@[simp] theorem State.dropRef_phase (s : State) (h : Handle) : (s.dropRef h).phase = s.phase := by unfold State.dropRef; split <;> simp
@[simp] theorem State.dropRef_startTimer (s : State) (h : Handle) : (s.dropRef h).startTimer = s.startTimer := by unfold State.dropRef; split <;> simp
@[simp] theorem State.dropRef_timestamp (s : State) (h : Handle) : (s.dropRef h).timestamp = s.timestamp := by unfold State.dropRef; split <;> simp
@[simp] theorem State.dropRef_halfTick (s : State) (h : Handle) : (s.dropRef h).halfTick = s.halfTick := by unfold State.dropRef; split <;> simp
@[simp] theorem State.dropRef_encoders (s : State) (h : Handle) : (s.dropRef h).encoders = s.encoders := by unfold State.dropRef; split <;> simp
@[simp] theorem State.dropRef_pacers (s : State) (h : Handle) : (s.dropRef h).pacers = s.pacers := by unfold State.dropRef; split <;> simp
@[simp] theorem State.dropRef_lanes (s : State) (h : Handle) : (s.dropRef h).lanes = s.lanes := by unfold State.dropRef; split <;> simp
@[simp] theorem State.dropRef_slots (s : State) (h : Handle) : (s.dropRef h).slots = s.slots := by unfold State.dropRef; split <;> simp
@[simp] theorem State.dropRef_updateHold (s : State) (h : Handle) : (s.dropRef h).updateHold = s.updateHold := by unfold State.dropRef; split <;> simp
@[simp] theorem State.dropRef_runs (s : State) (h : Handle) : (s.dropRef h).runs = s.runs := by unfold State.dropRef; split <;> simp
@[simp] theorem State.dropRef_outputs (s : State) (h : Handle) : (s.dropRef h).outputs = s.outputs := by unfold State.dropRef; split <;> simp
@[simp] theorem State.dropRef_cameras (s : State) (h : Handle) : (s.dropRef h).cameras = s.cameras := by unfold State.dropRef; split <;> simp
@[simp] theorem State.dropRef_safes (s : State) (h : Handle) : (s.dropRef h).safes = s.safes := by unfold State.dropRef; split <;> simp
@[simp] theorem State.dropRef_unlock (s : State) (h : Handle) : (s.dropRef h).unlock = s.unlock := by unfold State.dropRef; split <;> simp
@[simp] theorem State.dropRef_outcomes (s : State) (h : Handle) : (s.dropRef h).outcomes = s.outcomes := by unfold State.dropRef; split <;> simp
@[simp] theorem State.dropRef_alarms (s : State) (h : Handle) : (s.dropRef h).alarms = s.alarms := by unfold State.dropRef; split <;> simp
@[simp] theorem State.dropRef_link (s : State) (h : Handle) : (s.dropRef h).link = s.link := by unfold State.dropRef; split <;> simp
@[simp] theorem State.dropRef_arbiter (s : State) (h : Handle) : (s.dropRef h).arbiter = s.arbiter := by unfold State.dropRef; split <;> simp
@[simp] theorem State.dropRef_pending (s : State) (h : Handle) : (s.dropRef h).pending = s.pending := by unfold State.dropRef; split <;> simp

/-! ## moveRef -/

@[simp] theorem State.moveRef_phase (s : State) (i j : ProgramId) : (s.moveRef i j).phase = s.phase := by unfold State.moveRef; split <;> simp
@[simp] theorem State.moveRef_startTimer (s : State) (i j : ProgramId) : (s.moveRef i j).startTimer = s.startTimer := by unfold State.moveRef; split <;> simp
@[simp] theorem State.moveRef_timestamp (s : State) (i j : ProgramId) : (s.moveRef i j).timestamp = s.timestamp := by unfold State.moveRef; split <;> simp
@[simp] theorem State.moveRef_halfTick (s : State) (i j : ProgramId) : (s.moveRef i j).halfTick = s.halfTick := by unfold State.moveRef; split <;> simp
@[simp] theorem State.moveRef_encoders (s : State) (i j : ProgramId) : (s.moveRef i j).encoders = s.encoders := by unfold State.moveRef; split <;> simp
@[simp] theorem State.moveRef_pacers (s : State) (i j : ProgramId) : (s.moveRef i j).pacers = s.pacers := by unfold State.moveRef; split <;> simp
@[simp] theorem State.moveRef_lanes (s : State) (i j : ProgramId) : (s.moveRef i j).lanes = s.lanes := by unfold State.moveRef; split <;> simp
@[simp] theorem State.moveRef_slots (s : State) (i j : ProgramId) : (s.moveRef i j).slots = s.slots := by unfold State.moveRef; split <;> simp
@[simp] theorem State.moveRef_updateHold (s : State) (i j : ProgramId) : (s.moveRef i j).updateHold = s.updateHold := by unfold State.moveRef; split <;> simp
@[simp] theorem State.moveRef_runs (s : State) (i j : ProgramId) : (s.moveRef i j).runs = s.runs := by unfold State.moveRef; split <;> simp
@[simp] theorem State.moveRef_outputs (s : State) (i j : ProgramId) : (s.moveRef i j).outputs = s.outputs := by unfold State.moveRef; split <;> simp
@[simp] theorem State.moveRef_cameras (s : State) (i j : ProgramId) : (s.moveRef i j).cameras = s.cameras := by unfold State.moveRef; split <;> simp
@[simp] theorem State.moveRef_safes (s : State) (i j : ProgramId) : (s.moveRef i j).safes = s.safes := by unfold State.moveRef; split <;> simp
@[simp] theorem State.moveRef_unlock (s : State) (i j : ProgramId) : (s.moveRef i j).unlock = s.unlock := by unfold State.moveRef; split <;> simp
@[simp] theorem State.moveRef_outcomes (s : State) (i j : ProgramId) : (s.moveRef i j).outcomes = s.outcomes := by unfold State.moveRef; split <;> simp
@[simp] theorem State.moveRef_alarms (s : State) (i j : ProgramId) : (s.moveRef i j).alarms = s.alarms := by unfold State.moveRef; split <;> simp
@[simp] theorem State.moveRef_link (s : State) (i j : ProgramId) : (s.moveRef i j).link = s.link := by unfold State.moveRef; split <;> simp
@[simp] theorem State.moveRef_arbiter (s : State) (i j : ProgramId) : (s.moveRef i j).arbiter = s.arbiter := by unfold State.moveRef; split <;> simp
@[simp] theorem State.moveRef_pending (s : State) (i j : ProgramId) : (s.moveRef i j).pending = s.pending := by unfold State.moveRef; split <;> simp

/-! ## haltLane -/

@[simp] theorem State.haltLane_phase (s : State) (l : LaneId) : (s.haltLane l).phase = s.phase := by unfold State.haltLane; split <;> simp
@[simp] theorem State.haltLane_startTimer (s : State) (l : LaneId) : (s.haltLane l).startTimer = s.startTimer := by unfold State.haltLane; split <;> simp
@[simp] theorem State.haltLane_timestamp (s : State) (l : LaneId) : (s.haltLane l).timestamp = s.timestamp := by unfold State.haltLane; split <;> simp
@[simp] theorem State.haltLane_halfTick (s : State) (l : LaneId) : (s.haltLane l).halfTick = s.halfTick := by unfold State.haltLane; split <;> simp
@[simp] theorem State.haltLane_encoders (s : State) (l : LaneId) : (s.haltLane l).encoders = s.encoders := by unfold State.haltLane; split <;> simp
@[simp] theorem State.haltLane_pacers (s : State) (l : LaneId) : (s.haltLane l).pacers = s.pacers := by unfold State.haltLane; split <;> simp
@[simp] theorem State.haltLane_slots (s : State) (l : LaneId) : (s.haltLane l).slots = s.slots := by unfold State.haltLane; split <;> simp
@[simp] theorem State.haltLane_programs (s : State) (l : LaneId) : (s.haltLane l).programs = s.programs := by unfold State.haltLane; split <;> simp
@[simp] theorem State.haltLane_updateHold (s : State) (l : LaneId) : (s.haltLane l).updateHold = s.updateHold := by unfold State.haltLane; split <;> simp
@[simp] theorem State.haltLane_runs (s : State) (l : LaneId) : (s.haltLane l).runs = s.runs := by unfold State.haltLane; split <;> simp
@[simp] theorem State.haltLane_outputs (s : State) (l : LaneId) : (s.haltLane l).outputs = s.outputs := by unfold State.haltLane; split <;> simp
@[simp] theorem State.haltLane_cameras (s : State) (l : LaneId) : (s.haltLane l).cameras = s.cameras := by unfold State.haltLane; split <;> simp
@[simp] theorem State.haltLane_safes (s : State) (l : LaneId) : (s.haltLane l).safes = s.safes := by unfold State.haltLane; split <;> simp
@[simp] theorem State.haltLane_unlock (s : State) (l : LaneId) : (s.haltLane l).unlock = s.unlock := by unfold State.haltLane; split <;> simp
@[simp] theorem State.haltLane_outcomes (s : State) (l : LaneId) : (s.haltLane l).outcomes = s.outcomes := by unfold State.haltLane; split <;> simp
@[simp] theorem State.haltLane_alarms (s : State) (l : LaneId) : (s.haltLane l).alarms = s.alarms := by unfold State.haltLane; split <;> simp
@[simp] theorem State.haltLane_link (s : State) (l : LaneId) : (s.haltLane l).link = s.link := by unfold State.haltLane; split <;> simp
@[simp] theorem State.haltLane_arbiter (s : State) (l : LaneId) : (s.haltLane l).arbiter = s.arbiter := by unfold State.haltLane; split <;> simp
@[simp] theorem State.haltLane_pending (s : State) (l : LaneId) : (s.haltLane l).pending = s.pending := by unfold State.haltLane; split <;> simp

/-! ## haltLanes -/

@[simp] theorem State.haltLanes_phase (s : State) (b : BitVec 4) : (s.haltLanes b).phase = s.phase := foldl_keeps (·.phase) State.haltLane (fun t x => by simp) _ s
@[simp] theorem State.haltLanes_startTimer (s : State) (b : BitVec 4) : (s.haltLanes b).startTimer = s.startTimer := foldl_keeps (·.startTimer) State.haltLane (fun t x => by simp) _ s
@[simp] theorem State.haltLanes_timestamp (s : State) (b : BitVec 4) : (s.haltLanes b).timestamp = s.timestamp := foldl_keeps (·.timestamp) State.haltLane (fun t x => by simp) _ s
@[simp] theorem State.haltLanes_halfTick (s : State) (b : BitVec 4) : (s.haltLanes b).halfTick = s.halfTick := foldl_keeps (·.halfTick) State.haltLane (fun t x => by simp) _ s
@[simp] theorem State.haltLanes_encoders (s : State) (b : BitVec 4) : (s.haltLanes b).encoders = s.encoders := foldl_keeps (·.encoders) State.haltLane (fun t x => by simp) _ s
@[simp] theorem State.haltLanes_pacers (s : State) (b : BitVec 4) : (s.haltLanes b).pacers = s.pacers := foldl_keeps (·.pacers) State.haltLane (fun t x => by simp) _ s
@[simp] theorem State.haltLanes_slots (s : State) (b : BitVec 4) : (s.haltLanes b).slots = s.slots := foldl_keeps (·.slots) State.haltLane (fun t x => by simp) _ s
@[simp] theorem State.haltLanes_programs (s : State) (b : BitVec 4) : (s.haltLanes b).programs = s.programs := foldl_keeps (·.programs) State.haltLane (fun t x => by simp) _ s
@[simp] theorem State.haltLanes_updateHold (s : State) (b : BitVec 4) : (s.haltLanes b).updateHold = s.updateHold := foldl_keeps (·.updateHold) State.haltLane (fun t x => by simp) _ s
@[simp] theorem State.haltLanes_runs (s : State) (b : BitVec 4) : (s.haltLanes b).runs = s.runs := foldl_keeps (·.runs) State.haltLane (fun t x => by simp) _ s
@[simp] theorem State.haltLanes_outputs (s : State) (b : BitVec 4) : (s.haltLanes b).outputs = s.outputs := foldl_keeps (·.outputs) State.haltLane (fun t x => by simp) _ s
@[simp] theorem State.haltLanes_cameras (s : State) (b : BitVec 4) : (s.haltLanes b).cameras = s.cameras := foldl_keeps (·.cameras) State.haltLane (fun t x => by simp) _ s
@[simp] theorem State.haltLanes_safes (s : State) (b : BitVec 4) : (s.haltLanes b).safes = s.safes := foldl_keeps (·.safes) State.haltLane (fun t x => by simp) _ s
@[simp] theorem State.haltLanes_unlock (s : State) (b : BitVec 4) : (s.haltLanes b).unlock = s.unlock := foldl_keeps (·.unlock) State.haltLane (fun t x => by simp) _ s
@[simp] theorem State.haltLanes_outcomes (s : State) (b : BitVec 4) : (s.haltLanes b).outcomes = s.outcomes := foldl_keeps (·.outcomes) State.haltLane (fun t x => by simp) _ s
@[simp] theorem State.haltLanes_alarms (s : State) (b : BitVec 4) : (s.haltLanes b).alarms = s.alarms := foldl_keeps (·.alarms) State.haltLane (fun t x => by simp) _ s
@[simp] theorem State.haltLanes_link (s : State) (b : BitVec 4) : (s.haltLanes b).link = s.link := foldl_keeps (·.link) State.haltLane (fun t x => by simp) _ s
@[simp] theorem State.haltLanes_arbiter (s : State) (b : BitVec 4) : (s.haltLanes b).arbiter = s.arbiter := foldl_keeps (·.arbiter) State.haltLane (fun t x => by simp) _ s
@[simp] theorem State.haltLanes_pending (s : State) (b : BitVec 4) : (s.haltLanes b).pending = s.pending := foldl_keeps (·.pending) State.haltLane (fun t x => by simp) _ s

/-! ## joinReceiveBuffer -/

@[simp] theorem State.joinReceiveBuffer_phase (s : State) (f : Frame) : (s.joinReceiveBuffer f).phase = s.phase := by unfold State.joinReceiveBuffer; split <;> simp
@[simp] theorem State.joinReceiveBuffer_startTimer (s : State) (f : Frame) : (s.joinReceiveBuffer f).startTimer = s.startTimer := by unfold State.joinReceiveBuffer; split <;> simp
@[simp] theorem State.joinReceiveBuffer_timestamp (s : State) (f : Frame) : (s.joinReceiveBuffer f).timestamp = s.timestamp := by unfold State.joinReceiveBuffer; split <;> simp
@[simp] theorem State.joinReceiveBuffer_halfTick (s : State) (f : Frame) : (s.joinReceiveBuffer f).halfTick = s.halfTick := by unfold State.joinReceiveBuffer; split <;> simp
@[simp] theorem State.joinReceiveBuffer_encoders (s : State) (f : Frame) : (s.joinReceiveBuffer f).encoders = s.encoders := by unfold State.joinReceiveBuffer; split <;> simp
@[simp] theorem State.joinReceiveBuffer_pacers (s : State) (f : Frame) : (s.joinReceiveBuffer f).pacers = s.pacers := by unfold State.joinReceiveBuffer; split <;> simp
@[simp] theorem State.joinReceiveBuffer_lanes (s : State) (f : Frame) : (s.joinReceiveBuffer f).lanes = s.lanes := by unfold State.joinReceiveBuffer; split <;> simp
@[simp] theorem State.joinReceiveBuffer_slots (s : State) (f : Frame) : (s.joinReceiveBuffer f).slots = s.slots := by unfold State.joinReceiveBuffer; split <;> simp
@[simp] theorem State.joinReceiveBuffer_programs (s : State) (f : Frame) : (s.joinReceiveBuffer f).programs = s.programs := by unfold State.joinReceiveBuffer; split <;> simp
@[simp] theorem State.joinReceiveBuffer_updateHold (s : State) (f : Frame) : (s.joinReceiveBuffer f).updateHold = s.updateHold := by unfold State.joinReceiveBuffer; split <;> simp
@[simp] theorem State.joinReceiveBuffer_runs (s : State) (f : Frame) : (s.joinReceiveBuffer f).runs = s.runs := by unfold State.joinReceiveBuffer; split <;> simp
@[simp] theorem State.joinReceiveBuffer_outputs (s : State) (f : Frame) : (s.joinReceiveBuffer f).outputs = s.outputs := by unfold State.joinReceiveBuffer; split <;> simp
@[simp] theorem State.joinReceiveBuffer_cameras (s : State) (f : Frame) : (s.joinReceiveBuffer f).cameras = s.cameras := by unfold State.joinReceiveBuffer; split <;> simp
@[simp] theorem State.joinReceiveBuffer_safes (s : State) (f : Frame) : (s.joinReceiveBuffer f).safes = s.safes := by unfold State.joinReceiveBuffer; split <;> simp
@[simp] theorem State.joinReceiveBuffer_unlock (s : State) (f : Frame) : (s.joinReceiveBuffer f).unlock = s.unlock := by unfold State.joinReceiveBuffer; split <;> simp
@[simp] theorem State.joinReceiveBuffer_outcomes (s : State) (f : Frame) : (s.joinReceiveBuffer f).outcomes = s.outcomes := by unfold State.joinReceiveBuffer; split <;> simp
@[simp] theorem State.joinReceiveBuffer_arbiter (s : State) (f : Frame) : (s.joinReceiveBuffer f).arbiter = s.arbiter := by unfold State.joinReceiveBuffer; split <;> simp
@[simp] theorem State.joinReceiveBuffer_pending (s : State) (f : Frame) : (s.joinReceiveBuffer f).pending = s.pending := by unfold State.joinReceiveBuffer; split <;> simp

/-! ## markCollision -/

@[simp] theorem State.markCollision_phase (s : State) (k : RunSlotId) (js : List RunSlotId) : (s.markCollision k js).phase = s.phase := by unfold State.markCollision; rw [State.latch_phase]; exact foldl_keeps (·.phase) _ (fun t j => by split <;> simp) _ s
@[simp] theorem State.markCollision_startTimer (s : State) (k : RunSlotId) (js : List RunSlotId) : (s.markCollision k js).startTimer = s.startTimer := by unfold State.markCollision; rw [State.latch_startTimer]; exact foldl_keeps (·.startTimer) _ (fun t j => by split <;> simp) _ s
@[simp] theorem State.markCollision_timestamp (s : State) (k : RunSlotId) (js : List RunSlotId) : (s.markCollision k js).timestamp = s.timestamp := by unfold State.markCollision; rw [State.latch_timestamp]; exact foldl_keeps (·.timestamp) _ (fun t j => by split <;> simp) _ s
@[simp] theorem State.markCollision_halfTick (s : State) (k : RunSlotId) (js : List RunSlotId) : (s.markCollision k js).halfTick = s.halfTick := by unfold State.markCollision; rw [State.latch_halfTick]; exact foldl_keeps (·.halfTick) _ (fun t j => by split <;> simp) _ s
@[simp] theorem State.markCollision_encoders (s : State) (k : RunSlotId) (js : List RunSlotId) : (s.markCollision k js).encoders = s.encoders := by unfold State.markCollision; rw [State.latch_encoders]; exact foldl_keeps (·.encoders) _ (fun t j => by split <;> simp) _ s
@[simp] theorem State.markCollision_pacers (s : State) (k : RunSlotId) (js : List RunSlotId) : (s.markCollision k js).pacers = s.pacers := by unfold State.markCollision; rw [State.latch_pacers]; exact foldl_keeps (·.pacers) _ (fun t j => by split <;> simp) _ s
@[simp] theorem State.markCollision_lanes (s : State) (k : RunSlotId) (js : List RunSlotId) : (s.markCollision k js).lanes = s.lanes := by unfold State.markCollision; rw [State.latch_lanes]; exact foldl_keeps (·.lanes) _ (fun t j => by split <;> simp) _ s
@[simp] theorem State.markCollision_programs (s : State) (k : RunSlotId) (js : List RunSlotId) : (s.markCollision k js).programs = s.programs := by unfold State.markCollision; rw [State.latch_programs]; exact foldl_keeps (·.programs) _ (fun t j => by split <;> simp) _ s
@[simp] theorem State.markCollision_updateHold (s : State) (k : RunSlotId) (js : List RunSlotId) : (s.markCollision k js).updateHold = s.updateHold := by unfold State.markCollision; rw [State.latch_updateHold]; exact foldl_keeps (·.updateHold) _ (fun t j => by split <;> simp) _ s
@[simp] theorem State.markCollision_runs (s : State) (k : RunSlotId) (js : List RunSlotId) : (s.markCollision k js).runs = s.runs := by unfold State.markCollision; rw [State.latch_runs]; exact foldl_keeps (·.runs) _ (fun t j => by split <;> simp) _ s
@[simp] theorem State.markCollision_outputs (s : State) (k : RunSlotId) (js : List RunSlotId) : (s.markCollision k js).outputs = s.outputs := by unfold State.markCollision; rw [State.latch_outputs]; exact foldl_keeps (·.outputs) _ (fun t j => by split <;> simp) _ s
@[simp] theorem State.markCollision_cameras (s : State) (k : RunSlotId) (js : List RunSlotId) : (s.markCollision k js).cameras = s.cameras := by unfold State.markCollision; rw [State.latch_cameras]; exact foldl_keeps (·.cameras) _ (fun t j => by split <;> simp) _ s
@[simp] theorem State.markCollision_safes (s : State) (k : RunSlotId) (js : List RunSlotId) : (s.markCollision k js).safes = s.safes := by unfold State.markCollision; rw [State.latch_safes]; exact foldl_keeps (·.safes) _ (fun t j => by split <;> simp) _ s
@[simp] theorem State.markCollision_unlock (s : State) (k : RunSlotId) (js : List RunSlotId) : (s.markCollision k js).unlock = s.unlock := by unfold State.markCollision; rw [State.latch_unlock]; exact foldl_keeps (·.unlock) _ (fun t j => by split <;> simp) _ s
@[simp] theorem State.markCollision_outcomes (s : State) (k : RunSlotId) (js : List RunSlotId) : (s.markCollision k js).outcomes = s.outcomes := by unfold State.markCollision; rw [State.latch_outcomes]; exact foldl_keeps (·.outcomes) _ (fun t j => by split <;> simp) _ s
@[simp] theorem State.markCollision_arbiter (s : State) (k : RunSlotId) (js : List RunSlotId) : (s.markCollision k js).arbiter = s.arbiter := by unfold State.markCollision; rw [State.latch_arbiter]; exact foldl_keeps (·.arbiter) _ (fun t j => by split <;> simp) _ s
@[simp] theorem State.markCollision_pending (s : State) (k : RunSlotId) (js : List RunSlotId) : (s.markCollision k js).pending = s.pending := by unfold State.markCollision; rw [State.latch_pending]; exact foldl_keeps (·.pending) _ (fun t j => by split <;> simp) _ s

/-! ## handTrigger -/

@[simp] theorem State.handTrigger_phase (s : State) (k : RunSlotId) (r : Run) (c : CameraId) : (s.handTrigger k r c).phase = s.phase := by unfold State.handTrigger; (repeat' first | split | (dsimp only; split)) <;> simp
@[simp] theorem State.handTrigger_startTimer (s : State) (k : RunSlotId) (r : Run) (c : CameraId) : (s.handTrigger k r c).startTimer = s.startTimer := by unfold State.handTrigger; (repeat' first | split | (dsimp only; split)) <;> simp
@[simp] theorem State.handTrigger_timestamp (s : State) (k : RunSlotId) (r : Run) (c : CameraId) : (s.handTrigger k r c).timestamp = s.timestamp := by unfold State.handTrigger; (repeat' first | split | (dsimp only; split)) <;> simp
@[simp] theorem State.handTrigger_halfTick (s : State) (k : RunSlotId) (r : Run) (c : CameraId) : (s.handTrigger k r c).halfTick = s.halfTick := by unfold State.handTrigger; (repeat' first | split | (dsimp only; split)) <;> simp
@[simp] theorem State.handTrigger_encoders (s : State) (k : RunSlotId) (r : Run) (c : CameraId) : (s.handTrigger k r c).encoders = s.encoders := by unfold State.handTrigger; (repeat' first | split | (dsimp only; split)) <;> simp
@[simp] theorem State.handTrigger_pacers (s : State) (k : RunSlotId) (r : Run) (c : CameraId) : (s.handTrigger k r c).pacers = s.pacers := by unfold State.handTrigger; (repeat' first | split | (dsimp only; split)) <;> simp
@[simp] theorem State.handTrigger_lanes (s : State) (k : RunSlotId) (r : Run) (c : CameraId) : (s.handTrigger k r c).lanes = s.lanes := by unfold State.handTrigger; (repeat' first | split | (dsimp only; split)) <;> simp
@[simp] theorem State.handTrigger_programs (s : State) (k : RunSlotId) (r : Run) (c : CameraId) : (s.handTrigger k r c).programs = s.programs := by unfold State.handTrigger; (repeat' first | split | (dsimp only; split)) <;> simp
@[simp] theorem State.handTrigger_updateHold (s : State) (k : RunSlotId) (r : Run) (c : CameraId) : (s.handTrigger k r c).updateHold = s.updateHold := by unfold State.handTrigger; (repeat' first | split | (dsimp only; split)) <;> simp
@[simp] theorem State.handTrigger_outputs (s : State) (k : RunSlotId) (r : Run) (c : CameraId) : (s.handTrigger k r c).outputs = s.outputs := by unfold State.handTrigger; (repeat' first | split | (dsimp only; split)) <;> simp
@[simp] theorem State.handTrigger_safes (s : State) (k : RunSlotId) (r : Run) (c : CameraId) : (s.handTrigger k r c).safes = s.safes := by unfold State.handTrigger; (repeat' first | split | (dsimp only; split)) <;> simp
@[simp] theorem State.handTrigger_unlock (s : State) (k : RunSlotId) (r : Run) (c : CameraId) : (s.handTrigger k r c).unlock = s.unlock := by unfold State.handTrigger; (repeat' first | split | (dsimp only; split)) <;> simp
@[simp] theorem State.handTrigger_outcomes (s : State) (k : RunSlotId) (r : Run) (c : CameraId) : (s.handTrigger k r c).outcomes = s.outcomes := by unfold State.handTrigger; (repeat' first | split | (dsimp only; split)) <;> simp
@[simp] theorem State.handTrigger_alarms (s : State) (k : RunSlotId) (r : Run) (c : CameraId) : (s.handTrigger k r c).alarms = s.alarms := by unfold State.handTrigger; (repeat' first | split | (dsimp only; split)) <;> simp
@[simp] theorem State.handTrigger_link (s : State) (k : RunSlotId) (r : Run) (c : CameraId) : (s.handTrigger k r c).link = s.link := by unfold State.handTrigger; (repeat' first | split | (dsimp only; split)) <;> simp
@[simp] theorem State.handTrigger_arbiter (s : State) (k : RunSlotId) (r : Run) (c : CameraId) : (s.handTrigger k r c).arbiter = s.arbiter := by unfold State.handTrigger; (repeat' first | split | (dsimp only; split)) <;> simp
@[simp] theorem State.handTrigger_pending (s : State) (k : RunSlotId) (r : Run) (c : CameraId) : (s.handTrigger k r c).pending = s.pending := by unfold State.handTrigger; (repeat' first | split | (dsimp only; split)) <;> simp

/-! ## startPulse -/

@[simp] theorem State.startPulse_phase (s : State) (k : RunSlotId) (x : Pulse × Nat) : (State.startPulse k s x).phase = s.phase := by unfold State.startPulse; (repeat' first | split | (dsimp only; split)) <;> simp
@[simp] theorem State.startPulse_startTimer (s : State) (k : RunSlotId) (x : Pulse × Nat) : (State.startPulse k s x).startTimer = s.startTimer := by unfold State.startPulse; (repeat' first | split | (dsimp only; split)) <;> simp
@[simp] theorem State.startPulse_timestamp (s : State) (k : RunSlotId) (x : Pulse × Nat) : (State.startPulse k s x).timestamp = s.timestamp := by unfold State.startPulse; (repeat' first | split | (dsimp only; split)) <;> simp
@[simp] theorem State.startPulse_halfTick (s : State) (k : RunSlotId) (x : Pulse × Nat) : (State.startPulse k s x).halfTick = s.halfTick := by unfold State.startPulse; (repeat' first | split | (dsimp only; split)) <;> simp
@[simp] theorem State.startPulse_encoders (s : State) (k : RunSlotId) (x : Pulse × Nat) : (State.startPulse k s x).encoders = s.encoders := by unfold State.startPulse; (repeat' first | split | (dsimp only; split)) <;> simp
@[simp] theorem State.startPulse_pacers (s : State) (k : RunSlotId) (x : Pulse × Nat) : (State.startPulse k s x).pacers = s.pacers := by unfold State.startPulse; (repeat' first | split | (dsimp only; split)) <;> simp
@[simp] theorem State.startPulse_lanes (s : State) (k : RunSlotId) (x : Pulse × Nat) : (State.startPulse k s x).lanes = s.lanes := by unfold State.startPulse; (repeat' first | split | (dsimp only; split)) <;> simp
@[simp] theorem State.startPulse_programs (s : State) (k : RunSlotId) (x : Pulse × Nat) : (State.startPulse k s x).programs = s.programs := by unfold State.startPulse; (repeat' first | split | (dsimp only; split)) <;> simp
@[simp] theorem State.startPulse_updateHold (s : State) (k : RunSlotId) (x : Pulse × Nat) : (State.startPulse k s x).updateHold = s.updateHold := by unfold State.startPulse; (repeat' first | split | (dsimp only; split)) <;> simp
@[simp] theorem State.startPulse_outputs (s : State) (k : RunSlotId) (x : Pulse × Nat) : (State.startPulse k s x).outputs = s.outputs := by unfold State.startPulse; (repeat' first | split | (dsimp only; split)) <;> simp
@[simp] theorem State.startPulse_safes (s : State) (k : RunSlotId) (x : Pulse × Nat) : (State.startPulse k s x).safes = s.safes := by unfold State.startPulse; (repeat' first | split | (dsimp only; split)) <;> simp
@[simp] theorem State.startPulse_unlock (s : State) (k : RunSlotId) (x : Pulse × Nat) : (State.startPulse k s x).unlock = s.unlock := by unfold State.startPulse; (repeat' first | split | (dsimp only; split)) <;> simp
@[simp] theorem State.startPulse_outcomes (s : State) (k : RunSlotId) (x : Pulse × Nat) : (State.startPulse k s x).outcomes = s.outcomes := by unfold State.startPulse; (repeat' first | split | (dsimp only; split)) <;> simp
@[simp] theorem State.startPulse_arbiter (s : State) (k : RunSlotId) (x : Pulse × Nat) : (State.startPulse k s x).arbiter = s.arbiter := by unfold State.startPulse; (repeat' first | split | (dsimp only; split)) <;> simp
@[simp] theorem State.startPulse_pending (s : State) (k : RunSlotId) (x : Pulse × Nat) : (State.startPulse k s x).pending = s.pending := by unfold State.startPulse; (repeat' first | split | (dsimp only; split)) <;> simp

/-! ## leaveFiring -/

@[simp] theorem State.leaveFiring_phase (s : State) (h : Handle) : (s.leaveFiring h).phase = s.phase := by unfold State.leaveFiring; (repeat' first | split | (dsimp only; split)) <;> simp
@[simp] theorem State.leaveFiring_startTimer (s : State) (h : Handle) : (s.leaveFiring h).startTimer = s.startTimer := by unfold State.leaveFiring; (repeat' first | split | (dsimp only; split)) <;> simp
@[simp] theorem State.leaveFiring_timestamp (s : State) (h : Handle) : (s.leaveFiring h).timestamp = s.timestamp := by unfold State.leaveFiring; (repeat' first | split | (dsimp only; split)) <;> simp
@[simp] theorem State.leaveFiring_halfTick (s : State) (h : Handle) : (s.leaveFiring h).halfTick = s.halfTick := by unfold State.leaveFiring; (repeat' first | split | (dsimp only; split)) <;> simp
@[simp] theorem State.leaveFiring_encoders (s : State) (h : Handle) : (s.leaveFiring h).encoders = s.encoders := by unfold State.leaveFiring; (repeat' first | split | (dsimp only; split)) <;> simp
@[simp] theorem State.leaveFiring_pacers (s : State) (h : Handle) : (s.leaveFiring h).pacers = s.pacers := by unfold State.leaveFiring; (repeat' first | split | (dsimp only; split)) <;> simp
@[simp] theorem State.leaveFiring_lanes (s : State) (h : Handle) : (s.leaveFiring h).lanes = s.lanes := by unfold State.leaveFiring; (repeat' first | split | (dsimp only; split)) <;> simp
@[simp] theorem State.leaveFiring_programs (s : State) (h : Handle) : (s.leaveFiring h).programs = s.programs := by unfold State.leaveFiring; (repeat' first | split | (dsimp only; split)) <;> simp
@[simp] theorem State.leaveFiring_updateHold (s : State) (h : Handle) : (s.leaveFiring h).updateHold = s.updateHold := by unfold State.leaveFiring; (repeat' first | split | (dsimp only; split)) <;> simp
@[simp] theorem State.leaveFiring_runs (s : State) (h : Handle) : (s.leaveFiring h).runs = s.runs := by unfold State.leaveFiring; (repeat' first | split | (dsimp only; split)) <;> simp
@[simp] theorem State.leaveFiring_outputs (s : State) (h : Handle) : (s.leaveFiring h).outputs = s.outputs := by unfold State.leaveFiring; (repeat' first | split | (dsimp only; split)) <;> simp
@[simp] theorem State.leaveFiring_cameras (s : State) (h : Handle) : (s.leaveFiring h).cameras = s.cameras := by unfold State.leaveFiring; (repeat' first | split | (dsimp only; split)) <;> simp
@[simp] theorem State.leaveFiring_safes (s : State) (h : Handle) : (s.leaveFiring h).safes = s.safes := by unfold State.leaveFiring; (repeat' first | split | (dsimp only; split)) <;> simp
@[simp] theorem State.leaveFiring_unlock (s : State) (h : Handle) : (s.leaveFiring h).unlock = s.unlock := by unfold State.leaveFiring; (repeat' first | split | (dsimp only; split)) <;> simp
@[simp] theorem State.leaveFiring_arbiter (s : State) (h : Handle) : (s.leaveFiring h).arbiter = s.arbiter := by unfold State.leaveFiring; (repeat' first | split | (dsimp only; split)) <;> simp
@[simp] theorem State.leaveFiring_pending (s : State) (h : Handle) : (s.leaveFiring h).pending = s.pending := by unfold State.leaveFiring; (repeat' first | split | (dsimp only; split)) <;> simp

/-! ## completeRun -/

@[simp] theorem State.completeRun_phase (s : State) (k : RunSlotId) (r : Run) : (s.completeRun k r).phase = s.phase := by simp [State.completeRun]
@[simp] theorem State.completeRun_startTimer (s : State) (k : RunSlotId) (r : Run) : (s.completeRun k r).startTimer = s.startTimer := by simp [State.completeRun]
@[simp] theorem State.completeRun_timestamp (s : State) (k : RunSlotId) (r : Run) : (s.completeRun k r).timestamp = s.timestamp := by simp [State.completeRun]
@[simp] theorem State.completeRun_halfTick (s : State) (k : RunSlotId) (r : Run) : (s.completeRun k r).halfTick = s.halfTick := by simp [State.completeRun]
@[simp] theorem State.completeRun_encoders (s : State) (k : RunSlotId) (r : Run) : (s.completeRun k r).encoders = s.encoders := by simp [State.completeRun]
@[simp] theorem State.completeRun_pacers (s : State) (k : RunSlotId) (r : Run) : (s.completeRun k r).pacers = s.pacers := by simp [State.completeRun]
@[simp] theorem State.completeRun_lanes (s : State) (k : RunSlotId) (r : Run) : (s.completeRun k r).lanes = s.lanes := by simp [State.completeRun]
@[simp] theorem State.completeRun_programs (s : State) (k : RunSlotId) (r : Run) : (s.completeRun k r).programs = s.programs := by simp [State.completeRun]
@[simp] theorem State.completeRun_updateHold (s : State) (k : RunSlotId) (r : Run) : (s.completeRun k r).updateHold = s.updateHold := by simp [State.completeRun]
@[simp] theorem State.completeRun_outputs (s : State) (k : RunSlotId) (r : Run) : (s.completeRun k r).outputs = s.outputs := by simp [State.completeRun]
@[simp] theorem State.completeRun_cameras (s : State) (k : RunSlotId) (r : Run) : (s.completeRun k r).cameras = s.cameras := by simp [State.completeRun]
@[simp] theorem State.completeRun_safes (s : State) (k : RunSlotId) (r : Run) : (s.completeRun k r).safes = s.safes := by simp [State.completeRun]
@[simp] theorem State.completeRun_unlock (s : State) (k : RunSlotId) (r : Run) : (s.completeRun k r).unlock = s.unlock := by simp [State.completeRun]
@[simp] theorem State.completeRun_arbiter (s : State) (k : RunSlotId) (r : Run) : (s.completeRun k r).arbiter = s.arbiter := by simp [State.completeRun]
@[simp] theorem State.completeRun_pending (s : State) (k : RunSlotId) (r : Run) : (s.completeRun k r).pending = s.pending := by simp [State.completeRun]

/-! ## abortRun -/

@[simp] theorem State.abortRun_phase (s : State) (k : RunSlotId) : (s.abortRun k).phase = s.phase := by unfold State.abortRun; split <;> simp
@[simp] theorem State.abortRun_startTimer (s : State) (k : RunSlotId) : (s.abortRun k).startTimer = s.startTimer := by unfold State.abortRun; split <;> simp
@[simp] theorem State.abortRun_timestamp (s : State) (k : RunSlotId) : (s.abortRun k).timestamp = s.timestamp := by unfold State.abortRun; split <;> simp
@[simp] theorem State.abortRun_halfTick (s : State) (k : RunSlotId) : (s.abortRun k).halfTick = s.halfTick := by unfold State.abortRun; split <;> simp
@[simp] theorem State.abortRun_encoders (s : State) (k : RunSlotId) : (s.abortRun k).encoders = s.encoders := by unfold State.abortRun; split <;> simp
@[simp] theorem State.abortRun_pacers (s : State) (k : RunSlotId) : (s.abortRun k).pacers = s.pacers := by unfold State.abortRun; split <;> simp
@[simp] theorem State.abortRun_lanes (s : State) (k : RunSlotId) : (s.abortRun k).lanes = s.lanes := by unfold State.abortRun; split <;> simp
@[simp] theorem State.abortRun_programs (s : State) (k : RunSlotId) : (s.abortRun k).programs = s.programs := by unfold State.abortRun; split <;> simp
@[simp] theorem State.abortRun_updateHold (s : State) (k : RunSlotId) : (s.abortRun k).updateHold = s.updateHold := by unfold State.abortRun; split <;> simp
@[simp] theorem State.abortRun_outputs (s : State) (k : RunSlotId) : (s.abortRun k).outputs = s.outputs := by unfold State.abortRun; split <;> simp
@[simp] theorem State.abortRun_cameras (s : State) (k : RunSlotId) : (s.abortRun k).cameras = s.cameras := by unfold State.abortRun; split <;> simp
@[simp] theorem State.abortRun_safes (s : State) (k : RunSlotId) : (s.abortRun k).safes = s.safes := by unfold State.abortRun; split <;> simp
@[simp] theorem State.abortRun_unlock (s : State) (k : RunSlotId) : (s.abortRun k).unlock = s.unlock := by unfold State.abortRun; split <;> simp
@[simp] theorem State.abortRun_arbiter (s : State) (k : RunSlotId) : (s.abortRun k).arbiter = s.arbiter := by unfold State.abortRun; split <;> simp
@[simp] theorem State.abortRun_pending (s : State) (k : RunSlotId) : (s.abortRun k).pending = s.pending := by unfold State.abortRun; split <;> simp

/-! ## abortNaming -/

@[simp] theorem State.abortNaming_phase (s : State) (b : BitVec 12) : (s.abortNaming b).phase = s.phase := foldl_keeps (·.phase) State.abortRun (fun t x => by simp) _ s
@[simp] theorem State.abortNaming_startTimer (s : State) (b : BitVec 12) : (s.abortNaming b).startTimer = s.startTimer := foldl_keeps (·.startTimer) State.abortRun (fun t x => by simp) _ s
@[simp] theorem State.abortNaming_timestamp (s : State) (b : BitVec 12) : (s.abortNaming b).timestamp = s.timestamp := foldl_keeps (·.timestamp) State.abortRun (fun t x => by simp) _ s
@[simp] theorem State.abortNaming_halfTick (s : State) (b : BitVec 12) : (s.abortNaming b).halfTick = s.halfTick := foldl_keeps (·.halfTick) State.abortRun (fun t x => by simp) _ s
@[simp] theorem State.abortNaming_encoders (s : State) (b : BitVec 12) : (s.abortNaming b).encoders = s.encoders := foldl_keeps (·.encoders) State.abortRun (fun t x => by simp) _ s
@[simp] theorem State.abortNaming_pacers (s : State) (b : BitVec 12) : (s.abortNaming b).pacers = s.pacers := foldl_keeps (·.pacers) State.abortRun (fun t x => by simp) _ s
@[simp] theorem State.abortNaming_lanes (s : State) (b : BitVec 12) : (s.abortNaming b).lanes = s.lanes := foldl_keeps (·.lanes) State.abortRun (fun t x => by simp) _ s
@[simp] theorem State.abortNaming_programs (s : State) (b : BitVec 12) : (s.abortNaming b).programs = s.programs := foldl_keeps (·.programs) State.abortRun (fun t x => by simp) _ s
@[simp] theorem State.abortNaming_updateHold (s : State) (b : BitVec 12) : (s.abortNaming b).updateHold = s.updateHold := foldl_keeps (·.updateHold) State.abortRun (fun t x => by simp) _ s
@[simp] theorem State.abortNaming_outputs (s : State) (b : BitVec 12) : (s.abortNaming b).outputs = s.outputs := foldl_keeps (·.outputs) State.abortRun (fun t x => by simp) _ s
@[simp] theorem State.abortNaming_cameras (s : State) (b : BitVec 12) : (s.abortNaming b).cameras = s.cameras := foldl_keeps (·.cameras) State.abortRun (fun t x => by simp) _ s
@[simp] theorem State.abortNaming_safes (s : State) (b : BitVec 12) : (s.abortNaming b).safes = s.safes := foldl_keeps (·.safes) State.abortRun (fun t x => by simp) _ s
@[simp] theorem State.abortNaming_unlock (s : State) (b : BitVec 12) : (s.abortNaming b).unlock = s.unlock := foldl_keeps (·.unlock) State.abortRun (fun t x => by simp) _ s
@[simp] theorem State.abortNaming_arbiter (s : State) (b : BitVec 12) : (s.abortNaming b).arbiter = s.arbiter := foldl_keeps (·.arbiter) State.abortRun (fun t x => by simp) _ s
@[simp] theorem State.abortNaming_pending (s : State) (b : BitVec 12) : (s.abortNaming b).pending = s.pending := foldl_keeps (·.pending) State.abortRun (fun t x => by simp) _ s

/-! ## startPulses -/

@[simp] theorem State.startPulses_phase (s : State) (k : RunSlotId) (xs : List (Pulse × Nat)) : (xs.foldl (State.startPulse k) s).phase = s.phase := foldl_keeps (·.phase) _ (fun t x => by simp) _ s
@[simp] theorem State.startPulses_startTimer (s : State) (k : RunSlotId) (xs : List (Pulse × Nat)) : (xs.foldl (State.startPulse k) s).startTimer = s.startTimer := foldl_keeps (·.startTimer) _ (fun t x => by simp) _ s
@[simp] theorem State.startPulses_timestamp (s : State) (k : RunSlotId) (xs : List (Pulse × Nat)) : (xs.foldl (State.startPulse k) s).timestamp = s.timestamp := foldl_keeps (·.timestamp) _ (fun t x => by simp) _ s
@[simp] theorem State.startPulses_halfTick (s : State) (k : RunSlotId) (xs : List (Pulse × Nat)) : (xs.foldl (State.startPulse k) s).halfTick = s.halfTick := foldl_keeps (·.halfTick) _ (fun t x => by simp) _ s
@[simp] theorem State.startPulses_encoders (s : State) (k : RunSlotId) (xs : List (Pulse × Nat)) : (xs.foldl (State.startPulse k) s).encoders = s.encoders := foldl_keeps (·.encoders) _ (fun t x => by simp) _ s
@[simp] theorem State.startPulses_pacers (s : State) (k : RunSlotId) (xs : List (Pulse × Nat)) : (xs.foldl (State.startPulse k) s).pacers = s.pacers := foldl_keeps (·.pacers) _ (fun t x => by simp) _ s
@[simp] theorem State.startPulses_lanes (s : State) (k : RunSlotId) (xs : List (Pulse × Nat)) : (xs.foldl (State.startPulse k) s).lanes = s.lanes := foldl_keeps (·.lanes) _ (fun t x => by simp) _ s
@[simp] theorem State.startPulses_programs (s : State) (k : RunSlotId) (xs : List (Pulse × Nat)) : (xs.foldl (State.startPulse k) s).programs = s.programs := foldl_keeps (·.programs) _ (fun t x => by simp) _ s
@[simp] theorem State.startPulses_updateHold (s : State) (k : RunSlotId) (xs : List (Pulse × Nat)) : (xs.foldl (State.startPulse k) s).updateHold = s.updateHold := foldl_keeps (·.updateHold) _ (fun t x => by simp) _ s
@[simp] theorem State.startPulses_outputs (s : State) (k : RunSlotId) (xs : List (Pulse × Nat)) : (xs.foldl (State.startPulse k) s).outputs = s.outputs := foldl_keeps (·.outputs) _ (fun t x => by simp) _ s
@[simp] theorem State.startPulses_safes (s : State) (k : RunSlotId) (xs : List (Pulse × Nat)) : (xs.foldl (State.startPulse k) s).safes = s.safes := foldl_keeps (·.safes) _ (fun t x => by simp) _ s
@[simp] theorem State.startPulses_unlock (s : State) (k : RunSlotId) (xs : List (Pulse × Nat)) : (xs.foldl (State.startPulse k) s).unlock = s.unlock := foldl_keeps (·.unlock) _ (fun t x => by simp) _ s
@[simp] theorem State.startPulses_outcomes (s : State) (k : RunSlotId) (xs : List (Pulse × Nat)) : (xs.foldl (State.startPulse k) s).outcomes = s.outcomes := foldl_keeps (·.outcomes) _ (fun t x => by simp) _ s
@[simp] theorem State.startPulses_arbiter (s : State) (k : RunSlotId) (xs : List (Pulse × Nat)) : (xs.foldl (State.startPulse k) s).arbiter = s.arbiter := foldl_keeps (·.arbiter) _ (fun t x => by simp) _ s
@[simp] theorem State.startPulses_pending (s : State) (k : RunSlotId) (xs : List (Pulse × Nat)) : (xs.foldl (State.startPulse k) s).pending = s.pending := foldl_keeps (·.pending) _ (fun t x => by simp) _ s

/-! ## runEvent -/

@[simp] theorem State.runEvent_phase (s : State) (k : RunSlotId) : (s.runEvent k).phase = s.phase := by unfold State.runEvent; (repeat' first | split | (dsimp only; split)) <;> simp
@[simp] theorem State.runEvent_startTimer (s : State) (k : RunSlotId) : (s.runEvent k).startTimer = s.startTimer := by unfold State.runEvent; (repeat' first | split | (dsimp only; split)) <;> simp
@[simp] theorem State.runEvent_timestamp (s : State) (k : RunSlotId) : (s.runEvent k).timestamp = s.timestamp := by unfold State.runEvent; (repeat' first | split | (dsimp only; split)) <;> simp
@[simp] theorem State.runEvent_halfTick (s : State) (k : RunSlotId) : (s.runEvent k).halfTick = s.halfTick := by unfold State.runEvent; (repeat' first | split | (dsimp only; split)) <;> simp
@[simp] theorem State.runEvent_encoders (s : State) (k : RunSlotId) : (s.runEvent k).encoders = s.encoders := by unfold State.runEvent; (repeat' first | split | (dsimp only; split)) <;> simp
@[simp] theorem State.runEvent_pacers (s : State) (k : RunSlotId) : (s.runEvent k).pacers = s.pacers := by unfold State.runEvent; (repeat' first | split | (dsimp only; split)) <;> simp
@[simp] theorem State.runEvent_lanes (s : State) (k : RunSlotId) : (s.runEvent k).lanes = s.lanes := by unfold State.runEvent; (repeat' first | split | (dsimp only; split)) <;> simp
@[simp] theorem State.runEvent_programs (s : State) (k : RunSlotId) : (s.runEvent k).programs = s.programs := by unfold State.runEvent; (repeat' first | split | (dsimp only; split)) <;> simp
@[simp] theorem State.runEvent_updateHold (s : State) (k : RunSlotId) : (s.runEvent k).updateHold = s.updateHold := by unfold State.runEvent; (repeat' first | split | (dsimp only; split)) <;> simp
@[simp] theorem State.runEvent_outputs (s : State) (k : RunSlotId) : (s.runEvent k).outputs = s.outputs := by unfold State.runEvent; (repeat' first | split | (dsimp only; split)) <;> simp
@[simp] theorem State.runEvent_safes (s : State) (k : RunSlotId) : (s.runEvent k).safes = s.safes := by unfold State.runEvent; (repeat' first | split | (dsimp only; split)) <;> simp
@[simp] theorem State.runEvent_unlock (s : State) (k : RunSlotId) : (s.runEvent k).unlock = s.unlock := by unfold State.runEvent; (repeat' first | split | (dsimp only; split)) <;> simp
@[simp] theorem State.runEvent_arbiter (s : State) (k : RunSlotId) : (s.runEvent k).arbiter = s.arbiter := by unfold State.runEvent; (repeat' first | split | (dsimp only; split)) <;> simp
@[simp] theorem State.runEvent_pending (s : State) (k : RunSlotId) : (s.runEvent k).pending = s.pending := by unfold State.runEvent; (repeat' first | split | (dsimp only; split)) <;> simp

/-! ## fire -/

@[simp] theorem State.fire_phase (s : State) (k : RunSlotId) (h : Handle) (sh : Shot) (v : Version) : (s.fire k h sh v).phase = s.phase := by simp [State.fire]
@[simp] theorem State.fire_startTimer (s : State) (k : RunSlotId) (h : Handle) (sh : Shot) (v : Version) : (s.fire k h sh v).startTimer = s.startTimer := by simp [State.fire]
@[simp] theorem State.fire_timestamp (s : State) (k : RunSlotId) (h : Handle) (sh : Shot) (v : Version) : (s.fire k h sh v).timestamp = s.timestamp := by simp [State.fire]
@[simp] theorem State.fire_halfTick (s : State) (k : RunSlotId) (h : Handle) (sh : Shot) (v : Version) : (s.fire k h sh v).halfTick = s.halfTick := by simp [State.fire]
@[simp] theorem State.fire_encoders (s : State) (k : RunSlotId) (h : Handle) (sh : Shot) (v : Version) : (s.fire k h sh v).encoders = s.encoders := by simp [State.fire]
@[simp] theorem State.fire_pacers (s : State) (k : RunSlotId) (h : Handle) (sh : Shot) (v : Version) : (s.fire k h sh v).pacers = s.pacers := by simp [State.fire]
@[simp] theorem State.fire_lanes (s : State) (k : RunSlotId) (h : Handle) (sh : Shot) (v : Version) : (s.fire k h sh v).lanes = s.lanes := by simp [State.fire]
@[simp] theorem State.fire_programs (s : State) (k : RunSlotId) (h : Handle) (sh : Shot) (v : Version) : (s.fire k h sh v).programs = s.programs := by simp [State.fire]
@[simp] theorem State.fire_updateHold (s : State) (k : RunSlotId) (h : Handle) (sh : Shot) (v : Version) : (s.fire k h sh v).updateHold = s.updateHold := by simp [State.fire]
@[simp] theorem State.fire_outputs (s : State) (k : RunSlotId) (h : Handle) (sh : Shot) (v : Version) : (s.fire k h sh v).outputs = s.outputs := by simp [State.fire]
@[simp] theorem State.fire_safes (s : State) (k : RunSlotId) (h : Handle) (sh : Shot) (v : Version) : (s.fire k h sh v).safes = s.safes := by simp [State.fire]
@[simp] theorem State.fire_unlock (s : State) (k : RunSlotId) (h : Handle) (sh : Shot) (v : Version) : (s.fire k h sh v).unlock = s.unlock := by simp [State.fire]
@[simp] theorem State.fire_outcomes (s : State) (k : RunSlotId) (h : Handle) (sh : Shot) (v : Version) : (s.fire k h sh v).outcomes = s.outcomes := by simp [State.fire]
@[simp] theorem State.fire_arbiter (s : State) (k : RunSlotId) (h : Handle) (sh : Shot) (v : Version) : (s.fire k h sh v).arbiter = s.arbiter := by simp [State.fire]
@[simp] theorem State.fire_pending (s : State) (k : RunSlotId) (h : Handle) (sh : Shot) (v : Version) : (s.fire k h sh v).pending = s.pending := by simp [State.fire]

/-! ## fireAttempt -/

@[simp] theorem State.fireAttempt_phase (s : State) (h : Handle) : (s.fireAttempt h).phase = s.phase := by unfold State.fireAttempt; (repeat' first | split | (dsimp only; split)) <;> simp
@[simp] theorem State.fireAttempt_startTimer (s : State) (h : Handle) : (s.fireAttempt h).startTimer = s.startTimer := by unfold State.fireAttempt; (repeat' first | split | (dsimp only; split)) <;> simp
@[simp] theorem State.fireAttempt_timestamp (s : State) (h : Handle) : (s.fireAttempt h).timestamp = s.timestamp := by unfold State.fireAttempt; (repeat' first | split | (dsimp only; split)) <;> simp
@[simp] theorem State.fireAttempt_halfTick (s : State) (h : Handle) : (s.fireAttempt h).halfTick = s.halfTick := by unfold State.fireAttempt; (repeat' first | split | (dsimp only; split)) <;> simp
@[simp] theorem State.fireAttempt_encoders (s : State) (h : Handle) : (s.fireAttempt h).encoders = s.encoders := by unfold State.fireAttempt; (repeat' first | split | (dsimp only; split)) <;> simp
@[simp] theorem State.fireAttempt_pacers (s : State) (h : Handle) : (s.fireAttempt h).pacers = s.pacers := by unfold State.fireAttempt; (repeat' first | split | (dsimp only; split)) <;> simp
@[simp] theorem State.fireAttempt_lanes (s : State) (h : Handle) : (s.fireAttempt h).lanes = s.lanes := by unfold State.fireAttempt; (repeat' first | split | (dsimp only; split)) <;> simp
@[simp] theorem State.fireAttempt_programs (s : State) (h : Handle) : (s.fireAttempt h).programs = s.programs := by unfold State.fireAttempt; (repeat' first | split | (dsimp only; split)) <;> simp
@[simp] theorem State.fireAttempt_updateHold (s : State) (h : Handle) : (s.fireAttempt h).updateHold = s.updateHold := by unfold State.fireAttempt; (repeat' first | split | (dsimp only; split)) <;> simp
@[simp] theorem State.fireAttempt_outputs (s : State) (h : Handle) : (s.fireAttempt h).outputs = s.outputs := by unfold State.fireAttempt; (repeat' first | split | (dsimp only; split)) <;> simp
@[simp] theorem State.fireAttempt_safes (s : State) (h : Handle) : (s.fireAttempt h).safes = s.safes := by unfold State.fireAttempt; (repeat' first | split | (dsimp only; split)) <;> simp
@[simp] theorem State.fireAttempt_unlock (s : State) (h : Handle) : (s.fireAttempt h).unlock = s.unlock := by unfold State.fireAttempt; (repeat' first | split | (dsimp only; split)) <;> simp
@[simp] theorem State.fireAttempt_arbiter (s : State) (h : Handle) : (s.fireAttempt h).arbiter = s.arbiter := by unfold State.fireAttempt; (repeat' first | split | (dsimp only; split)) <;> simp
@[simp] theorem State.fireAttempt_pending (s : State) (h : Handle) : (s.fireAttempt h).pending = s.pending := by unfold State.fireAttempt; (repeat' first | split | (dsimp only; split)) <;> simp

/-! ## reach -/

@[simp] theorem State.reach_phase (s : State) (l : LaneId) (h : Handle) : (s.reach l h).phase = s.phase := by unfold State.reach; dsimp only; split <;> simp
@[simp] theorem State.reach_startTimer (s : State) (l : LaneId) (h : Handle) : (s.reach l h).startTimer = s.startTimer := by unfold State.reach; dsimp only; split <;> simp
@[simp] theorem State.reach_timestamp (s : State) (l : LaneId) (h : Handle) : (s.reach l h).timestamp = s.timestamp := by unfold State.reach; dsimp only; split <;> simp
@[simp] theorem State.reach_halfTick (s : State) (l : LaneId) (h : Handle) : (s.reach l h).halfTick = s.halfTick := by unfold State.reach; dsimp only; split <;> simp
@[simp] theorem State.reach_encoders (s : State) (l : LaneId) (h : Handle) : (s.reach l h).encoders = s.encoders := by unfold State.reach; dsimp only; split <;> simp
@[simp] theorem State.reach_pacers (s : State) (l : LaneId) (h : Handle) : (s.reach l h).pacers = s.pacers := by unfold State.reach; dsimp only; split <;> simp
@[simp] theorem State.reach_updateHold (s : State) (l : LaneId) (h : Handle) : (s.reach l h).updateHold = s.updateHold := by unfold State.reach; dsimp only; split <;> simp
@[simp] theorem State.reach_outputs (s : State) (l : LaneId) (h : Handle) : (s.reach l h).outputs = s.outputs := by unfold State.reach; dsimp only; split <;> simp
@[simp] theorem State.reach_safes (s : State) (l : LaneId) (h : Handle) : (s.reach l h).safes = s.safes := by unfold State.reach; dsimp only; split <;> simp
@[simp] theorem State.reach_unlock (s : State) (l : LaneId) (h : Handle) : (s.reach l h).unlock = s.unlock := by unfold State.reach; dsimp only; split <;> simp
@[simp] theorem State.reach_arbiter (s : State) (l : LaneId) (h : Handle) : (s.reach l h).arbiter = s.arbiter := by unfold State.reach; dsimp only; split <;> simp
@[simp] theorem State.reach_pending (s : State) (l : LaneId) (h : Handle) : (s.reach l h).pending = s.pending := by unfold State.reach; dsimp only; split <;> simp

/-! ## checkHead -/

@[simp] theorem State.checkHead_phase (s : State) (l : LaneId) : (s.checkHead l).phase = s.phase := by unfold State.checkHead; (repeat' first | split | (dsimp only; split)) <;> simp
@[simp] theorem State.checkHead_startTimer (s : State) (l : LaneId) : (s.checkHead l).startTimer = s.startTimer := by unfold State.checkHead; (repeat' first | split | (dsimp only; split)) <;> simp
@[simp] theorem State.checkHead_timestamp (s : State) (l : LaneId) : (s.checkHead l).timestamp = s.timestamp := by unfold State.checkHead; (repeat' first | split | (dsimp only; split)) <;> simp
@[simp] theorem State.checkHead_halfTick (s : State) (l : LaneId) : (s.checkHead l).halfTick = s.halfTick := by unfold State.checkHead; (repeat' first | split | (dsimp only; split)) <;> simp
@[simp] theorem State.checkHead_encoders (s : State) (l : LaneId) : (s.checkHead l).encoders = s.encoders := by unfold State.checkHead; (repeat' first | split | (dsimp only; split)) <;> simp
@[simp] theorem State.checkHead_pacers (s : State) (l : LaneId) : (s.checkHead l).pacers = s.pacers := by unfold State.checkHead; (repeat' first | split | (dsimp only; split)) <;> simp
@[simp] theorem State.checkHead_updateHold (s : State) (l : LaneId) : (s.checkHead l).updateHold = s.updateHold := by unfold State.checkHead; (repeat' first | split | (dsimp only; split)) <;> simp
@[simp] theorem State.checkHead_outputs (s : State) (l : LaneId) : (s.checkHead l).outputs = s.outputs := by unfold State.checkHead; (repeat' first | split | (dsimp only; split)) <;> simp
@[simp] theorem State.checkHead_safes (s : State) (l : LaneId) : (s.checkHead l).safes = s.safes := by unfold State.checkHead; (repeat' first | split | (dsimp only; split)) <;> simp
@[simp] theorem State.checkHead_unlock (s : State) (l : LaneId) : (s.checkHead l).unlock = s.unlock := by unfold State.checkHead; (repeat' first | split | (dsimp only; split)) <;> simp
@[simp] theorem State.checkHead_arbiter (s : State) (l : LaneId) : (s.checkHead l).arbiter = s.arbiter := by unfold State.checkHead; (repeat' first | split | (dsimp only; split)) <;> simp
@[simp] theorem State.checkHead_pending (s : State) (l : LaneId) : (s.checkHead l).pending = s.pending := by unfold State.checkHead; (repeat' first | split | (dsimp only; split)) <;> simp

/-! ## checkReverse -/

@[simp] theorem State.checkReverse_phase (s : State) (l : LaneId) : (s.checkReverse l).phase = s.phase := by unfold State.checkReverse; dsimp only; (repeat' first | split | (dsimp only; split)) <;> simp
@[simp] theorem State.checkReverse_startTimer (s : State) (l : LaneId) : (s.checkReverse l).startTimer = s.startTimer := by unfold State.checkReverse; dsimp only; (repeat' first | split | (dsimp only; split)) <;> simp
@[simp] theorem State.checkReverse_timestamp (s : State) (l : LaneId) : (s.checkReverse l).timestamp = s.timestamp := by unfold State.checkReverse; dsimp only; (repeat' first | split | (dsimp only; split)) <;> simp
@[simp] theorem State.checkReverse_halfTick (s : State) (l : LaneId) : (s.checkReverse l).halfTick = s.halfTick := by unfold State.checkReverse; dsimp only; (repeat' first | split | (dsimp only; split)) <;> simp
@[simp] theorem State.checkReverse_encoders (s : State) (l : LaneId) : (s.checkReverse l).encoders = s.encoders := by unfold State.checkReverse; dsimp only; (repeat' first | split | (dsimp only; split)) <;> simp
@[simp] theorem State.checkReverse_pacers (s : State) (l : LaneId) : (s.checkReverse l).pacers = s.pacers := by unfold State.checkReverse; dsimp only; (repeat' first | split | (dsimp only; split)) <;> simp
@[simp] theorem State.checkReverse_slots (s : State) (l : LaneId) : (s.checkReverse l).slots = s.slots := by unfold State.checkReverse; dsimp only; (repeat' first | split | (dsimp only; split)) <;> simp
@[simp] theorem State.checkReverse_programs (s : State) (l : LaneId) : (s.checkReverse l).programs = s.programs := by unfold State.checkReverse; dsimp only; (repeat' first | split | (dsimp only; split)) <;> simp
@[simp] theorem State.checkReverse_updateHold (s : State) (l : LaneId) : (s.checkReverse l).updateHold = s.updateHold := by unfold State.checkReverse; dsimp only; (repeat' first | split | (dsimp only; split)) <;> simp
@[simp] theorem State.checkReverse_runs (s : State) (l : LaneId) : (s.checkReverse l).runs = s.runs := by unfold State.checkReverse; dsimp only; (repeat' first | split | (dsimp only; split)) <;> simp
@[simp] theorem State.checkReverse_outputs (s : State) (l : LaneId) : (s.checkReverse l).outputs = s.outputs := by unfold State.checkReverse; dsimp only; (repeat' first | split | (dsimp only; split)) <;> simp
@[simp] theorem State.checkReverse_cameras (s : State) (l : LaneId) : (s.checkReverse l).cameras = s.cameras := by unfold State.checkReverse; dsimp only; (repeat' first | split | (dsimp only; split)) <;> simp
@[simp] theorem State.checkReverse_safes (s : State) (l : LaneId) : (s.checkReverse l).safes = s.safes := by unfold State.checkReverse; dsimp only; (repeat' first | split | (dsimp only; split)) <;> simp
@[simp] theorem State.checkReverse_unlock (s : State) (l : LaneId) : (s.checkReverse l).unlock = s.unlock := by unfold State.checkReverse; dsimp only; (repeat' first | split | (dsimp only; split)) <;> simp
@[simp] theorem State.checkReverse_outcomes (s : State) (l : LaneId) : (s.checkReverse l).outcomes = s.outcomes := by unfold State.checkReverse; dsimp only; (repeat' first | split | (dsimp only; split)) <;> simp
@[simp] theorem State.checkReverse_arbiter (s : State) (l : LaneId) : (s.checkReverse l).arbiter = s.arbiter := by unfold State.checkReverse; dsimp only; (repeat' first | split | (dsimp only; split)) <;> simp
@[simp] theorem State.checkReverse_pending (s : State) (l : LaneId) : (s.checkReverse l).pending = s.pending := by unfold State.checkReverse; dsimp only; (repeat' first | split | (dsimp only; split)) <;> simp

/-! ## laneCount -/

@[simp] theorem State.laneCount_phase (s : State) (up : Bool) (l : LaneId) : (State.laneCount up s l).phase = s.phase := by unfold State.laneCount; (repeat' first | split | (dsimp only; split)) <;> simp
@[simp] theorem State.laneCount_startTimer (s : State) (up : Bool) (l : LaneId) : (State.laneCount up s l).startTimer = s.startTimer := by unfold State.laneCount; (repeat' first | split | (dsimp only; split)) <;> simp
@[simp] theorem State.laneCount_timestamp (s : State) (up : Bool) (l : LaneId) : (State.laneCount up s l).timestamp = s.timestamp := by unfold State.laneCount; (repeat' first | split | (dsimp only; split)) <;> simp
@[simp] theorem State.laneCount_halfTick (s : State) (up : Bool) (l : LaneId) : (State.laneCount up s l).halfTick = s.halfTick := by unfold State.laneCount; (repeat' first | split | (dsimp only; split)) <;> simp
@[simp] theorem State.laneCount_encoders (s : State) (up : Bool) (l : LaneId) : (State.laneCount up s l).encoders = s.encoders := by unfold State.laneCount; (repeat' first | split | (dsimp only; split)) <;> simp
@[simp] theorem State.laneCount_pacers (s : State) (up : Bool) (l : LaneId) : (State.laneCount up s l).pacers = s.pacers := by unfold State.laneCount; (repeat' first | split | (dsimp only; split)) <;> simp
@[simp] theorem State.laneCount_updateHold (s : State) (up : Bool) (l : LaneId) : (State.laneCount up s l).updateHold = s.updateHold := by unfold State.laneCount; (repeat' first | split | (dsimp only; split)) <;> simp
@[simp] theorem State.laneCount_outputs (s : State) (up : Bool) (l : LaneId) : (State.laneCount up s l).outputs = s.outputs := by unfold State.laneCount; (repeat' first | split | (dsimp only; split)) <;> simp
@[simp] theorem State.laneCount_safes (s : State) (up : Bool) (l : LaneId) : (State.laneCount up s l).safes = s.safes := by unfold State.laneCount; (repeat' first | split | (dsimp only; split)) <;> simp
@[simp] theorem State.laneCount_unlock (s : State) (up : Bool) (l : LaneId) : (State.laneCount up s l).unlock = s.unlock := by unfold State.laneCount; (repeat' first | split | (dsimp only; split)) <;> simp
@[simp] theorem State.laneCount_arbiter (s : State) (up : Bool) (l : LaneId) : (State.laneCount up s l).arbiter = s.arbiter := by unfold State.laneCount; (repeat' first | split | (dsimp only; split)) <;> simp
@[simp] theorem State.laneCount_pending (s : State) (up : Bool) (l : LaneId) : (State.laneCount up s l).pending = s.pending := by unfold State.laneCount; (repeat' first | split | (dsimp only; split)) <;> simp

/-! ## handCount -/

@[simp] theorem State.handCount_phase (s : State) (src : Source) (up : Bool) : (s.handCount src up).phase = s.phase := by unfold State.handCount; refine (foldl_keeps (·.phase) _ (fun t x => by simp) _ _).trans ?_; split <;> rfl
@[simp] theorem State.handCount_startTimer (s : State) (src : Source) (up : Bool) : (s.handCount src up).startTimer = s.startTimer := by unfold State.handCount; refine (foldl_keeps (·.startTimer) _ (fun t x => by simp) _ _).trans ?_; split <;> rfl
@[simp] theorem State.handCount_timestamp (s : State) (src : Source) (up : Bool) : (s.handCount src up).timestamp = s.timestamp := by unfold State.handCount; refine (foldl_keeps (·.timestamp) _ (fun t x => by simp) _ _).trans ?_; split <;> rfl
@[simp] theorem State.handCount_halfTick (s : State) (src : Source) (up : Bool) : (s.handCount src up).halfTick = s.halfTick := by unfold State.handCount; refine (foldl_keeps (·.halfTick) _ (fun t x => by simp) _ _).trans ?_; split <;> rfl
@[simp] theorem State.handCount_encoders (s : State) (src : Source) (up : Bool) : (s.handCount src up).encoders = s.encoders := by unfold State.handCount; refine (foldl_keeps (·.encoders) _ (fun t x => by simp) _ _).trans ?_; split <;> rfl
@[simp] theorem State.handCount_pacers (s : State) (src : Source) (up : Bool) : (s.handCount src up).pacers = s.pacers := by unfold State.handCount; refine (foldl_keeps (·.pacers) _ (fun t x => by simp) _ _).trans ?_; split <;> rfl
@[simp] theorem State.handCount_updateHold (s : State) (src : Source) (up : Bool) : (s.handCount src up).updateHold = s.updateHold := by unfold State.handCount; refine (foldl_keeps (·.updateHold) _ (fun t x => by simp) _ _).trans ?_; split <;> rfl
@[simp] theorem State.handCount_outputs (s : State) (src : Source) (up : Bool) : (s.handCount src up).outputs = s.outputs := by unfold State.handCount; refine (foldl_keeps (·.outputs) _ (fun t x => by simp) _ _).trans ?_; split <;> rfl
@[simp] theorem State.handCount_safes (s : State) (src : Source) (up : Bool) : (s.handCount src up).safes = s.safes := by unfold State.handCount; refine (foldl_keeps (·.safes) _ (fun t x => by simp) _ _).trans ?_; split <;> rfl
@[simp] theorem State.handCount_unlock (s : State) (src : Source) (up : Bool) : (s.handCount src up).unlock = s.unlock := by unfold State.handCount; refine (foldl_keeps (·.unlock) _ (fun t x => by simp) _ _).trans ?_; split <;> rfl
@[simp] theorem State.handCount_pending (s : State) (src : Source) (up : Bool) : (s.handCount src up).pending = s.pending := by unfold State.handCount; refine (foldl_keeps (·.pending) _ (fun t x => by simp) _ _).trans ?_; split <;> rfl

/-! ## encoderCount -/

@[simp] theorem State.encoderCount_phase (s : State) (n : EncoderId) (up : Bool) : (s.encoderCount n up).phase = s.phase := by simp [State.encoderCount]
@[simp] theorem State.encoderCount_startTimer (s : State) (n : EncoderId) (up : Bool) : (s.encoderCount n up).startTimer = s.startTimer := by simp [State.encoderCount]
@[simp] theorem State.encoderCount_timestamp (s : State) (n : EncoderId) (up : Bool) : (s.encoderCount n up).timestamp = s.timestamp := by simp [State.encoderCount]
@[simp] theorem State.encoderCount_halfTick (s : State) (n : EncoderId) (up : Bool) : (s.encoderCount n up).halfTick = s.halfTick := by simp [State.encoderCount]
@[simp] theorem State.encoderCount_pacers (s : State) (n : EncoderId) (up : Bool) : (s.encoderCount n up).pacers = s.pacers := by simp [State.encoderCount]
@[simp] theorem State.encoderCount_updateHold (s : State) (n : EncoderId) (up : Bool) : (s.encoderCount n up).updateHold = s.updateHold := by simp [State.encoderCount]
@[simp] theorem State.encoderCount_outputs (s : State) (n : EncoderId) (up : Bool) : (s.encoderCount n up).outputs = s.outputs := by simp [State.encoderCount]
@[simp] theorem State.encoderCount_safes (s : State) (n : EncoderId) (up : Bool) : (s.encoderCount n up).safes = s.safes := by simp [State.encoderCount]
@[simp] theorem State.encoderCount_unlock (s : State) (n : EncoderId) (up : Bool) : (s.encoderCount n up).unlock = s.unlock := by simp [State.encoderCount]
@[simp] theorem State.encoderCount_pending (s : State) (n : EncoderId) (up : Bool) : (s.encoderCount n up).pending = s.pending := by simp [State.encoderCount]

/-! ## filteredTo -/

@[simp] theorem State.filteredTo_phase (s : State) (n : EncoderId) (z : EncoderPins) : (s.filteredTo n z).phase = s.phase := by unfold State.filteredTo; dsimp only; split <;> simp
@[simp] theorem State.filteredTo_startTimer (s : State) (n : EncoderId) (z : EncoderPins) : (s.filteredTo n z).startTimer = s.startTimer := by unfold State.filteredTo; dsimp only; split <;> simp
@[simp] theorem State.filteredTo_timestamp (s : State) (n : EncoderId) (z : EncoderPins) : (s.filteredTo n z).timestamp = s.timestamp := by unfold State.filteredTo; dsimp only; split <;> simp
@[simp] theorem State.filteredTo_halfTick (s : State) (n : EncoderId) (z : EncoderPins) : (s.filteredTo n z).halfTick = s.halfTick := by unfold State.filteredTo; dsimp only; split <;> simp
@[simp] theorem State.filteredTo_pacers (s : State) (n : EncoderId) (z : EncoderPins) : (s.filteredTo n z).pacers = s.pacers := by unfold State.filteredTo; dsimp only; split <;> simp
@[simp] theorem State.filteredTo_updateHold (s : State) (n : EncoderId) (z : EncoderPins) : (s.filteredTo n z).updateHold = s.updateHold := by unfold State.filteredTo; dsimp only; split <;> simp
@[simp] theorem State.filteredTo_outputs (s : State) (n : EncoderId) (z : EncoderPins) : (s.filteredTo n z).outputs = s.outputs := by unfold State.filteredTo; dsimp only; split <;> simp
@[simp] theorem State.filteredTo_safes (s : State) (n : EncoderId) (z : EncoderPins) : (s.filteredTo n z).safes = s.safes := by unfold State.filteredTo; dsimp only; split <;> simp
@[simp] theorem State.filteredTo_unlock (s : State) (n : EncoderId) (z : EncoderPins) : (s.filteredTo n z).unlock = s.unlock := by unfold State.filteredTo; dsimp only; split <;> simp
@[simp] theorem State.filteredTo_pending (s : State) (n : EncoderId) (z : EncoderPins) : (s.filteredTo n z).pending = s.pending := by unfold State.filteredTo; dsimp only; split <;> simp

/-! ## encoderPins -/

@[simp] theorem State.encoderPins_phase (s : State) (n : EncoderId) (z : EncoderPins) : (s.encoderPins n z).phase = s.phase := by unfold State.encoderPins; (repeat' first | split | (dsimp only; split)) <;> simp
@[simp] theorem State.encoderPins_startTimer (s : State) (n : EncoderId) (z : EncoderPins) : (s.encoderPins n z).startTimer = s.startTimer := by unfold State.encoderPins; (repeat' first | split | (dsimp only; split)) <;> simp
@[simp] theorem State.encoderPins_timestamp (s : State) (n : EncoderId) (z : EncoderPins) : (s.encoderPins n z).timestamp = s.timestamp := by unfold State.encoderPins; (repeat' first | split | (dsimp only; split)) <;> simp
@[simp] theorem State.encoderPins_halfTick (s : State) (n : EncoderId) (z : EncoderPins) : (s.encoderPins n z).halfTick = s.halfTick := by unfold State.encoderPins; (repeat' first | split | (dsimp only; split)) <;> simp
@[simp] theorem State.encoderPins_pacers (s : State) (n : EncoderId) (z : EncoderPins) : (s.encoderPins n z).pacers = s.pacers := by unfold State.encoderPins; (repeat' first | split | (dsimp only; split)) <;> simp
@[simp] theorem State.encoderPins_updateHold (s : State) (n : EncoderId) (z : EncoderPins) : (s.encoderPins n z).updateHold = s.updateHold := by unfold State.encoderPins; (repeat' first | split | (dsimp only; split)) <;> simp
@[simp] theorem State.encoderPins_outputs (s : State) (n : EncoderId) (z : EncoderPins) : (s.encoderPins n z).outputs = s.outputs := by unfold State.encoderPins; (repeat' first | split | (dsimp only; split)) <;> simp
@[simp] theorem State.encoderPins_safes (s : State) (n : EncoderId) (z : EncoderPins) : (s.encoderPins n z).safes = s.safes := by unfold State.encoderPins; (repeat' first | split | (dsimp only; split)) <;> simp
@[simp] theorem State.encoderPins_unlock (s : State) (n : EncoderId) (z : EncoderPins) : (s.encoderPins n z).unlock = s.unlock := by unfold State.encoderPins; (repeat' first | split | (dsimp only; split)) <;> simp
@[simp] theorem State.encoderPins_pending (s : State) (n : EncoderId) (z : EncoderPins) : (s.encoderPins n z).pending = s.pending := by unfold State.encoderPins; (repeat' first | split | (dsimp only; split)) <;> simp

/-! ## filteredChange -/

@[simp] theorem State.filteredChange_phase (s : State) (n : EncoderId) : (s.filteredChange n).phase = s.phase := by simp [State.filteredChange]
@[simp] theorem State.filteredChange_startTimer (s : State) (n : EncoderId) : (s.filteredChange n).startTimer = s.startTimer := by simp [State.filteredChange]
@[simp] theorem State.filteredChange_timestamp (s : State) (n : EncoderId) : (s.filteredChange n).timestamp = s.timestamp := by simp [State.filteredChange]
@[simp] theorem State.filteredChange_halfTick (s : State) (n : EncoderId) : (s.filteredChange n).halfTick = s.halfTick := by simp [State.filteredChange]
@[simp] theorem State.filteredChange_pacers (s : State) (n : EncoderId) : (s.filteredChange n).pacers = s.pacers := by simp [State.filteredChange]
@[simp] theorem State.filteredChange_updateHold (s : State) (n : EncoderId) : (s.filteredChange n).updateHold = s.updateHold := by simp [State.filteredChange]
@[simp] theorem State.filteredChange_outputs (s : State) (n : EncoderId) : (s.filteredChange n).outputs = s.outputs := by simp [State.filteredChange]
@[simp] theorem State.filteredChange_safes (s : State) (n : EncoderId) : (s.filteredChange n).safes = s.safes := by simp [State.filteredChange]
@[simp] theorem State.filteredChange_unlock (s : State) (n : EncoderId) : (s.filteredChange n).unlock = s.unlock := by simp [State.filteredChange]
@[simp] theorem State.filteredChange_pending (s : State) (n : EncoderId) : (s.filteredChange n).pending = s.pending := by simp [State.filteredChange]

/-! ## flushShot -/

@[simp] theorem State.flushShot_phase (s : State) (h : Handle) : (s.flushShot h).phase = s.phase := by simp [State.flushShot]
@[simp] theorem State.flushShot_startTimer (s : State) (h : Handle) : (s.flushShot h).startTimer = s.startTimer := by simp [State.flushShot]
@[simp] theorem State.flushShot_timestamp (s : State) (h : Handle) : (s.flushShot h).timestamp = s.timestamp := by simp [State.flushShot]
@[simp] theorem State.flushShot_halfTick (s : State) (h : Handle) : (s.flushShot h).halfTick = s.halfTick := by simp [State.flushShot]
@[simp] theorem State.flushShot_encoders (s : State) (h : Handle) : (s.flushShot h).encoders = s.encoders := by simp [State.flushShot]
@[simp] theorem State.flushShot_pacers (s : State) (h : Handle) : (s.flushShot h).pacers = s.pacers := by simp [State.flushShot]
@[simp] theorem State.flushShot_lanes (s : State) (h : Handle) : (s.flushShot h).lanes = s.lanes := by simp [State.flushShot]
@[simp] theorem State.flushShot_updateHold (s : State) (h : Handle) : (s.flushShot h).updateHold = s.updateHold := by simp [State.flushShot]
@[simp] theorem State.flushShot_runs (s : State) (h : Handle) : (s.flushShot h).runs = s.runs := by simp [State.flushShot]
@[simp] theorem State.flushShot_outputs (s : State) (h : Handle) : (s.flushShot h).outputs = s.outputs := by simp [State.flushShot]
@[simp] theorem State.flushShot_cameras (s : State) (h : Handle) : (s.flushShot h).cameras = s.cameras := by simp [State.flushShot]
@[simp] theorem State.flushShot_safes (s : State) (h : Handle) : (s.flushShot h).safes = s.safes := by simp [State.flushShot]
@[simp] theorem State.flushShot_unlock (s : State) (h : Handle) : (s.flushShot h).unlock = s.unlock := by simp [State.flushShot]
@[simp] theorem State.flushShot_arbiter (s : State) (h : Handle) : (s.flushShot h).arbiter = s.arbiter := by simp [State.flushShot]
@[simp] theorem State.flushShot_pending (s : State) (h : Handle) : (s.flushShot h).pending = s.pending := by simp [State.flushShot]

/-! ## disarm -/

@[simp] theorem State.disarm_phase (s : State) (l : LaneId) : (s.disarm l).phase = s.phase := by unfold State.disarm; refine (foldl_keeps (·.phase) _ (fun t x => by simp) _ _).trans ?_; simp
@[simp] theorem State.disarm_startTimer (s : State) (l : LaneId) : (s.disarm l).startTimer = s.startTimer := by unfold State.disarm; refine (foldl_keeps (·.startTimer) _ (fun t x => by simp) _ _).trans ?_; simp
@[simp] theorem State.disarm_timestamp (s : State) (l : LaneId) : (s.disarm l).timestamp = s.timestamp := by unfold State.disarm; refine (foldl_keeps (·.timestamp) _ (fun t x => by simp) _ _).trans ?_; simp
@[simp] theorem State.disarm_halfTick (s : State) (l : LaneId) : (s.disarm l).halfTick = s.halfTick := by unfold State.disarm; refine (foldl_keeps (·.halfTick) _ (fun t x => by simp) _ _).trans ?_; simp
@[simp] theorem State.disarm_encoders (s : State) (l : LaneId) : (s.disarm l).encoders = s.encoders := by unfold State.disarm; refine (foldl_keeps (·.encoders) _ (fun t x => by simp) _ _).trans ?_; simp
@[simp] theorem State.disarm_pacers (s : State) (l : LaneId) : (s.disarm l).pacers = s.pacers := by unfold State.disarm; refine (foldl_keeps (·.pacers) _ (fun t x => by simp) _ _).trans ?_; simp
@[simp] theorem State.disarm_updateHold (s : State) (l : LaneId) : (s.disarm l).updateHold = s.updateHold := by unfold State.disarm; refine (foldl_keeps (·.updateHold) _ (fun t x => by simp) _ _).trans ?_; simp
@[simp] theorem State.disarm_runs (s : State) (l : LaneId) : (s.disarm l).runs = s.runs := by unfold State.disarm; refine (foldl_keeps (·.runs) _ (fun t x => by simp) _ _).trans ?_; simp
@[simp] theorem State.disarm_outputs (s : State) (l : LaneId) : (s.disarm l).outputs = s.outputs := by unfold State.disarm; refine (foldl_keeps (·.outputs) _ (fun t x => by simp) _ _).trans ?_; simp
@[simp] theorem State.disarm_cameras (s : State) (l : LaneId) : (s.disarm l).cameras = s.cameras := by unfold State.disarm; refine (foldl_keeps (·.cameras) _ (fun t x => by simp) _ _).trans ?_; simp
@[simp] theorem State.disarm_safes (s : State) (l : LaneId) : (s.disarm l).safes = s.safes := by unfold State.disarm; refine (foldl_keeps (·.safes) _ (fun t x => by simp) _ _).trans ?_; simp
@[simp] theorem State.disarm_unlock (s : State) (l : LaneId) : (s.disarm l).unlock = s.unlock := by unfold State.disarm; refine (foldl_keeps (·.unlock) _ (fun t x => by simp) _ _).trans ?_; simp
@[simp] theorem State.disarm_arbiter (s : State) (l : LaneId) : (s.disarm l).arbiter = s.arbiter := by unfold State.disarm; refine (foldl_keeps (·.arbiter) _ (fun t x => by simp) _ _).trans ?_; simp
@[simp] theorem State.disarm_pending (s : State) (l : LaneId) : (s.disarm l).pending = s.pending := by unfold State.disarm; refine (foldl_keeps (·.pending) _ (fun t x => by simp) _ _).trans ?_; simp

/-! ## cancelShot -/

@[simp] theorem State.cancelShot_phase (s : State) (h : Handle) (sh : Shot) : (s.cancelShot h sh).phase = s.phase := by simp [State.cancelShot]
@[simp] theorem State.cancelShot_startTimer (s : State) (h : Handle) (sh : Shot) : (s.cancelShot h sh).startTimer = s.startTimer := by simp [State.cancelShot]
@[simp] theorem State.cancelShot_timestamp (s : State) (h : Handle) (sh : Shot) : (s.cancelShot h sh).timestamp = s.timestamp := by simp [State.cancelShot]
@[simp] theorem State.cancelShot_halfTick (s : State) (h : Handle) (sh : Shot) : (s.cancelShot h sh).halfTick = s.halfTick := by simp [State.cancelShot]
@[simp] theorem State.cancelShot_encoders (s : State) (h : Handle) (sh : Shot) : (s.cancelShot h sh).encoders = s.encoders := by simp [State.cancelShot]
@[simp] theorem State.cancelShot_pacers (s : State) (h : Handle) (sh : Shot) : (s.cancelShot h sh).pacers = s.pacers := by simp [State.cancelShot]
@[simp] theorem State.cancelShot_updateHold (s : State) (h : Handle) (sh : Shot) : (s.cancelShot h sh).updateHold = s.updateHold := by simp [State.cancelShot]
@[simp] theorem State.cancelShot_runs (s : State) (h : Handle) (sh : Shot) : (s.cancelShot h sh).runs = s.runs := by simp [State.cancelShot]
@[simp] theorem State.cancelShot_outputs (s : State) (h : Handle) (sh : Shot) : (s.cancelShot h sh).outputs = s.outputs := by simp [State.cancelShot]
@[simp] theorem State.cancelShot_cameras (s : State) (h : Handle) (sh : Shot) : (s.cancelShot h sh).cameras = s.cameras := by simp [State.cancelShot]
@[simp] theorem State.cancelShot_safes (s : State) (h : Handle) (sh : Shot) : (s.cancelShot h sh).safes = s.safes := by simp [State.cancelShot]
@[simp] theorem State.cancelShot_unlock (s : State) (h : Handle) (sh : Shot) : (s.cancelShot h sh).unlock = s.unlock := by simp [State.cancelShot]
@[simp] theorem State.cancelShot_arbiter (s : State) (h : Handle) (sh : Shot) : (s.cancelShot h sh).arbiter = s.arbiter := by simp [State.cancelShot]
@[simp] theorem State.cancelShot_pending (s : State) (h : Handle) (sh : Shot) : (s.cancelShot h sh).pending = s.pending := by simp [State.cancelShot]

/-! ## admitEntry -/

@[simp] theorem State.admitEntry_phase (s : State) (l : LaneId) (e : Entry) (p : Position) (i : ProgramId) (h : Handle) : (s.admitEntry l e p i h).phase = s.phase := by simp [State.admitEntry]
@[simp] theorem State.admitEntry_startTimer (s : State) (l : LaneId) (e : Entry) (p : Position) (i : ProgramId) (h : Handle) : (s.admitEntry l e p i h).startTimer = s.startTimer := by simp [State.admitEntry]
@[simp] theorem State.admitEntry_timestamp (s : State) (l : LaneId) (e : Entry) (p : Position) (i : ProgramId) (h : Handle) : (s.admitEntry l e p i h).timestamp = s.timestamp := by simp [State.admitEntry]
@[simp] theorem State.admitEntry_halfTick (s : State) (l : LaneId) (e : Entry) (p : Position) (i : ProgramId) (h : Handle) : (s.admitEntry l e p i h).halfTick = s.halfTick := by simp [State.admitEntry]
@[simp] theorem State.admitEntry_encoders (s : State) (l : LaneId) (e : Entry) (p : Position) (i : ProgramId) (h : Handle) : (s.admitEntry l e p i h).encoders = s.encoders := by simp [State.admitEntry]
@[simp] theorem State.admitEntry_pacers (s : State) (l : LaneId) (e : Entry) (p : Position) (i : ProgramId) (h : Handle) : (s.admitEntry l e p i h).pacers = s.pacers := by simp [State.admitEntry]
@[simp] theorem State.admitEntry_updateHold (s : State) (l : LaneId) (e : Entry) (p : Position) (i : ProgramId) (h : Handle) : (s.admitEntry l e p i h).updateHold = s.updateHold := by simp [State.admitEntry]
@[simp] theorem State.admitEntry_runs (s : State) (l : LaneId) (e : Entry) (p : Position) (i : ProgramId) (h : Handle) : (s.admitEntry l e p i h).runs = s.runs := by simp [State.admitEntry]
@[simp] theorem State.admitEntry_outputs (s : State) (l : LaneId) (e : Entry) (p : Position) (i : ProgramId) (h : Handle) : (s.admitEntry l e p i h).outputs = s.outputs := by simp [State.admitEntry]
@[simp] theorem State.admitEntry_cameras (s : State) (l : LaneId) (e : Entry) (p : Position) (i : ProgramId) (h : Handle) : (s.admitEntry l e p i h).cameras = s.cameras := by simp [State.admitEntry]
@[simp] theorem State.admitEntry_safes (s : State) (l : LaneId) (e : Entry) (p : Position) (i : ProgramId) (h : Handle) : (s.admitEntry l e p i h).safes = s.safes := by simp [State.admitEntry]
@[simp] theorem State.admitEntry_unlock (s : State) (l : LaneId) (e : Entry) (p : Position) (i : ProgramId) (h : Handle) : (s.admitEntry l e p i h).unlock = s.unlock := by simp [State.admitEntry]
@[simp] theorem State.admitEntry_outcomes (s : State) (l : LaneId) (e : Entry) (p : Position) (i : ProgramId) (h : Handle) : (s.admitEntry l e p i h).outcomes = s.outcomes := by simp [State.admitEntry]
@[simp] theorem State.admitEntry_alarms (s : State) (l : LaneId) (e : Entry) (p : Position) (i : ProgramId) (h : Handle) : (s.admitEntry l e p i h).alarms = s.alarms := by simp [State.admitEntry]
@[simp] theorem State.admitEntry_link (s : State) (l : LaneId) (e : Entry) (p : Position) (i : ProgramId) (h : Handle) : (s.admitEntry l e p i h).link = s.link := by simp [State.admitEntry]
@[simp] theorem State.admitEntry_arbiter (s : State) (l : LaneId) (e : Entry) (p : Position) (i : ProgramId) (h : Handle) : (s.admitEntry l e p i h).arbiter = s.arbiter := by simp [State.admitEntry]
@[simp] theorem State.admitEntry_pending (s : State) (l : LaneId) (e : Entry) (p : Position) (i : ProgramId) (h : Handle) : (s.admitEntry l e p i h).pending = s.pending := by simp [State.admitEntry]

/-! ## amendShot -/

@[simp] theorem State.amendShot_phase (s : State) (a : AmendSet) : (s.amendShot a).phase = s.phase := by unfold State.amendShot; split <;> simp
@[simp] theorem State.amendShot_startTimer (s : State) (a : AmendSet) : (s.amendShot a).startTimer = s.startTimer := by unfold State.amendShot; split <;> simp
@[simp] theorem State.amendShot_timestamp (s : State) (a : AmendSet) : (s.amendShot a).timestamp = s.timestamp := by unfold State.amendShot; split <;> simp
@[simp] theorem State.amendShot_halfTick (s : State) (a : AmendSet) : (s.amendShot a).halfTick = s.halfTick := by unfold State.amendShot; split <;> simp
@[simp] theorem State.amendShot_encoders (s : State) (a : AmendSet) : (s.amendShot a).encoders = s.encoders := by unfold State.amendShot; split <;> simp
@[simp] theorem State.amendShot_pacers (s : State) (a : AmendSet) : (s.amendShot a).pacers = s.pacers := by unfold State.amendShot; split <;> simp
@[simp] theorem State.amendShot_lanes (s : State) (a : AmendSet) : (s.amendShot a).lanes = s.lanes := by unfold State.amendShot; split <;> simp
@[simp] theorem State.amendShot_updateHold (s : State) (a : AmendSet) : (s.amendShot a).updateHold = s.updateHold := by unfold State.amendShot; split <;> simp
@[simp] theorem State.amendShot_runs (s : State) (a : AmendSet) : (s.amendShot a).runs = s.runs := by unfold State.amendShot; split <;> simp
@[simp] theorem State.amendShot_outputs (s : State) (a : AmendSet) : (s.amendShot a).outputs = s.outputs := by unfold State.amendShot; split <;> simp
@[simp] theorem State.amendShot_cameras (s : State) (a : AmendSet) : (s.amendShot a).cameras = s.cameras := by unfold State.amendShot; split <;> simp
@[simp] theorem State.amendShot_safes (s : State) (a : AmendSet) : (s.amendShot a).safes = s.safes := by unfold State.amendShot; split <;> simp
@[simp] theorem State.amendShot_unlock (s : State) (a : AmendSet) : (s.amendShot a).unlock = s.unlock := by unfold State.amendShot; split <;> simp
@[simp] theorem State.amendShot_outcomes (s : State) (a : AmendSet) : (s.amendShot a).outcomes = s.outcomes := by unfold State.amendShot; split <;> simp
@[simp] theorem State.amendShot_alarms (s : State) (a : AmendSet) : (s.amendShot a).alarms = s.alarms := by unfold State.amendShot; split <;> simp
@[simp] theorem State.amendShot_link (s : State) (a : AmendSet) : (s.amendShot a).link = s.link := by unfold State.amendShot; split <;> simp
@[simp] theorem State.amendShot_arbiter (s : State) (a : AmendSet) : (s.amendShot a).arbiter = s.arbiter := by unfold State.amendShot; split <;> simp
@[simp] theorem State.amendShot_pending (s : State) (a : AmendSet) : (s.amendShot a).pending = s.pending := by unfold State.amendShot; split <;> simp

/-! ## storeVersion -/

@[simp] theorem State.storeVersion_phase (s : State) (i : ProgramId) (v : Version) : (s.storeVersion i v).phase = s.phase := by unfold State.storeVersion; split <;> simp
@[simp] theorem State.storeVersion_startTimer (s : State) (i : ProgramId) (v : Version) : (s.storeVersion i v).startTimer = s.startTimer := by unfold State.storeVersion; split <;> simp
@[simp] theorem State.storeVersion_timestamp (s : State) (i : ProgramId) (v : Version) : (s.storeVersion i v).timestamp = s.timestamp := by unfold State.storeVersion; split <;> simp
@[simp] theorem State.storeVersion_halfTick (s : State) (i : ProgramId) (v : Version) : (s.storeVersion i v).halfTick = s.halfTick := by unfold State.storeVersion; split <;> simp
@[simp] theorem State.storeVersion_encoders (s : State) (i : ProgramId) (v : Version) : (s.storeVersion i v).encoders = s.encoders := by unfold State.storeVersion; split <;> simp
@[simp] theorem State.storeVersion_pacers (s : State) (i : ProgramId) (v : Version) : (s.storeVersion i v).pacers = s.pacers := by unfold State.storeVersion; split <;> simp
@[simp] theorem State.storeVersion_lanes (s : State) (i : ProgramId) (v : Version) : (s.storeVersion i v).lanes = s.lanes := by unfold State.storeVersion; split <;> simp
@[simp] theorem State.storeVersion_slots (s : State) (i : ProgramId) (v : Version) : (s.storeVersion i v).slots = s.slots := by unfold State.storeVersion; split <;> simp
@[simp] theorem State.storeVersion_updateHold (s : State) (i : ProgramId) (v : Version) : (s.storeVersion i v).updateHold = s.updateHold := by unfold State.storeVersion; split <;> simp
@[simp] theorem State.storeVersion_runs (s : State) (i : ProgramId) (v : Version) : (s.storeVersion i v).runs = s.runs := by unfold State.storeVersion; split <;> simp
@[simp] theorem State.storeVersion_outputs (s : State) (i : ProgramId) (v : Version) : (s.storeVersion i v).outputs = s.outputs := by unfold State.storeVersion; split <;> simp
@[simp] theorem State.storeVersion_cameras (s : State) (i : ProgramId) (v : Version) : (s.storeVersion i v).cameras = s.cameras := by unfold State.storeVersion; split <;> simp
@[simp] theorem State.storeVersion_safes (s : State) (i : ProgramId) (v : Version) : (s.storeVersion i v).safes = s.safes := by unfold State.storeVersion; split <;> simp
@[simp] theorem State.storeVersion_unlock (s : State) (i : ProgramId) (v : Version) : (s.storeVersion i v).unlock = s.unlock := by unfold State.storeVersion; split <;> simp
@[simp] theorem State.storeVersion_outcomes (s : State) (i : ProgramId) (v : Version) : (s.storeVersion i v).outcomes = s.outcomes := by unfold State.storeVersion; split <;> simp
@[simp] theorem State.storeVersion_alarms (s : State) (i : ProgramId) (v : Version) : (s.storeVersion i v).alarms = s.alarms := by unfold State.storeVersion; split <;> simp
@[simp] theorem State.storeVersion_link (s : State) (i : ProgramId) (v : Version) : (s.storeVersion i v).link = s.link := by unfold State.storeVersion; split <;> simp
@[simp] theorem State.storeVersion_arbiter (s : State) (i : ProgramId) (v : Version) : (s.storeVersion i v).arbiter = s.arbiter := by unfold State.storeVersion; split <;> simp
@[simp] theorem State.storeVersion_pending (s : State) (i : ProgramId) (v : Version) : (s.storeVersion i v).pending = s.pending := by unfold State.storeVersion; split <;> simp

/-! ## dropHolds -/

@[simp] theorem State.dropHolds_phase (s : State) (o : OutputId) : (s.dropHolds o).phase = s.phase := rfl
@[simp] theorem State.dropHolds_startTimer (s : State) (o : OutputId) : (s.dropHolds o).startTimer = s.startTimer := rfl
@[simp] theorem State.dropHolds_timestamp (s : State) (o : OutputId) : (s.dropHolds o).timestamp = s.timestamp := rfl
@[simp] theorem State.dropHolds_halfTick (s : State) (o : OutputId) : (s.dropHolds o).halfTick = s.halfTick := rfl
@[simp] theorem State.dropHolds_encoders (s : State) (o : OutputId) : (s.dropHolds o).encoders = s.encoders := rfl
@[simp] theorem State.dropHolds_pacers (s : State) (o : OutputId) : (s.dropHolds o).pacers = s.pacers := rfl
@[simp] theorem State.dropHolds_lanes (s : State) (o : OutputId) : (s.dropHolds o).lanes = s.lanes := rfl
@[simp] theorem State.dropHolds_slots (s : State) (o : OutputId) : (s.dropHolds o).slots = s.slots := rfl
@[simp] theorem State.dropHolds_programs (s : State) (o : OutputId) : (s.dropHolds o).programs = s.programs := rfl
@[simp] theorem State.dropHolds_updateHold (s : State) (o : OutputId) : (s.dropHolds o).updateHold = s.updateHold := rfl
@[simp] theorem State.dropHolds_outputs (s : State) (o : OutputId) : (s.dropHolds o).outputs = s.outputs := rfl
@[simp] theorem State.dropHolds_cameras (s : State) (o : OutputId) : (s.dropHolds o).cameras = s.cameras := rfl
@[simp] theorem State.dropHolds_safes (s : State) (o : OutputId) : (s.dropHolds o).safes = s.safes := rfl
@[simp] theorem State.dropHolds_unlock (s : State) (o : OutputId) : (s.dropHolds o).unlock = s.unlock := rfl
@[simp] theorem State.dropHolds_outcomes (s : State) (o : OutputId) : (s.dropHolds o).outcomes = s.outcomes := rfl
@[simp] theorem State.dropHolds_alarms (s : State) (o : OutputId) : (s.dropHolds o).alarms = s.alarms := rfl
@[simp] theorem State.dropHolds_link (s : State) (o : OutputId) : (s.dropHolds o).link = s.link := rfl
@[simp] theorem State.dropHolds_arbiter (s : State) (o : OutputId) : (s.dropHolds o).arbiter = s.arbiter := rfl
@[simp] theorem State.dropHolds_pending (s : State) (o : OutputId) : (s.dropHolds o).pending = s.pending := rfl

/-! ## writeOutput -/

@[simp] theorem State.writeOutput_phase (s : State) (o : OutputId) (p : Polarity) (m : OutputMode) : (s.writeOutput o p m).phase = s.phase := by unfold State.writeOutput; (repeat' first | split | (dsimp only; split)) <;> simp
@[simp] theorem State.writeOutput_startTimer (s : State) (o : OutputId) (p : Polarity) (m : OutputMode) : (s.writeOutput o p m).startTimer = s.startTimer := by unfold State.writeOutput; (repeat' first | split | (dsimp only; split)) <;> simp
@[simp] theorem State.writeOutput_timestamp (s : State) (o : OutputId) (p : Polarity) (m : OutputMode) : (s.writeOutput o p m).timestamp = s.timestamp := by unfold State.writeOutput; (repeat' first | split | (dsimp only; split)) <;> simp
@[simp] theorem State.writeOutput_halfTick (s : State) (o : OutputId) (p : Polarity) (m : OutputMode) : (s.writeOutput o p m).halfTick = s.halfTick := by unfold State.writeOutput; (repeat' first | split | (dsimp only; split)) <;> simp
@[simp] theorem State.writeOutput_encoders (s : State) (o : OutputId) (p : Polarity) (m : OutputMode) : (s.writeOutput o p m).encoders = s.encoders := by unfold State.writeOutput; (repeat' first | split | (dsimp only; split)) <;> simp
@[simp] theorem State.writeOutput_pacers (s : State) (o : OutputId) (p : Polarity) (m : OutputMode) : (s.writeOutput o p m).pacers = s.pacers := by unfold State.writeOutput; (repeat' first | split | (dsimp only; split)) <;> simp
@[simp] theorem State.writeOutput_lanes (s : State) (o : OutputId) (p : Polarity) (m : OutputMode) : (s.writeOutput o p m).lanes = s.lanes := by unfold State.writeOutput; (repeat' first | split | (dsimp only; split)) <;> simp
@[simp] theorem State.writeOutput_slots (s : State) (o : OutputId) (p : Polarity) (m : OutputMode) : (s.writeOutput o p m).slots = s.slots := by unfold State.writeOutput; (repeat' first | split | (dsimp only; split)) <;> simp
@[simp] theorem State.writeOutput_programs (s : State) (o : OutputId) (p : Polarity) (m : OutputMode) : (s.writeOutput o p m).programs = s.programs := by unfold State.writeOutput; (repeat' first | split | (dsimp only; split)) <;> simp
@[simp] theorem State.writeOutput_updateHold (s : State) (o : OutputId) (p : Polarity) (m : OutputMode) : (s.writeOutput o p m).updateHold = s.updateHold := by unfold State.writeOutput; (repeat' first | split | (dsimp only; split)) <;> simp
@[simp] theorem State.writeOutput_cameras (s : State) (o : OutputId) (p : Polarity) (m : OutputMode) : (s.writeOutput o p m).cameras = s.cameras := by unfold State.writeOutput; (repeat' first | split | (dsimp only; split)) <;> simp
@[simp] theorem State.writeOutput_safes (s : State) (o : OutputId) (p : Polarity) (m : OutputMode) : (s.writeOutput o p m).safes = s.safes := by unfold State.writeOutput; (repeat' first | split | (dsimp only; split)) <;> simp
@[simp] theorem State.writeOutput_unlock (s : State) (o : OutputId) (p : Polarity) (m : OutputMode) : (s.writeOutput o p m).unlock = s.unlock := by unfold State.writeOutput; (repeat' first | split | (dsimp only; split)) <;> simp
@[simp] theorem State.writeOutput_outcomes (s : State) (o : OutputId) (p : Polarity) (m : OutputMode) : (s.writeOutput o p m).outcomes = s.outcomes := by unfold State.writeOutput; (repeat' first | split | (dsimp only; split)) <;> simp
@[simp] theorem State.writeOutput_alarms (s : State) (o : OutputId) (p : Polarity) (m : OutputMode) : (s.writeOutput o p m).alarms = s.alarms := by unfold State.writeOutput; (repeat' first | split | (dsimp only; split)) <;> simp
@[simp] theorem State.writeOutput_link (s : State) (o : OutputId) (p : Polarity) (m : OutputMode) : (s.writeOutput o p m).link = s.link := by unfold State.writeOutput; (repeat' first | split | (dsimp only; split)) <;> simp
@[simp] theorem State.writeOutput_arbiter (s : State) (o : OutputId) (p : Polarity) (m : OutputMode) : (s.writeOutput o p m).arbiter = s.arbiter := by unfold State.writeOutput; (repeat' first | split | (dsimp only; split)) <;> simp
@[simp] theorem State.writeOutput_pending (s : State) (o : OutputId) (p : Polarity) (m : OutputMode) : (s.writeOutput o p m).pending = s.pending := by unfold State.writeOutput; (repeat' first | split | (dsimp only; split)) <;> simp

/-! ## protectOutputs -/

@[simp] theorem State.protectOutputs_phase (s : State) (x : Nat) (b : Bool) : (s.protectOutputs x b).phase = s.phase := rfl
@[simp] theorem State.protectOutputs_startTimer (s : State) (x : Nat) (b : Bool) : (s.protectOutputs x b).startTimer = s.startTimer := rfl
@[simp] theorem State.protectOutputs_timestamp (s : State) (x : Nat) (b : Bool) : (s.protectOutputs x b).timestamp = s.timestamp := rfl
@[simp] theorem State.protectOutputs_halfTick (s : State) (x : Nat) (b : Bool) : (s.protectOutputs x b).halfTick = s.halfTick := rfl
@[simp] theorem State.protectOutputs_encoders (s : State) (x : Nat) (b : Bool) : (s.protectOutputs x b).encoders = s.encoders := rfl
@[simp] theorem State.protectOutputs_pacers (s : State) (x : Nat) (b : Bool) : (s.protectOutputs x b).pacers = s.pacers := rfl
@[simp] theorem State.protectOutputs_lanes (s : State) (x : Nat) (b : Bool) : (s.protectOutputs x b).lanes = s.lanes := rfl
@[simp] theorem State.protectOutputs_slots (s : State) (x : Nat) (b : Bool) : (s.protectOutputs x b).slots = s.slots := rfl
@[simp] theorem State.protectOutputs_programs (s : State) (x : Nat) (b : Bool) : (s.protectOutputs x b).programs = s.programs := rfl
@[simp] theorem State.protectOutputs_updateHold (s : State) (x : Nat) (b : Bool) : (s.protectOutputs x b).updateHold = s.updateHold := rfl
@[simp] theorem State.protectOutputs_runs (s : State) (x : Nat) (b : Bool) : (s.protectOutputs x b).runs = s.runs := rfl
@[simp] theorem State.protectOutputs_cameras (s : State) (x : Nat) (b : Bool) : (s.protectOutputs x b).cameras = s.cameras := rfl
@[simp] theorem State.protectOutputs_safes (s : State) (x : Nat) (b : Bool) : (s.protectOutputs x b).safes = s.safes := rfl
@[simp] theorem State.protectOutputs_unlock (s : State) (x : Nat) (b : Bool) : (s.protectOutputs x b).unlock = s.unlock := rfl
@[simp] theorem State.protectOutputs_outcomes (s : State) (x : Nat) (b : Bool) : (s.protectOutputs x b).outcomes = s.outcomes := rfl
@[simp] theorem State.protectOutputs_alarms (s : State) (x : Nat) (b : Bool) : (s.protectOutputs x b).alarms = s.alarms := rfl
@[simp] theorem State.protectOutputs_link (s : State) (x : Nat) (b : Bool) : (s.protectOutputs x b).link = s.link := rfl
@[simp] theorem State.protectOutputs_arbiter (s : State) (x : Nat) (b : Bool) : (s.protectOutputs x b).arbiter = s.arbiter := rfl
@[simp] theorem State.protectOutputs_pending (s : State) (x : Nat) (b : Bool) : (s.protectOutputs x b).pending = s.pending := rfl

/-! ## endIfResolved -/

@[simp] theorem State.endIfResolved_phase (s : State) (h : Handle) : (s.endIfResolved h).phase = s.phase := by unfold State.endIfResolved; (repeat' first | split | (dsimp only; split)) <;> simp
@[simp] theorem State.endIfResolved_startTimer (s : State) (h : Handle) : (s.endIfResolved h).startTimer = s.startTimer := by unfold State.endIfResolved; (repeat' first | split | (dsimp only; split)) <;> simp
@[simp] theorem State.endIfResolved_timestamp (s : State) (h : Handle) : (s.endIfResolved h).timestamp = s.timestamp := by unfold State.endIfResolved; (repeat' first | split | (dsimp only; split)) <;> simp
@[simp] theorem State.endIfResolved_halfTick (s : State) (h : Handle) : (s.endIfResolved h).halfTick = s.halfTick := by unfold State.endIfResolved; (repeat' first | split | (dsimp only; split)) <;> simp
@[simp] theorem State.endIfResolved_encoders (s : State) (h : Handle) : (s.endIfResolved h).encoders = s.encoders := by unfold State.endIfResolved; (repeat' first | split | (dsimp only; split)) <;> simp
@[simp] theorem State.endIfResolved_pacers (s : State) (h : Handle) : (s.endIfResolved h).pacers = s.pacers := by unfold State.endIfResolved; (repeat' first | split | (dsimp only; split)) <;> simp
@[simp] theorem State.endIfResolved_lanes (s : State) (h : Handle) : (s.endIfResolved h).lanes = s.lanes := by unfold State.endIfResolved; (repeat' first | split | (dsimp only; split)) <;> simp
@[simp] theorem State.endIfResolved_programs (s : State) (h : Handle) : (s.endIfResolved h).programs = s.programs := by unfold State.endIfResolved; (repeat' first | split | (dsimp only; split)) <;> simp
@[simp] theorem State.endIfResolved_updateHold (s : State) (h : Handle) : (s.endIfResolved h).updateHold = s.updateHold := by unfold State.endIfResolved; (repeat' first | split | (dsimp only; split)) <;> simp
@[simp] theorem State.endIfResolved_runs (s : State) (h : Handle) : (s.endIfResolved h).runs = s.runs := by unfold State.endIfResolved; (repeat' first | split | (dsimp only; split)) <;> simp
@[simp] theorem State.endIfResolved_outputs (s : State) (h : Handle) : (s.endIfResolved h).outputs = s.outputs := by unfold State.endIfResolved; (repeat' first | split | (dsimp only; split)) <;> simp
@[simp] theorem State.endIfResolved_cameras (s : State) (h : Handle) : (s.endIfResolved h).cameras = s.cameras := by unfold State.endIfResolved; (repeat' first | split | (dsimp only; split)) <;> simp
@[simp] theorem State.endIfResolved_safes (s : State) (h : Handle) : (s.endIfResolved h).safes = s.safes := by unfold State.endIfResolved; (repeat' first | split | (dsimp only; split)) <;> simp
@[simp] theorem State.endIfResolved_unlock (s : State) (h : Handle) : (s.endIfResolved h).unlock = s.unlock := by unfold State.endIfResolved; (repeat' first | split | (dsimp only; split)) <;> simp
@[simp] theorem State.endIfResolved_arbiter (s : State) (h : Handle) : (s.endIfResolved h).arbiter = s.arbiter := by unfold State.endIfResolved; (repeat' first | split | (dsimp only; split)) <;> simp
@[simp] theorem State.endIfResolved_pending (s : State) (h : Handle) : (s.endIfResolved h).pending = s.pending := by unfold State.endIfResolved; (repeat' first | split | (dsimp only; split)) <;> simp

/-! ## frameStarted -/

@[simp] theorem State.frameStarted_phase (s : State) (c : CameraId) : (s.frameStarted c).phase = s.phase := by unfold State.frameStarted; (repeat' first | split | (dsimp only; split)) <;> simp
@[simp] theorem State.frameStarted_startTimer (s : State) (c : CameraId) : (s.frameStarted c).startTimer = s.startTimer := by unfold State.frameStarted; (repeat' first | split | (dsimp only; split)) <;> simp
@[simp] theorem State.frameStarted_timestamp (s : State) (c : CameraId) : (s.frameStarted c).timestamp = s.timestamp := by unfold State.frameStarted; (repeat' first | split | (dsimp only; split)) <;> simp
@[simp] theorem State.frameStarted_halfTick (s : State) (c : CameraId) : (s.frameStarted c).halfTick = s.halfTick := by unfold State.frameStarted; (repeat' first | split | (dsimp only; split)) <;> simp
@[simp] theorem State.frameStarted_encoders (s : State) (c : CameraId) : (s.frameStarted c).encoders = s.encoders := by unfold State.frameStarted; (repeat' first | split | (dsimp only; split)) <;> simp
@[simp] theorem State.frameStarted_pacers (s : State) (c : CameraId) : (s.frameStarted c).pacers = s.pacers := by unfold State.frameStarted; (repeat' first | split | (dsimp only; split)) <;> simp
@[simp] theorem State.frameStarted_lanes (s : State) (c : CameraId) : (s.frameStarted c).lanes = s.lanes := by unfold State.frameStarted; (repeat' first | split | (dsimp only; split)) <;> simp
@[simp] theorem State.frameStarted_programs (s : State) (c : CameraId) : (s.frameStarted c).programs = s.programs := by unfold State.frameStarted; (repeat' first | split | (dsimp only; split)) <;> simp
@[simp] theorem State.frameStarted_updateHold (s : State) (c : CameraId) : (s.frameStarted c).updateHold = s.updateHold := by unfold State.frameStarted; (repeat' first | split | (dsimp only; split)) <;> simp
@[simp] theorem State.frameStarted_runs (s : State) (c : CameraId) : (s.frameStarted c).runs = s.runs := by unfold State.frameStarted; (repeat' first | split | (dsimp only; split)) <;> simp
@[simp] theorem State.frameStarted_outputs (s : State) (c : CameraId) : (s.frameStarted c).outputs = s.outputs := by unfold State.frameStarted; (repeat' first | split | (dsimp only; split)) <;> simp
@[simp] theorem State.frameStarted_safes (s : State) (c : CameraId) : (s.frameStarted c).safes = s.safes := by unfold State.frameStarted; (repeat' first | split | (dsimp only; split)) <;> simp
@[simp] theorem State.frameStarted_unlock (s : State) (c : CameraId) : (s.frameStarted c).unlock = s.unlock := by unfold State.frameStarted; (repeat' first | split | (dsimp only; split)) <;> simp
@[simp] theorem State.frameStarted_arbiter (s : State) (c : CameraId) : (s.frameStarted c).arbiter = s.arbiter := by unfold State.frameStarted; (repeat' first | split | (dsimp only; split)) <;> simp
@[simp] theorem State.frameStarted_pending (s : State) (c : CameraId) : (s.frameStarted c).pending = s.pending := by unfold State.frameStarted; (repeat' first | split | (dsimp only; split)) <;> simp

/-! ## expireOldest -/

@[simp] theorem State.expireOldest_phase (s : State) (c : CameraId) : (s.expireOldest c).phase = s.phase := by unfold State.expireOldest; dsimp only; split <;> simp
@[simp] theorem State.expireOldest_startTimer (s : State) (c : CameraId) : (s.expireOldest c).startTimer = s.startTimer := by unfold State.expireOldest; dsimp only; split <;> simp
@[simp] theorem State.expireOldest_timestamp (s : State) (c : CameraId) : (s.expireOldest c).timestamp = s.timestamp := by unfold State.expireOldest; dsimp only; split <;> simp
@[simp] theorem State.expireOldest_halfTick (s : State) (c : CameraId) : (s.expireOldest c).halfTick = s.halfTick := by unfold State.expireOldest; dsimp only; split <;> simp
@[simp] theorem State.expireOldest_encoders (s : State) (c : CameraId) : (s.expireOldest c).encoders = s.encoders := by unfold State.expireOldest; dsimp only; split <;> simp
@[simp] theorem State.expireOldest_pacers (s : State) (c : CameraId) : (s.expireOldest c).pacers = s.pacers := by unfold State.expireOldest; dsimp only; split <;> simp
@[simp] theorem State.expireOldest_lanes (s : State) (c : CameraId) : (s.expireOldest c).lanes = s.lanes := by unfold State.expireOldest; dsimp only; split <;> simp
@[simp] theorem State.expireOldest_programs (s : State) (c : CameraId) : (s.expireOldest c).programs = s.programs := by unfold State.expireOldest; dsimp only; split <;> simp
@[simp] theorem State.expireOldest_updateHold (s : State) (c : CameraId) : (s.expireOldest c).updateHold = s.updateHold := by unfold State.expireOldest; dsimp only; split <;> simp
@[simp] theorem State.expireOldest_runs (s : State) (c : CameraId) : (s.expireOldest c).runs = s.runs := by unfold State.expireOldest; dsimp only; split <;> simp
@[simp] theorem State.expireOldest_outputs (s : State) (c : CameraId) : (s.expireOldest c).outputs = s.outputs := by unfold State.expireOldest; dsimp only; split <;> simp
@[simp] theorem State.expireOldest_safes (s : State) (c : CameraId) : (s.expireOldest c).safes = s.safes := by unfold State.expireOldest; dsimp only; split <;> simp
@[simp] theorem State.expireOldest_unlock (s : State) (c : CameraId) : (s.expireOldest c).unlock = s.unlock := by unfold State.expireOldest; dsimp only; split <;> simp
@[simp] theorem State.expireOldest_arbiter (s : State) (c : CameraId) : (s.expireOldest c).arbiter = s.arbiter := by unfold State.expireOldest; dsimp only; split <;> simp
@[simp] theorem State.expireOldest_pending (s : State) (c : CameraId) : (s.expireOldest c).pending = s.pending := by unfold State.expireOldest; dsimp only; split <;> simp

/-! ## clearAlarms -/

@[simp] theorem State.clearAlarms_phase (s : State) (b : BitVec 16) : (s.clearAlarms b).phase = s.phase := rfl
@[simp] theorem State.clearAlarms_startTimer (s : State) (b : BitVec 16) : (s.clearAlarms b).startTimer = s.startTimer := rfl
@[simp] theorem State.clearAlarms_timestamp (s : State) (b : BitVec 16) : (s.clearAlarms b).timestamp = s.timestamp := rfl
@[simp] theorem State.clearAlarms_halfTick (s : State) (b : BitVec 16) : (s.clearAlarms b).halfTick = s.halfTick := rfl
@[simp] theorem State.clearAlarms_encoders (s : State) (b : BitVec 16) : (s.clearAlarms b).encoders = s.encoders := rfl
@[simp] theorem State.clearAlarms_pacers (s : State) (b : BitVec 16) : (s.clearAlarms b).pacers = s.pacers := rfl
@[simp] theorem State.clearAlarms_lanes (s : State) (b : BitVec 16) : (s.clearAlarms b).lanes = s.lanes := rfl
@[simp] theorem State.clearAlarms_slots (s : State) (b : BitVec 16) : (s.clearAlarms b).slots = s.slots := rfl
@[simp] theorem State.clearAlarms_programs (s : State) (b : BitVec 16) : (s.clearAlarms b).programs = s.programs := rfl
@[simp] theorem State.clearAlarms_updateHold (s : State) (b : BitVec 16) : (s.clearAlarms b).updateHold = s.updateHold := rfl
@[simp] theorem State.clearAlarms_runs (s : State) (b : BitVec 16) : (s.clearAlarms b).runs = s.runs := rfl
@[simp] theorem State.clearAlarms_outputs (s : State) (b : BitVec 16) : (s.clearAlarms b).outputs = s.outputs := rfl
@[simp] theorem State.clearAlarms_cameras (s : State) (b : BitVec 16) : (s.clearAlarms b).cameras = s.cameras := rfl
@[simp] theorem State.clearAlarms_safes (s : State) (b : BitVec 16) : (s.clearAlarms b).safes = s.safes := rfl
@[simp] theorem State.clearAlarms_unlock (s : State) (b : BitVec 16) : (s.clearAlarms b).unlock = s.unlock := rfl
@[simp] theorem State.clearAlarms_outcomes (s : State) (b : BitVec 16) : (s.clearAlarms b).outcomes = s.outcomes := rfl
@[simp] theorem State.clearAlarms_link (s : State) (b : BitVec 16) : (s.clearAlarms b).link = s.link := rfl
@[simp] theorem State.clearAlarms_arbiter (s : State) (b : BitVec 16) : (s.clearAlarms b).arbiter = s.arbiter := rfl
@[simp] theorem State.clearAlarms_pending (s : State) (b : BitVec 16) : (s.clearAlarms b).pending = s.pending := rfl

/-! ## forceInactive -/

@[simp] theorem State.forceInactive_phase (s : State) (b : BitVec 12) : (s.forceInactive b).phase = s.phase := rfl
@[simp] theorem State.forceInactive_startTimer (s : State) (b : BitVec 12) : (s.forceInactive b).startTimer = s.startTimer := rfl
@[simp] theorem State.forceInactive_timestamp (s : State) (b : BitVec 12) : (s.forceInactive b).timestamp = s.timestamp := rfl
@[simp] theorem State.forceInactive_halfTick (s : State) (b : BitVec 12) : (s.forceInactive b).halfTick = s.halfTick := rfl
@[simp] theorem State.forceInactive_encoders (s : State) (b : BitVec 12) : (s.forceInactive b).encoders = s.encoders := rfl
@[simp] theorem State.forceInactive_pacers (s : State) (b : BitVec 12) : (s.forceInactive b).pacers = s.pacers := rfl
@[simp] theorem State.forceInactive_lanes (s : State) (b : BitVec 12) : (s.forceInactive b).lanes = s.lanes := rfl
@[simp] theorem State.forceInactive_slots (s : State) (b : BitVec 12) : (s.forceInactive b).slots = s.slots := rfl
@[simp] theorem State.forceInactive_programs (s : State) (b : BitVec 12) : (s.forceInactive b).programs = s.programs := rfl
@[simp] theorem State.forceInactive_updateHold (s : State) (b : BitVec 12) : (s.forceInactive b).updateHold = s.updateHold := rfl
@[simp] theorem State.forceInactive_runs (s : State) (b : BitVec 12) : (s.forceInactive b).runs = s.runs := rfl
@[simp] theorem State.forceInactive_cameras (s : State) (b : BitVec 12) : (s.forceInactive b).cameras = s.cameras := rfl
@[simp] theorem State.forceInactive_safes (s : State) (b : BitVec 12) : (s.forceInactive b).safes = s.safes := rfl
@[simp] theorem State.forceInactive_unlock (s : State) (b : BitVec 12) : (s.forceInactive b).unlock = s.unlock := rfl
@[simp] theorem State.forceInactive_outcomes (s : State) (b : BitVec 12) : (s.forceInactive b).outcomes = s.outcomes := rfl
@[simp] theorem State.forceInactive_alarms (s : State) (b : BitVec 12) : (s.forceInactive b).alarms = s.alarms := rfl
@[simp] theorem State.forceInactive_link (s : State) (b : BitVec 12) : (s.forceInactive b).link = s.link := rfl
@[simp] theorem State.forceInactive_arbiter (s : State) (b : BitVec 12) : (s.forceInactive b).arbiter = s.arbiter := rfl
@[simp] theorem State.forceInactive_pending (s : State) (b : BitVec 12) : (s.forceInactive b).pending = s.pending := rfl

/-! ## holdOutputs -/

@[simp] theorem State.holdOutputs_phase (s : State) (b : BitVec 12) : (s.holdOutputs b).phase = s.phase := by simp [State.holdOutputs]
@[simp] theorem State.holdOutputs_startTimer (s : State) (b : BitVec 12) : (s.holdOutputs b).startTimer = s.startTimer := by simp [State.holdOutputs]
@[simp] theorem State.holdOutputs_timestamp (s : State) (b : BitVec 12) : (s.holdOutputs b).timestamp = s.timestamp := by simp [State.holdOutputs]
@[simp] theorem State.holdOutputs_halfTick (s : State) (b : BitVec 12) : (s.holdOutputs b).halfTick = s.halfTick := by simp [State.holdOutputs]
@[simp] theorem State.holdOutputs_encoders (s : State) (b : BitVec 12) : (s.holdOutputs b).encoders = s.encoders := by simp [State.holdOutputs]
@[simp] theorem State.holdOutputs_pacers (s : State) (b : BitVec 12) : (s.holdOutputs b).pacers = s.pacers := by simp [State.holdOutputs]
@[simp] theorem State.holdOutputs_lanes (s : State) (b : BitVec 12) : (s.holdOutputs b).lanes = s.lanes := by simp [State.holdOutputs]
@[simp] theorem State.holdOutputs_programs (s : State) (b : BitVec 12) : (s.holdOutputs b).programs = s.programs := by simp [State.holdOutputs]
@[simp] theorem State.holdOutputs_updateHold (s : State) (b : BitVec 12) : (s.holdOutputs b).updateHold = s.updateHold := by simp [State.holdOutputs]
@[simp] theorem State.holdOutputs_cameras (s : State) (b : BitVec 12) : (s.holdOutputs b).cameras = s.cameras := by simp [State.holdOutputs]
@[simp] theorem State.holdOutputs_safes (s : State) (b : BitVec 12) : (s.holdOutputs b).safes = s.safes := by simp [State.holdOutputs]
@[simp] theorem State.holdOutputs_unlock (s : State) (b : BitVec 12) : (s.holdOutputs b).unlock = s.unlock := by simp [State.holdOutputs]
@[simp] theorem State.holdOutputs_arbiter (s : State) (b : BitVec 12) : (s.holdOutputs b).arbiter = s.arbiter := by simp [State.holdOutputs]
@[simp] theorem State.holdOutputs_pending (s : State) (b : BitVec 12) : (s.holdOutputs b).pending = s.pending := by simp [State.holdOutputs]

/-! ## onset -/

@[simp] theorem State.onset_phase (s : State) (n : SafeId) : (s.onset n).phase = s.phase := by simp [State.onset]
@[simp] theorem State.onset_startTimer (s : State) (n : SafeId) : (s.onset n).startTimer = s.startTimer := by simp [State.onset]
@[simp] theorem State.onset_timestamp (s : State) (n : SafeId) : (s.onset n).timestamp = s.timestamp := by simp [State.onset]
@[simp] theorem State.onset_halfTick (s : State) (n : SafeId) : (s.onset n).halfTick = s.halfTick := by simp [State.onset]
@[simp] theorem State.onset_encoders (s : State) (n : SafeId) : (s.onset n).encoders = s.encoders := by simp [State.onset]
@[simp] theorem State.onset_pacers (s : State) (n : SafeId) : (s.onset n).pacers = s.pacers := by simp [State.onset]
@[simp] theorem State.onset_programs (s : State) (n : SafeId) : (s.onset n).programs = s.programs := by simp [State.onset]
@[simp] theorem State.onset_updateHold (s : State) (n : SafeId) : (s.onset n).updateHold = s.updateHold := by simp [State.onset]
@[simp] theorem State.onset_cameras (s : State) (n : SafeId) : (s.onset n).cameras = s.cameras := by simp [State.onset]
@[simp] theorem State.onset_unlock (s : State) (n : SafeId) : (s.onset n).unlock = s.unlock := by simp [State.onset]
@[simp] theorem State.onset_arbiter (s : State) (n : SafeId) : (s.onset n).arbiter = s.arbiter := by simp [State.onset]
@[simp] theorem State.onset_pending (s : State) (n : SafeId) : (s.onset n).pending = s.pending := by simp [State.onset]

/-! ## safePin -/

@[simp] theorem State.safePin_phase (s : State) (n : SafeId) (x : Level) : (s.safePin n x).phase = s.phase := by unfold State.safePin; dsimp only; split <;> simp
@[simp] theorem State.safePin_startTimer (s : State) (n : SafeId) (x : Level) : (s.safePin n x).startTimer = s.startTimer := by unfold State.safePin; dsimp only; split <;> simp
@[simp] theorem State.safePin_timestamp (s : State) (n : SafeId) (x : Level) : (s.safePin n x).timestamp = s.timestamp := by unfold State.safePin; dsimp only; split <;> simp
@[simp] theorem State.safePin_halfTick (s : State) (n : SafeId) (x : Level) : (s.safePin n x).halfTick = s.halfTick := by unfold State.safePin; dsimp only; split <;> simp
@[simp] theorem State.safePin_encoders (s : State) (n : SafeId) (x : Level) : (s.safePin n x).encoders = s.encoders := by unfold State.safePin; dsimp only; split <;> simp
@[simp] theorem State.safePin_pacers (s : State) (n : SafeId) (x : Level) : (s.safePin n x).pacers = s.pacers := by unfold State.safePin; dsimp only; split <;> simp
@[simp] theorem State.safePin_programs (s : State) (n : SafeId) (x : Level) : (s.safePin n x).programs = s.programs := by unfold State.safePin; dsimp only; split <;> simp
@[simp] theorem State.safePin_updateHold (s : State) (n : SafeId) (x : Level) : (s.safePin n x).updateHold = s.updateHold := by unfold State.safePin; dsimp only; split <;> simp
@[simp] theorem State.safePin_cameras (s : State) (n : SafeId) (x : Level) : (s.safePin n x).cameras = s.cameras := by unfold State.safePin; dsimp only; split <;> simp
@[simp] theorem State.safePin_unlock (s : State) (n : SafeId) (x : Level) : (s.safePin n x).unlock = s.unlock := by unfold State.safePin; dsimp only; split <;> simp
@[simp] theorem State.safePin_arbiter (s : State) (n : SafeId) (x : Level) : (s.safePin n x).arbiter = s.arbiter := by unfold State.safePin; dsimp only; split <;> simp
@[simp] theorem State.safePin_pending (s : State) (n : SafeId) (x : Level) : (s.safePin n x).pending = s.pending := by unfold State.safePin; dsimp only; split <;> simp

/-! ## installSafe -/

@[simp] theorem State.installSafe_phase (s : State) (n : SafeId) (d : Detection) (g : BitVec 12) (b : BitVec 4) : (s.installSafe n d g b).phase = s.phase := by unfold State.installSafe; (repeat' first | split | (dsimp only; split)) <;> simp
@[simp] theorem State.installSafe_startTimer (s : State) (n : SafeId) (d : Detection) (g : BitVec 12) (b : BitVec 4) : (s.installSafe n d g b).startTimer = s.startTimer := by unfold State.installSafe; (repeat' first | split | (dsimp only; split)) <;> simp
@[simp] theorem State.installSafe_timestamp (s : State) (n : SafeId) (d : Detection) (g : BitVec 12) (b : BitVec 4) : (s.installSafe n d g b).timestamp = s.timestamp := by unfold State.installSafe; (repeat' first | split | (dsimp only; split)) <;> simp
@[simp] theorem State.installSafe_halfTick (s : State) (n : SafeId) (d : Detection) (g : BitVec 12) (b : BitVec 4) : (s.installSafe n d g b).halfTick = s.halfTick := by unfold State.installSafe; (repeat' first | split | (dsimp only; split)) <;> simp
@[simp] theorem State.installSafe_encoders (s : State) (n : SafeId) (d : Detection) (g : BitVec 12) (b : BitVec 4) : (s.installSafe n d g b).encoders = s.encoders := by unfold State.installSafe; (repeat' first | split | (dsimp only; split)) <;> simp
@[simp] theorem State.installSafe_pacers (s : State) (n : SafeId) (d : Detection) (g : BitVec 12) (b : BitVec 4) : (s.installSafe n d g b).pacers = s.pacers := by unfold State.installSafe; (repeat' first | split | (dsimp only; split)) <;> simp
@[simp] theorem State.installSafe_programs (s : State) (n : SafeId) (d : Detection) (g : BitVec 12) (b : BitVec 4) : (s.installSafe n d g b).programs = s.programs := by unfold State.installSafe; (repeat' first | split | (dsimp only; split)) <;> simp
@[simp] theorem State.installSafe_updateHold (s : State) (n : SafeId) (d : Detection) (g : BitVec 12) (b : BitVec 4) : (s.installSafe n d g b).updateHold = s.updateHold := by unfold State.installSafe; (repeat' first | split | (dsimp only; split)) <;> simp
@[simp] theorem State.installSafe_cameras (s : State) (n : SafeId) (d : Detection) (g : BitVec 12) (b : BitVec 4) : (s.installSafe n d g b).cameras = s.cameras := by unfold State.installSafe; (repeat' first | split | (dsimp only; split)) <;> simp
@[simp] theorem State.installSafe_unlock (s : State) (n : SafeId) (d : Detection) (g : BitVec 12) (b : BitVec 4) : (s.installSafe n d g b).unlock = s.unlock := by unfold State.installSafe; (repeat' first | split | (dsimp only; split)) <;> simp
@[simp] theorem State.installSafe_arbiter (s : State) (n : SafeId) (d : Detection) (g : BitVec 12) (b : BitVec 4) : (s.installSafe n d g b).arbiter = s.arbiter := by unfold State.installSafe; (repeat' first | split | (dsimp only; split)) <;> simp
@[simp] theorem State.installSafe_pending (s : State) (n : SafeId) (d : Detection) (g : BitVec 12) (b : BitVec 4) : (s.installSafe n d g b).pending = s.pending := by unfold State.installSafe; (repeat' first | split | (dsimp only; split)) <;> simp

/-! ## frameComplete -/

@[simp] theorem State.frameComplete_phase (s : State) (f : Frame) (x y : Byte) : (s.frameComplete f x y).phase = s.phase := by unfold State.frameComplete; split <;> simp
@[simp] theorem State.frameComplete_startTimer (s : State) (f : Frame) (x y : Byte) : (s.frameComplete f x y).startTimer = s.startTimer := by unfold State.frameComplete; split <;> simp
@[simp] theorem State.frameComplete_timestamp (s : State) (f : Frame) (x y : Byte) : (s.frameComplete f x y).timestamp = s.timestamp := by unfold State.frameComplete; split <;> simp
@[simp] theorem State.frameComplete_halfTick (s : State) (f : Frame) (x y : Byte) : (s.frameComplete f x y).halfTick = s.halfTick := by unfold State.frameComplete; split <;> simp
@[simp] theorem State.frameComplete_encoders (s : State) (f : Frame) (x y : Byte) : (s.frameComplete f x y).encoders = s.encoders := by unfold State.frameComplete; split <;> simp
@[simp] theorem State.frameComplete_pacers (s : State) (f : Frame) (x y : Byte) : (s.frameComplete f x y).pacers = s.pacers := by unfold State.frameComplete; split <;> simp
@[simp] theorem State.frameComplete_lanes (s : State) (f : Frame) (x y : Byte) : (s.frameComplete f x y).lanes = s.lanes := by unfold State.frameComplete; split <;> simp
@[simp] theorem State.frameComplete_slots (s : State) (f : Frame) (x y : Byte) : (s.frameComplete f x y).slots = s.slots := by unfold State.frameComplete; split <;> simp
@[simp] theorem State.frameComplete_programs (s : State) (f : Frame) (x y : Byte) : (s.frameComplete f x y).programs = s.programs := by unfold State.frameComplete; split <;> simp
@[simp] theorem State.frameComplete_updateHold (s : State) (f : Frame) (x y : Byte) : (s.frameComplete f x y).updateHold = s.updateHold := by unfold State.frameComplete; split <;> simp
@[simp] theorem State.frameComplete_runs (s : State) (f : Frame) (x y : Byte) : (s.frameComplete f x y).runs = s.runs := by unfold State.frameComplete; split <;> simp
@[simp] theorem State.frameComplete_outputs (s : State) (f : Frame) (x y : Byte) : (s.frameComplete f x y).outputs = s.outputs := by unfold State.frameComplete; split <;> simp
@[simp] theorem State.frameComplete_cameras (s : State) (f : Frame) (x y : Byte) : (s.frameComplete f x y).cameras = s.cameras := by unfold State.frameComplete; split <;> simp
@[simp] theorem State.frameComplete_safes (s : State) (f : Frame) (x y : Byte) : (s.frameComplete f x y).safes = s.safes := by unfold State.frameComplete; split <;> simp
@[simp] theorem State.frameComplete_unlock (s : State) (f : Frame) (x y : Byte) : (s.frameComplete f x y).unlock = s.unlock := by unfold State.frameComplete; split <;> simp
@[simp] theorem State.frameComplete_outcomes (s : State) (f : Frame) (x y : Byte) : (s.frameComplete f x y).outcomes = s.outcomes := by unfold State.frameComplete; split <;> simp
@[simp] theorem State.frameComplete_arbiter (s : State) (f : Frame) (x y : Byte) : (s.frameComplete f x y).arbiter = s.arbiter := by unfold State.frameComplete; split <;> simp
@[simp] theorem State.frameComplete_pending (s : State) (f : Frame) (x y : Byte) : (s.frameComplete f x y).pending = s.pending := by unfold State.frameComplete; split <;> simp

/-! ## takeByte -/

@[simp] theorem State.takeByte_phase (s : State) (b : Byte) : (s.takeByte b).phase = s.phase := by unfold State.takeByte; (repeat' first | split | (dsimp only; split)) <;> simp
@[simp] theorem State.takeByte_startTimer (s : State) (b : Byte) : (s.takeByte b).startTimer = s.startTimer := by unfold State.takeByte; (repeat' first | split | (dsimp only; split)) <;> simp
@[simp] theorem State.takeByte_timestamp (s : State) (b : Byte) : (s.takeByte b).timestamp = s.timestamp := by unfold State.takeByte; (repeat' first | split | (dsimp only; split)) <;> simp
@[simp] theorem State.takeByte_halfTick (s : State) (b : Byte) : (s.takeByte b).halfTick = s.halfTick := by unfold State.takeByte; (repeat' first | split | (dsimp only; split)) <;> simp
@[simp] theorem State.takeByte_encoders (s : State) (b : Byte) : (s.takeByte b).encoders = s.encoders := by unfold State.takeByte; (repeat' first | split | (dsimp only; split)) <;> simp
@[simp] theorem State.takeByte_pacers (s : State) (b : Byte) : (s.takeByte b).pacers = s.pacers := by unfold State.takeByte; (repeat' first | split | (dsimp only; split)) <;> simp
@[simp] theorem State.takeByte_lanes (s : State) (b : Byte) : (s.takeByte b).lanes = s.lanes := by unfold State.takeByte; (repeat' first | split | (dsimp only; split)) <;> simp
@[simp] theorem State.takeByte_slots (s : State) (b : Byte) : (s.takeByte b).slots = s.slots := by unfold State.takeByte; (repeat' first | split | (dsimp only; split)) <;> simp
@[simp] theorem State.takeByte_programs (s : State) (b : Byte) : (s.takeByte b).programs = s.programs := by unfold State.takeByte; (repeat' first | split | (dsimp only; split)) <;> simp
@[simp] theorem State.takeByte_updateHold (s : State) (b : Byte) : (s.takeByte b).updateHold = s.updateHold := by unfold State.takeByte; (repeat' first | split | (dsimp only; split)) <;> simp
@[simp] theorem State.takeByte_runs (s : State) (b : Byte) : (s.takeByte b).runs = s.runs := by unfold State.takeByte; (repeat' first | split | (dsimp only; split)) <;> simp
@[simp] theorem State.takeByte_outputs (s : State) (b : Byte) : (s.takeByte b).outputs = s.outputs := by unfold State.takeByte; (repeat' first | split | (dsimp only; split)) <;> simp
@[simp] theorem State.takeByte_cameras (s : State) (b : Byte) : (s.takeByte b).cameras = s.cameras := by unfold State.takeByte; (repeat' first | split | (dsimp only; split)) <;> simp
@[simp] theorem State.takeByte_safes (s : State) (b : Byte) : (s.takeByte b).safes = s.safes := by unfold State.takeByte; (repeat' first | split | (dsimp only; split)) <;> simp
@[simp] theorem State.takeByte_unlock (s : State) (b : Byte) : (s.takeByte b).unlock = s.unlock := by unfold State.takeByte; (repeat' first | split | (dsimp only; split)) <;> simp
@[simp] theorem State.takeByte_outcomes (s : State) (b : Byte) : (s.takeByte b).outcomes = s.outcomes := by unfold State.takeByte; (repeat' first | split | (dsimp only; split)) <;> simp
@[simp] theorem State.takeByte_arbiter (s : State) (b : Byte) : (s.takeByte b).arbiter = s.arbiter := by unfold State.takeByte; (repeat' first | split | (dsimp only; split)) <;> simp
@[simp] theorem State.takeByte_pending (s : State) (b : Byte) : (s.takeByte b).pending = s.pending := by unfold State.takeByte; (repeat' first | split | (dsimp only; split)) <;> simp

end Sys2Proof.Machine
end

