-- ==== Sys2Proof/Laws/Link.lean ====
section
/-! SUPPORT. What the operations do to the link and the alarm set: reports may join, up to 8, alarms may latch, and nothing else
of either changes. -/

set_option linter.unusedTactic false
set_option linter.unusedSimpArgs false
set_option linter.unusedVariables false

namespace Sys2Proof.Machine

/-- What every step of a fold keeps true, the fold keeps true. -/
theorem foldl_holds {α : Type} (Q : State → Prop) (g : State → α → State) (h : ∀ s x, Q s → Q (g s x)) (xs : List α)
    (s : State) (hs : Q s) : Q (xs.foldl g s) := by
  induction xs generalizing s with
  | nil => exact hs
  | cons x xs ih => exact ih _ (h _ _ hs)

/-! ## The latch (R150) -/

/-- The latched set after an occurrence, whether the alarm was clear or not. -/
@[simp] theorem State.latch_latched (s : State) (a : Alarm) : (s.latch a).alarms.latched = s.alarms.latched ||| a.mask := by
  unfold State.latch
  split
  · rename_i h
    ext i hi
    have hm : a.mask.getLsbD i = decide (i = a.number) := by
      have ha : a.number < 16 := by cases a <;> simp [Alarm.number] <;> omega
      simp only [Alarm.mask, BitVec.getLsbD_ofNat, Nat.testBit_two_pow]
      simp [hi, eq_comm]
    simp only [AlarmSet.isLatched] at h
    by_cases hia : i = a.number
    · subst hia; simp [BitVec.getElem_or, ← BitVec.getLsbD_eq_getElem, h]
    · simp [BitVec.getElem_or, ← BitVec.getLsbD_eq_getElem, hm, hia]
  · split <;> simp

@[simp] theorem State.latch_enabled (s : State) (a : Alarm) : (s.latch a).alarms.enabled = s.alarms.enabled := by
  unfold State.latch; (repeat' first | split | (dsimp only; split)) <;> simp

theorem State.latch_alarms_eq (s : State) (a : Alarm) :
    (s.latch a).alarms = ⟨s.alarms.latched ||| a.mask, s.alarms.enabled⟩ := by
  rw [← State.latch_latched, ← State.latch_enabled s a]

/-- The bit of one alarm in the set of another. -/
theorem Alarm.mask_getLsbD (a b : Alarm) : a.mask.getLsbD b.number = decide (a = b) := by
  rcases a with n | n | n | _ | n | _ | _ | _ <;> rcases b with m | m | m | _ | m | _ | _ | _ <;>
    (try fin_cases n) <;> (try fin_cases m) <;> rfl

/-- After an occurrence the alarm is latched, and every other is as it was. -/
@[simp] theorem State.latch_isLatched (s : State) (a b : Alarm) :
    (s.latch a).alarms.isLatched b = (s.alarms.isLatched b || decide (a = b)) := by
  simp only [AlarmSet.isLatched, State.latch_latched, BitVec.getLsbD_or, Alarm.mask_getLsbD]

theorem Link.queueReport_length (x : Link) (r : Report) (h : x.reports.length ≤ 8) : (x.queueReport r).reports.length ≤ 8 := by
  unfold Link.queueReport
  split
  · rename_i h'; simp [Config.reportPlaces] at h' ⊢; omega
  · exact h

/-! ## Fields of the link that the operations leave alone -/

@[simp] theorem State.queueReport_link_baud (s : State) (r : Report) : (s.queueReport r).link.baud = s.link.baud := by unfold State.queueReport; split <;> (try unfold Link.queueReport) <;> (try split) <;> rfl
@[simp] theorem State.queueReport_link_rx (s : State) (r : Report) : (s.queueReport r).link.rx = s.link.rx := by unfold State.queueReport; split <;> (try unfold Link.queueReport) <;> (try split) <;> rfl
@[simp] theorem State.queueReport_link_waitHigh (s : State) (r : Report) : (s.queueReport r).link.waitHigh = s.link.waitHigh := by unfold State.queueReport; split <;> (try unfold Link.queueReport) <;> (try split) <;> rfl
@[simp] theorem State.queueReport_link_receiving (s : State) (r : Report) : (s.queueReport r).link.receiving = s.link.receiving := by unfold State.queueReport; split <;> (try unfold Link.queueReport) <;> (try split) <;> rfl
@[simp] theorem State.queueReport_link_gapTimer (s : State) (r : Report) : (s.queueReport r).link.gapTimer = s.link.gapTimer := by unfold State.queueReport; split <;> (try unfold Link.queueReport) <;> (try split) <;> rfl
@[simp] theorem State.queueReport_link_rxBuffer (s : State) (r : Report) : (s.queueReport r).link.rxBuffer = s.link.rxBuffer := by unfold State.queueReport; split <;> (try unfold Link.queueReport) <;> (try split) <;> rfl
@[simp] theorem State.queueReport_link_replies (s : State) (r : Report) : (s.queueReport r).link.replies = s.link.replies := by unfold State.queueReport; split <;> (try unfold Link.queueReport) <;> (try split) <;> rfl
@[simp] theorem State.queueReport_link_tx (s : State) (r : Report) : (s.queueReport r).link.tx = s.link.tx := by unfold State.queueReport; split <;> (try unfold Link.queueReport) <;> (try split) <;> rfl
@[simp] theorem State.queueReport_link_txTimer (s : State) (r : Report) : (s.queueReport r).link.txTimer = s.link.txTimer := by unfold State.queueReport; split <;> (try unfold Link.queueReport) <;> (try split) <;> rfl

@[simp] theorem State.latch_link_baud (s : State) (a : Alarm) : (s.latch a).link.baud = s.link.baud := by unfold State.latch; (repeat' first | split | (dsimp only; split)) <;> simp
@[simp] theorem State.latch_link_rx (s : State) (a : Alarm) : (s.latch a).link.rx = s.link.rx := by unfold State.latch; (repeat' first | split | (dsimp only; split)) <;> simp
@[simp] theorem State.latch_link_waitHigh (s : State) (a : Alarm) : (s.latch a).link.waitHigh = s.link.waitHigh := by unfold State.latch; (repeat' first | split | (dsimp only; split)) <;> simp
@[simp] theorem State.latch_link_receiving (s : State) (a : Alarm) : (s.latch a).link.receiving = s.link.receiving := by unfold State.latch; (repeat' first | split | (dsimp only; split)) <;> simp
@[simp] theorem State.latch_link_gapTimer (s : State) (a : Alarm) : (s.latch a).link.gapTimer = s.link.gapTimer := by unfold State.latch; (repeat' first | split | (dsimp only; split)) <;> simp
@[simp] theorem State.latch_link_rxBuffer (s : State) (a : Alarm) : (s.latch a).link.rxBuffer = s.link.rxBuffer := by unfold State.latch; (repeat' first | split | (dsimp only; split)) <;> simp
@[simp] theorem State.latch_link_replies (s : State) (a : Alarm) : (s.latch a).link.replies = s.link.replies := by unfold State.latch; (repeat' first | split | (dsimp only; split)) <;> simp
@[simp] theorem State.latch_link_tx (s : State) (a : Alarm) : (s.latch a).link.tx = s.link.tx := by unfold State.latch; (repeat' first | split | (dsimp only; split)) <;> simp
@[simp] theorem State.latch_link_txTimer (s : State) (a : Alarm) : (s.latch a).link.txTimer = s.link.txTimer := by unfold State.latch; (repeat' first | split | (dsimp only; split)) <;> simp

@[simp] theorem State.appendOutcome_link_baud (s : State) (r : OutcomeRecord) : (s.appendOutcome r).link.baud = s.link.baud := by unfold State.appendOutcome; (repeat' first | split | (dsimp only; split)) <;> simp
@[simp] theorem State.appendOutcome_link_rx (s : State) (r : OutcomeRecord) : (s.appendOutcome r).link.rx = s.link.rx := by unfold State.appendOutcome; (repeat' first | split | (dsimp only; split)) <;> simp
@[simp] theorem State.appendOutcome_link_waitHigh (s : State) (r : OutcomeRecord) : (s.appendOutcome r).link.waitHigh = s.link.waitHigh := by unfold State.appendOutcome; (repeat' first | split | (dsimp only; split)) <;> simp
@[simp] theorem State.appendOutcome_link_receiving (s : State) (r : OutcomeRecord) : (s.appendOutcome r).link.receiving = s.link.receiving := by unfold State.appendOutcome; (repeat' first | split | (dsimp only; split)) <;> simp
@[simp] theorem State.appendOutcome_link_gapTimer (s : State) (r : OutcomeRecord) : (s.appendOutcome r).link.gapTimer = s.link.gapTimer := by unfold State.appendOutcome; (repeat' first | split | (dsimp only; split)) <;> simp
@[simp] theorem State.appendOutcome_link_rxBuffer (s : State) (r : OutcomeRecord) : (s.appendOutcome r).link.rxBuffer = s.link.rxBuffer := by unfold State.appendOutcome; (repeat' first | split | (dsimp only; split)) <;> simp
@[simp] theorem State.appendOutcome_link_replies (s : State) (r : OutcomeRecord) : (s.appendOutcome r).link.replies = s.link.replies := by unfold State.appendOutcome; (repeat' first | split | (dsimp only; split)) <;> simp
@[simp] theorem State.appendOutcome_link_tx (s : State) (r : OutcomeRecord) : (s.appendOutcome r).link.tx = s.link.tx := by unfold State.appendOutcome; (repeat' first | split | (dsimp only; split)) <;> simp
@[simp] theorem State.appendOutcome_link_txTimer (s : State) (r : OutcomeRecord) : (s.appendOutcome r).link.txTimer = s.link.txTimer := by unfold State.appendOutcome; (repeat' first | split | (dsimp only; split)) <;> simp

@[simp] theorem State.endShot_link_baud (s : State) (h : Handle) (c : OutcomeCode) : (s.endShot h c).link.baud = s.link.baud := by unfold State.endShot; split <;> simp
@[simp] theorem State.endShot_link_rx (s : State) (h : Handle) (c : OutcomeCode) : (s.endShot h c).link.rx = s.link.rx := by unfold State.endShot; split <;> simp
@[simp] theorem State.endShot_link_waitHigh (s : State) (h : Handle) (c : OutcomeCode) : (s.endShot h c).link.waitHigh = s.link.waitHigh := by unfold State.endShot; split <;> simp
@[simp] theorem State.endShot_link_receiving (s : State) (h : Handle) (c : OutcomeCode) : (s.endShot h c).link.receiving = s.link.receiving := by unfold State.endShot; split <;> simp
@[simp] theorem State.endShot_link_gapTimer (s : State) (h : Handle) (c : OutcomeCode) : (s.endShot h c).link.gapTimer = s.link.gapTimer := by unfold State.endShot; split <;> simp
@[simp] theorem State.endShot_link_rxBuffer (s : State) (h : Handle) (c : OutcomeCode) : (s.endShot h c).link.rxBuffer = s.link.rxBuffer := by unfold State.endShot; split <;> simp
@[simp] theorem State.endShot_link_replies (s : State) (h : Handle) (c : OutcomeCode) : (s.endShot h c).link.replies = s.link.replies := by unfold State.endShot; split <;> simp
@[simp] theorem State.endShot_link_tx (s : State) (h : Handle) (c : OutcomeCode) : (s.endShot h c).link.tx = s.link.tx := by unfold State.endShot; split <;> simp
@[simp] theorem State.endShot_link_txTimer (s : State) (h : Handle) (c : OutcomeCode) : (s.endShot h c).link.txTimer = s.link.txTimer := by unfold State.endShot; split <;> simp

@[simp] theorem State.markCollision_link_baud (s : State) (k : RunSlotId) (js : List RunSlotId) : (s.markCollision k js).link.baud = s.link.baud := by unfold State.markCollision; rw [State.latch_link_baud]; exact foldl_keeps (·.link.baud) _ (fun t j => by split <;> simp) _ s
@[simp] theorem State.markCollision_link_rx (s : State) (k : RunSlotId) (js : List RunSlotId) : (s.markCollision k js).link.rx = s.link.rx := by unfold State.markCollision; rw [State.latch_link_rx]; exact foldl_keeps (·.link.rx) _ (fun t j => by split <;> simp) _ s
@[simp] theorem State.markCollision_link_waitHigh (s : State) (k : RunSlotId) (js : List RunSlotId) : (s.markCollision k js).link.waitHigh = s.link.waitHigh := by unfold State.markCollision; rw [State.latch_link_waitHigh]; exact foldl_keeps (·.link.waitHigh) _ (fun t j => by split <;> simp) _ s
@[simp] theorem State.markCollision_link_receiving (s : State) (k : RunSlotId) (js : List RunSlotId) : (s.markCollision k js).link.receiving = s.link.receiving := by unfold State.markCollision; rw [State.latch_link_receiving]; exact foldl_keeps (·.link.receiving) _ (fun t j => by split <;> simp) _ s
@[simp] theorem State.markCollision_link_gapTimer (s : State) (k : RunSlotId) (js : List RunSlotId) : (s.markCollision k js).link.gapTimer = s.link.gapTimer := by unfold State.markCollision; rw [State.latch_link_gapTimer]; exact foldl_keeps (·.link.gapTimer) _ (fun t j => by split <;> simp) _ s
@[simp] theorem State.markCollision_link_rxBuffer (s : State) (k : RunSlotId) (js : List RunSlotId) : (s.markCollision k js).link.rxBuffer = s.link.rxBuffer := by unfold State.markCollision; rw [State.latch_link_rxBuffer]; exact foldl_keeps (·.link.rxBuffer) _ (fun t j => by split <;> simp) _ s
@[simp] theorem State.markCollision_link_replies (s : State) (k : RunSlotId) (js : List RunSlotId) : (s.markCollision k js).link.replies = s.link.replies := by unfold State.markCollision; rw [State.latch_link_replies]; exact foldl_keeps (·.link.replies) _ (fun t j => by split <;> simp) _ s
@[simp] theorem State.markCollision_link_tx (s : State) (k : RunSlotId) (js : List RunSlotId) : (s.markCollision k js).link.tx = s.link.tx := by unfold State.markCollision; rw [State.latch_link_tx]; exact foldl_keeps (·.link.tx) _ (fun t j => by split <;> simp) _ s
@[simp] theorem State.markCollision_link_txTimer (s : State) (k : RunSlotId) (js : List RunSlotId) : (s.markCollision k js).link.txTimer = s.link.txTimer := by unfold State.markCollision; rw [State.latch_link_txTimer]; exact foldl_keeps (·.link.txTimer) _ (fun t j => by split <;> simp) _ s

@[simp] theorem State.startPulse_link_baud (s : State) (k : RunSlotId) (x : Pulse × Nat) : (State.startPulse k s x).link.baud = s.link.baud := by unfold State.startPulse; (repeat' first | split | (dsimp only; split)) <;> simp
@[simp] theorem State.startPulse_link_rx (s : State) (k : RunSlotId) (x : Pulse × Nat) : (State.startPulse k s x).link.rx = s.link.rx := by unfold State.startPulse; (repeat' first | split | (dsimp only; split)) <;> simp
@[simp] theorem State.startPulse_link_waitHigh (s : State) (k : RunSlotId) (x : Pulse × Nat) : (State.startPulse k s x).link.waitHigh = s.link.waitHigh := by unfold State.startPulse; (repeat' first | split | (dsimp only; split)) <;> simp
@[simp] theorem State.startPulse_link_receiving (s : State) (k : RunSlotId) (x : Pulse × Nat) : (State.startPulse k s x).link.receiving = s.link.receiving := by unfold State.startPulse; (repeat' first | split | (dsimp only; split)) <;> simp
@[simp] theorem State.startPulse_link_gapTimer (s : State) (k : RunSlotId) (x : Pulse × Nat) : (State.startPulse k s x).link.gapTimer = s.link.gapTimer := by unfold State.startPulse; (repeat' first | split | (dsimp only; split)) <;> simp
@[simp] theorem State.startPulse_link_rxBuffer (s : State) (k : RunSlotId) (x : Pulse × Nat) : (State.startPulse k s x).link.rxBuffer = s.link.rxBuffer := by unfold State.startPulse; (repeat' first | split | (dsimp only; split)) <;> simp
@[simp] theorem State.startPulse_link_replies (s : State) (k : RunSlotId) (x : Pulse × Nat) : (State.startPulse k s x).link.replies = s.link.replies := by unfold State.startPulse; (repeat' first | split | (dsimp only; split)) <;> simp
@[simp] theorem State.startPulse_link_tx (s : State) (k : RunSlotId) (x : Pulse × Nat) : (State.startPulse k s x).link.tx = s.link.tx := by unfold State.startPulse; (repeat' first | split | (dsimp only; split)) <;> simp
@[simp] theorem State.startPulse_link_txTimer (s : State) (k : RunSlotId) (x : Pulse × Nat) : (State.startPulse k s x).link.txTimer = s.link.txTimer := by unfold State.startPulse; (repeat' first | split | (dsimp only; split)) <;> simp

@[simp] theorem State.leaveFiring_link_baud (s : State) (h : Handle) : (s.leaveFiring h).link.baud = s.link.baud := by unfold State.leaveFiring; (repeat' first | split | (dsimp only; split)) <;> simp
@[simp] theorem State.leaveFiring_link_rx (s : State) (h : Handle) : (s.leaveFiring h).link.rx = s.link.rx := by unfold State.leaveFiring; (repeat' first | split | (dsimp only; split)) <;> simp
@[simp] theorem State.leaveFiring_link_waitHigh (s : State) (h : Handle) : (s.leaveFiring h).link.waitHigh = s.link.waitHigh := by unfold State.leaveFiring; (repeat' first | split | (dsimp only; split)) <;> simp
@[simp] theorem State.leaveFiring_link_receiving (s : State) (h : Handle) : (s.leaveFiring h).link.receiving = s.link.receiving := by unfold State.leaveFiring; (repeat' first | split | (dsimp only; split)) <;> simp
@[simp] theorem State.leaveFiring_link_gapTimer (s : State) (h : Handle) : (s.leaveFiring h).link.gapTimer = s.link.gapTimer := by unfold State.leaveFiring; (repeat' first | split | (dsimp only; split)) <;> simp
@[simp] theorem State.leaveFiring_link_rxBuffer (s : State) (h : Handle) : (s.leaveFiring h).link.rxBuffer = s.link.rxBuffer := by unfold State.leaveFiring; (repeat' first | split | (dsimp only; split)) <;> simp
@[simp] theorem State.leaveFiring_link_replies (s : State) (h : Handle) : (s.leaveFiring h).link.replies = s.link.replies := by unfold State.leaveFiring; (repeat' first | split | (dsimp only; split)) <;> simp
@[simp] theorem State.leaveFiring_link_tx (s : State) (h : Handle) : (s.leaveFiring h).link.tx = s.link.tx := by unfold State.leaveFiring; (repeat' first | split | (dsimp only; split)) <;> simp
@[simp] theorem State.leaveFiring_link_txTimer (s : State) (h : Handle) : (s.leaveFiring h).link.txTimer = s.link.txTimer := by unfold State.leaveFiring; (repeat' first | split | (dsimp only; split)) <;> simp

@[simp] theorem State.completeRun_link_baud (s : State) (k : RunSlotId) (r : Run) : (s.completeRun k r).link.baud = s.link.baud := by simp [State.completeRun]
@[simp] theorem State.completeRun_link_rx (s : State) (k : RunSlotId) (r : Run) : (s.completeRun k r).link.rx = s.link.rx := by simp [State.completeRun]
@[simp] theorem State.completeRun_link_waitHigh (s : State) (k : RunSlotId) (r : Run) : (s.completeRun k r).link.waitHigh = s.link.waitHigh := by simp [State.completeRun]
@[simp] theorem State.completeRun_link_receiving (s : State) (k : RunSlotId) (r : Run) : (s.completeRun k r).link.receiving = s.link.receiving := by simp [State.completeRun]
@[simp] theorem State.completeRun_link_gapTimer (s : State) (k : RunSlotId) (r : Run) : (s.completeRun k r).link.gapTimer = s.link.gapTimer := by simp [State.completeRun]
@[simp] theorem State.completeRun_link_rxBuffer (s : State) (k : RunSlotId) (r : Run) : (s.completeRun k r).link.rxBuffer = s.link.rxBuffer := by simp [State.completeRun]
@[simp] theorem State.completeRun_link_replies (s : State) (k : RunSlotId) (r : Run) : (s.completeRun k r).link.replies = s.link.replies := by simp [State.completeRun]
@[simp] theorem State.completeRun_link_tx (s : State) (k : RunSlotId) (r : Run) : (s.completeRun k r).link.tx = s.link.tx := by simp [State.completeRun]
@[simp] theorem State.completeRun_link_txTimer (s : State) (k : RunSlotId) (r : Run) : (s.completeRun k r).link.txTimer = s.link.txTimer := by simp [State.completeRun]

@[simp] theorem State.abortRun_link_baud (s : State) (k : RunSlotId) : (s.abortRun k).link.baud = s.link.baud := by unfold State.abortRun; split <;> simp
@[simp] theorem State.abortRun_link_rx (s : State) (k : RunSlotId) : (s.abortRun k).link.rx = s.link.rx := by unfold State.abortRun; split <;> simp
@[simp] theorem State.abortRun_link_waitHigh (s : State) (k : RunSlotId) : (s.abortRun k).link.waitHigh = s.link.waitHigh := by unfold State.abortRun; split <;> simp
@[simp] theorem State.abortRun_link_receiving (s : State) (k : RunSlotId) : (s.abortRun k).link.receiving = s.link.receiving := by unfold State.abortRun; split <;> simp
@[simp] theorem State.abortRun_link_gapTimer (s : State) (k : RunSlotId) : (s.abortRun k).link.gapTimer = s.link.gapTimer := by unfold State.abortRun; split <;> simp
@[simp] theorem State.abortRun_link_rxBuffer (s : State) (k : RunSlotId) : (s.abortRun k).link.rxBuffer = s.link.rxBuffer := by unfold State.abortRun; split <;> simp
@[simp] theorem State.abortRun_link_replies (s : State) (k : RunSlotId) : (s.abortRun k).link.replies = s.link.replies := by unfold State.abortRun; split <;> simp
@[simp] theorem State.abortRun_link_tx (s : State) (k : RunSlotId) : (s.abortRun k).link.tx = s.link.tx := by unfold State.abortRun; split <;> simp
@[simp] theorem State.abortRun_link_txTimer (s : State) (k : RunSlotId) : (s.abortRun k).link.txTimer = s.link.txTimer := by unfold State.abortRun; split <;> simp

@[simp] theorem State.abortNaming_link_baud (s : State) (b : BitVec 12) : (s.abortNaming b).link.baud = s.link.baud := foldl_keeps (·.link.baud) State.abortRun (fun t x => by simp) _ s
@[simp] theorem State.abortNaming_link_rx (s : State) (b : BitVec 12) : (s.abortNaming b).link.rx = s.link.rx := foldl_keeps (·.link.rx) State.abortRun (fun t x => by simp) _ s
@[simp] theorem State.abortNaming_link_waitHigh (s : State) (b : BitVec 12) : (s.abortNaming b).link.waitHigh = s.link.waitHigh := foldl_keeps (·.link.waitHigh) State.abortRun (fun t x => by simp) _ s
@[simp] theorem State.abortNaming_link_receiving (s : State) (b : BitVec 12) : (s.abortNaming b).link.receiving = s.link.receiving := foldl_keeps (·.link.receiving) State.abortRun (fun t x => by simp) _ s
@[simp] theorem State.abortNaming_link_gapTimer (s : State) (b : BitVec 12) : (s.abortNaming b).link.gapTimer = s.link.gapTimer := foldl_keeps (·.link.gapTimer) State.abortRun (fun t x => by simp) _ s
@[simp] theorem State.abortNaming_link_rxBuffer (s : State) (b : BitVec 12) : (s.abortNaming b).link.rxBuffer = s.link.rxBuffer := foldl_keeps (·.link.rxBuffer) State.abortRun (fun t x => by simp) _ s
@[simp] theorem State.abortNaming_link_replies (s : State) (b : BitVec 12) : (s.abortNaming b).link.replies = s.link.replies := foldl_keeps (·.link.replies) State.abortRun (fun t x => by simp) _ s
@[simp] theorem State.abortNaming_link_tx (s : State) (b : BitVec 12) : (s.abortNaming b).link.tx = s.link.tx := foldl_keeps (·.link.tx) State.abortRun (fun t x => by simp) _ s
@[simp] theorem State.abortNaming_link_txTimer (s : State) (b : BitVec 12) : (s.abortNaming b).link.txTimer = s.link.txTimer := foldl_keeps (·.link.txTimer) State.abortRun (fun t x => by simp) _ s

@[simp] theorem State.startPulses_link_baud (s : State) (k : RunSlotId) (xs : List (Pulse × Nat)) : (xs.foldl (State.startPulse k) s).link.baud = s.link.baud := foldl_keeps (·.link.baud) _ (fun t x => by simp) _ s
@[simp] theorem State.startPulses_link_rx (s : State) (k : RunSlotId) (xs : List (Pulse × Nat)) : (xs.foldl (State.startPulse k) s).link.rx = s.link.rx := foldl_keeps (·.link.rx) _ (fun t x => by simp) _ s
@[simp] theorem State.startPulses_link_waitHigh (s : State) (k : RunSlotId) (xs : List (Pulse × Nat)) : (xs.foldl (State.startPulse k) s).link.waitHigh = s.link.waitHigh := foldl_keeps (·.link.waitHigh) _ (fun t x => by simp) _ s
@[simp] theorem State.startPulses_link_receiving (s : State) (k : RunSlotId) (xs : List (Pulse × Nat)) : (xs.foldl (State.startPulse k) s).link.receiving = s.link.receiving := foldl_keeps (·.link.receiving) _ (fun t x => by simp) _ s
@[simp] theorem State.startPulses_link_gapTimer (s : State) (k : RunSlotId) (xs : List (Pulse × Nat)) : (xs.foldl (State.startPulse k) s).link.gapTimer = s.link.gapTimer := foldl_keeps (·.link.gapTimer) _ (fun t x => by simp) _ s
@[simp] theorem State.startPulses_link_rxBuffer (s : State) (k : RunSlotId) (xs : List (Pulse × Nat)) : (xs.foldl (State.startPulse k) s).link.rxBuffer = s.link.rxBuffer := foldl_keeps (·.link.rxBuffer) _ (fun t x => by simp) _ s
@[simp] theorem State.startPulses_link_replies (s : State) (k : RunSlotId) (xs : List (Pulse × Nat)) : (xs.foldl (State.startPulse k) s).link.replies = s.link.replies := foldl_keeps (·.link.replies) _ (fun t x => by simp) _ s
@[simp] theorem State.startPulses_link_tx (s : State) (k : RunSlotId) (xs : List (Pulse × Nat)) : (xs.foldl (State.startPulse k) s).link.tx = s.link.tx := foldl_keeps (·.link.tx) _ (fun t x => by simp) _ s
@[simp] theorem State.startPulses_link_txTimer (s : State) (k : RunSlotId) (xs : List (Pulse × Nat)) : (xs.foldl (State.startPulse k) s).link.txTimer = s.link.txTimer := foldl_keeps (·.link.txTimer) _ (fun t x => by simp) _ s

@[simp] theorem State.runEvent_link_baud (s : State) (k : RunSlotId) : (s.runEvent k).link.baud = s.link.baud := by unfold State.runEvent; (repeat' first | split | (dsimp only; split)) <;> simp
@[simp] theorem State.runEvent_link_rx (s : State) (k : RunSlotId) : (s.runEvent k).link.rx = s.link.rx := by unfold State.runEvent; (repeat' first | split | (dsimp only; split)) <;> simp
@[simp] theorem State.runEvent_link_waitHigh (s : State) (k : RunSlotId) : (s.runEvent k).link.waitHigh = s.link.waitHigh := by unfold State.runEvent; (repeat' first | split | (dsimp only; split)) <;> simp
@[simp] theorem State.runEvent_link_receiving (s : State) (k : RunSlotId) : (s.runEvent k).link.receiving = s.link.receiving := by unfold State.runEvent; (repeat' first | split | (dsimp only; split)) <;> simp
@[simp] theorem State.runEvent_link_gapTimer (s : State) (k : RunSlotId) : (s.runEvent k).link.gapTimer = s.link.gapTimer := by unfold State.runEvent; (repeat' first | split | (dsimp only; split)) <;> simp
@[simp] theorem State.runEvent_link_rxBuffer (s : State) (k : RunSlotId) : (s.runEvent k).link.rxBuffer = s.link.rxBuffer := by unfold State.runEvent; (repeat' first | split | (dsimp only; split)) <;> simp
@[simp] theorem State.runEvent_link_replies (s : State) (k : RunSlotId) : (s.runEvent k).link.replies = s.link.replies := by unfold State.runEvent; (repeat' first | split | (dsimp only; split)) <;> simp
@[simp] theorem State.runEvent_link_tx (s : State) (k : RunSlotId) : (s.runEvent k).link.tx = s.link.tx := by unfold State.runEvent; (repeat' first | split | (dsimp only; split)) <;> simp
@[simp] theorem State.runEvent_link_txTimer (s : State) (k : RunSlotId) : (s.runEvent k).link.txTimer = s.link.txTimer := by unfold State.runEvent; (repeat' first | split | (dsimp only; split)) <;> simp

@[simp] theorem State.fire_link_baud (s : State) (k : RunSlotId) (h : Handle) (sh : Shot) (v : Version) : (s.fire k h sh v).link.baud = s.link.baud := by simp [State.fire]
@[simp] theorem State.fire_link_rx (s : State) (k : RunSlotId) (h : Handle) (sh : Shot) (v : Version) : (s.fire k h sh v).link.rx = s.link.rx := by simp [State.fire]
@[simp] theorem State.fire_link_waitHigh (s : State) (k : RunSlotId) (h : Handle) (sh : Shot) (v : Version) : (s.fire k h sh v).link.waitHigh = s.link.waitHigh := by simp [State.fire]
@[simp] theorem State.fire_link_receiving (s : State) (k : RunSlotId) (h : Handle) (sh : Shot) (v : Version) : (s.fire k h sh v).link.receiving = s.link.receiving := by simp [State.fire]
@[simp] theorem State.fire_link_gapTimer (s : State) (k : RunSlotId) (h : Handle) (sh : Shot) (v : Version) : (s.fire k h sh v).link.gapTimer = s.link.gapTimer := by simp [State.fire]
@[simp] theorem State.fire_link_rxBuffer (s : State) (k : RunSlotId) (h : Handle) (sh : Shot) (v : Version) : (s.fire k h sh v).link.rxBuffer = s.link.rxBuffer := by simp [State.fire]
@[simp] theorem State.fire_link_replies (s : State) (k : RunSlotId) (h : Handle) (sh : Shot) (v : Version) : (s.fire k h sh v).link.replies = s.link.replies := by simp [State.fire]
@[simp] theorem State.fire_link_tx (s : State) (k : RunSlotId) (h : Handle) (sh : Shot) (v : Version) : (s.fire k h sh v).link.tx = s.link.tx := by simp [State.fire]
@[simp] theorem State.fire_link_txTimer (s : State) (k : RunSlotId) (h : Handle) (sh : Shot) (v : Version) : (s.fire k h sh v).link.txTimer = s.link.txTimer := by simp [State.fire]

@[simp] theorem State.fireAttempt_link_baud (s : State) (h : Handle) : (s.fireAttempt h).link.baud = s.link.baud := by unfold State.fireAttempt; (repeat' first | split | (dsimp only; split)) <;> simp
@[simp] theorem State.fireAttempt_link_rx (s : State) (h : Handle) : (s.fireAttempt h).link.rx = s.link.rx := by unfold State.fireAttempt; (repeat' first | split | (dsimp only; split)) <;> simp
@[simp] theorem State.fireAttempt_link_waitHigh (s : State) (h : Handle) : (s.fireAttempt h).link.waitHigh = s.link.waitHigh := by unfold State.fireAttempt; (repeat' first | split | (dsimp only; split)) <;> simp
@[simp] theorem State.fireAttempt_link_receiving (s : State) (h : Handle) : (s.fireAttempt h).link.receiving = s.link.receiving := by unfold State.fireAttempt; (repeat' first | split | (dsimp only; split)) <;> simp
@[simp] theorem State.fireAttempt_link_gapTimer (s : State) (h : Handle) : (s.fireAttempt h).link.gapTimer = s.link.gapTimer := by unfold State.fireAttempt; (repeat' first | split | (dsimp only; split)) <;> simp
@[simp] theorem State.fireAttempt_link_rxBuffer (s : State) (h : Handle) : (s.fireAttempt h).link.rxBuffer = s.link.rxBuffer := by unfold State.fireAttempt; (repeat' first | split | (dsimp only; split)) <;> simp
@[simp] theorem State.fireAttempt_link_replies (s : State) (h : Handle) : (s.fireAttempt h).link.replies = s.link.replies := by unfold State.fireAttempt; (repeat' first | split | (dsimp only; split)) <;> simp
@[simp] theorem State.fireAttempt_link_tx (s : State) (h : Handle) : (s.fireAttempt h).link.tx = s.link.tx := by unfold State.fireAttempt; (repeat' first | split | (dsimp only; split)) <;> simp
@[simp] theorem State.fireAttempt_link_txTimer (s : State) (h : Handle) : (s.fireAttempt h).link.txTimer = s.link.txTimer := by unfold State.fireAttempt; (repeat' first | split | (dsimp only; split)) <;> simp

@[simp] theorem State.reach_link_baud (s : State) (l : LaneId) (h : Handle) : (s.reach l h).link.baud = s.link.baud := by unfold State.reach; dsimp only; split <;> simp
@[simp] theorem State.reach_link_rx (s : State) (l : LaneId) (h : Handle) : (s.reach l h).link.rx = s.link.rx := by unfold State.reach; dsimp only; split <;> simp
@[simp] theorem State.reach_link_waitHigh (s : State) (l : LaneId) (h : Handle) : (s.reach l h).link.waitHigh = s.link.waitHigh := by unfold State.reach; dsimp only; split <;> simp
@[simp] theorem State.reach_link_receiving (s : State) (l : LaneId) (h : Handle) : (s.reach l h).link.receiving = s.link.receiving := by unfold State.reach; dsimp only; split <;> simp
@[simp] theorem State.reach_link_gapTimer (s : State) (l : LaneId) (h : Handle) : (s.reach l h).link.gapTimer = s.link.gapTimer := by unfold State.reach; dsimp only; split <;> simp
@[simp] theorem State.reach_link_rxBuffer (s : State) (l : LaneId) (h : Handle) : (s.reach l h).link.rxBuffer = s.link.rxBuffer := by unfold State.reach; dsimp only; split <;> simp
@[simp] theorem State.reach_link_replies (s : State) (l : LaneId) (h : Handle) : (s.reach l h).link.replies = s.link.replies := by unfold State.reach; dsimp only; split <;> simp
@[simp] theorem State.reach_link_tx (s : State) (l : LaneId) (h : Handle) : (s.reach l h).link.tx = s.link.tx := by unfold State.reach; dsimp only; split <;> simp
@[simp] theorem State.reach_link_txTimer (s : State) (l : LaneId) (h : Handle) : (s.reach l h).link.txTimer = s.link.txTimer := by unfold State.reach; dsimp only; split <;> simp

@[simp] theorem State.checkHead_link_baud (s : State) (l : LaneId) : (s.checkHead l).link.baud = s.link.baud := by unfold State.checkHead; (repeat' first | split | (dsimp only; split)) <;> simp
@[simp] theorem State.checkHead_link_rx (s : State) (l : LaneId) : (s.checkHead l).link.rx = s.link.rx := by unfold State.checkHead; (repeat' first | split | (dsimp only; split)) <;> simp
@[simp] theorem State.checkHead_link_waitHigh (s : State) (l : LaneId) : (s.checkHead l).link.waitHigh = s.link.waitHigh := by unfold State.checkHead; (repeat' first | split | (dsimp only; split)) <;> simp
@[simp] theorem State.checkHead_link_receiving (s : State) (l : LaneId) : (s.checkHead l).link.receiving = s.link.receiving := by unfold State.checkHead; (repeat' first | split | (dsimp only; split)) <;> simp
@[simp] theorem State.checkHead_link_gapTimer (s : State) (l : LaneId) : (s.checkHead l).link.gapTimer = s.link.gapTimer := by unfold State.checkHead; (repeat' first | split | (dsimp only; split)) <;> simp
@[simp] theorem State.checkHead_link_rxBuffer (s : State) (l : LaneId) : (s.checkHead l).link.rxBuffer = s.link.rxBuffer := by unfold State.checkHead; (repeat' first | split | (dsimp only; split)) <;> simp
@[simp] theorem State.checkHead_link_replies (s : State) (l : LaneId) : (s.checkHead l).link.replies = s.link.replies := by unfold State.checkHead; (repeat' first | split | (dsimp only; split)) <;> simp
@[simp] theorem State.checkHead_link_tx (s : State) (l : LaneId) : (s.checkHead l).link.tx = s.link.tx := by unfold State.checkHead; (repeat' first | split | (dsimp only; split)) <;> simp
@[simp] theorem State.checkHead_link_txTimer (s : State) (l : LaneId) : (s.checkHead l).link.txTimer = s.link.txTimer := by unfold State.checkHead; (repeat' first | split | (dsimp only; split)) <;> simp

@[simp] theorem State.checkReverse_link_baud (s : State) (l : LaneId) : (s.checkReverse l).link.baud = s.link.baud := by unfold State.checkReverse; dsimp only; (repeat' first | split | (dsimp only; split)) <;> simp
@[simp] theorem State.checkReverse_link_rx (s : State) (l : LaneId) : (s.checkReverse l).link.rx = s.link.rx := by unfold State.checkReverse; dsimp only; (repeat' first | split | (dsimp only; split)) <;> simp
@[simp] theorem State.checkReverse_link_waitHigh (s : State) (l : LaneId) : (s.checkReverse l).link.waitHigh = s.link.waitHigh := by unfold State.checkReverse; dsimp only; (repeat' first | split | (dsimp only; split)) <;> simp
@[simp] theorem State.checkReverse_link_receiving (s : State) (l : LaneId) : (s.checkReverse l).link.receiving = s.link.receiving := by unfold State.checkReverse; dsimp only; (repeat' first | split | (dsimp only; split)) <;> simp
@[simp] theorem State.checkReverse_link_gapTimer (s : State) (l : LaneId) : (s.checkReverse l).link.gapTimer = s.link.gapTimer := by unfold State.checkReverse; dsimp only; (repeat' first | split | (dsimp only; split)) <;> simp
@[simp] theorem State.checkReverse_link_rxBuffer (s : State) (l : LaneId) : (s.checkReverse l).link.rxBuffer = s.link.rxBuffer := by unfold State.checkReverse; dsimp only; (repeat' first | split | (dsimp only; split)) <;> simp
@[simp] theorem State.checkReverse_link_replies (s : State) (l : LaneId) : (s.checkReverse l).link.replies = s.link.replies := by unfold State.checkReverse; dsimp only; (repeat' first | split | (dsimp only; split)) <;> simp
@[simp] theorem State.checkReverse_link_tx (s : State) (l : LaneId) : (s.checkReverse l).link.tx = s.link.tx := by unfold State.checkReverse; dsimp only; (repeat' first | split | (dsimp only; split)) <;> simp
@[simp] theorem State.checkReverse_link_txTimer (s : State) (l : LaneId) : (s.checkReverse l).link.txTimer = s.link.txTimer := by unfold State.checkReverse; dsimp only; (repeat' first | split | (dsimp only; split)) <;> simp

@[simp] theorem State.laneCount_link_baud (s : State) (up : Bool) (l : LaneId) : (State.laneCount up s l).link.baud = s.link.baud := by unfold State.laneCount; (repeat' first | split | (dsimp only; split)) <;> simp
@[simp] theorem State.laneCount_link_rx (s : State) (up : Bool) (l : LaneId) : (State.laneCount up s l).link.rx = s.link.rx := by unfold State.laneCount; (repeat' first | split | (dsimp only; split)) <;> simp
@[simp] theorem State.laneCount_link_waitHigh (s : State) (up : Bool) (l : LaneId) : (State.laneCount up s l).link.waitHigh = s.link.waitHigh := by unfold State.laneCount; (repeat' first | split | (dsimp only; split)) <;> simp
@[simp] theorem State.laneCount_link_receiving (s : State) (up : Bool) (l : LaneId) : (State.laneCount up s l).link.receiving = s.link.receiving := by unfold State.laneCount; (repeat' first | split | (dsimp only; split)) <;> simp
@[simp] theorem State.laneCount_link_gapTimer (s : State) (up : Bool) (l : LaneId) : (State.laneCount up s l).link.gapTimer = s.link.gapTimer := by unfold State.laneCount; (repeat' first | split | (dsimp only; split)) <;> simp
@[simp] theorem State.laneCount_link_rxBuffer (s : State) (up : Bool) (l : LaneId) : (State.laneCount up s l).link.rxBuffer = s.link.rxBuffer := by unfold State.laneCount; (repeat' first | split | (dsimp only; split)) <;> simp
@[simp] theorem State.laneCount_link_replies (s : State) (up : Bool) (l : LaneId) : (State.laneCount up s l).link.replies = s.link.replies := by unfold State.laneCount; (repeat' first | split | (dsimp only; split)) <;> simp
@[simp] theorem State.laneCount_link_tx (s : State) (up : Bool) (l : LaneId) : (State.laneCount up s l).link.tx = s.link.tx := by unfold State.laneCount; (repeat' first | split | (dsimp only; split)) <;> simp
@[simp] theorem State.laneCount_link_txTimer (s : State) (up : Bool) (l : LaneId) : (State.laneCount up s l).link.txTimer = s.link.txTimer := by unfold State.laneCount; (repeat' first | split | (dsimp only; split)) <;> simp

@[simp] theorem State.handCount_link_baud (s : State) (src : Source) (up : Bool) : (s.handCount src up).link.baud = s.link.baud := by unfold State.handCount; refine (foldl_keeps (·.link.baud) _ (fun t x => by simp) _ _).trans ?_; split <;> rfl
@[simp] theorem State.handCount_link_rx (s : State) (src : Source) (up : Bool) : (s.handCount src up).link.rx = s.link.rx := by unfold State.handCount; refine (foldl_keeps (·.link.rx) _ (fun t x => by simp) _ _).trans ?_; split <;> rfl
@[simp] theorem State.handCount_link_waitHigh (s : State) (src : Source) (up : Bool) : (s.handCount src up).link.waitHigh = s.link.waitHigh := by unfold State.handCount; refine (foldl_keeps (·.link.waitHigh) _ (fun t x => by simp) _ _).trans ?_; split <;> rfl
@[simp] theorem State.handCount_link_receiving (s : State) (src : Source) (up : Bool) : (s.handCount src up).link.receiving = s.link.receiving := by unfold State.handCount; refine (foldl_keeps (·.link.receiving) _ (fun t x => by simp) _ _).trans ?_; split <;> rfl
@[simp] theorem State.handCount_link_gapTimer (s : State) (src : Source) (up : Bool) : (s.handCount src up).link.gapTimer = s.link.gapTimer := by unfold State.handCount; refine (foldl_keeps (·.link.gapTimer) _ (fun t x => by simp) _ _).trans ?_; split <;> rfl
@[simp] theorem State.handCount_link_rxBuffer (s : State) (src : Source) (up : Bool) : (s.handCount src up).link.rxBuffer = s.link.rxBuffer := by unfold State.handCount; refine (foldl_keeps (·.link.rxBuffer) _ (fun t x => by simp) _ _).trans ?_; split <;> rfl
@[simp] theorem State.handCount_link_replies (s : State) (src : Source) (up : Bool) : (s.handCount src up).link.replies = s.link.replies := by unfold State.handCount; refine (foldl_keeps (·.link.replies) _ (fun t x => by simp) _ _).trans ?_; split <;> rfl
@[simp] theorem State.handCount_link_tx (s : State) (src : Source) (up : Bool) : (s.handCount src up).link.tx = s.link.tx := by unfold State.handCount; refine (foldl_keeps (·.link.tx) _ (fun t x => by simp) _ _).trans ?_; split <;> rfl
@[simp] theorem State.handCount_link_txTimer (s : State) (src : Source) (up : Bool) : (s.handCount src up).link.txTimer = s.link.txTimer := by unfold State.handCount; refine (foldl_keeps (·.link.txTimer) _ (fun t x => by simp) _ _).trans ?_; split <;> rfl

@[simp] theorem State.encoderCount_link_baud (s : State) (n : EncoderId) (up : Bool) : (s.encoderCount n up).link.baud = s.link.baud := by simp [State.encoderCount]
@[simp] theorem State.encoderCount_link_rx (s : State) (n : EncoderId) (up : Bool) : (s.encoderCount n up).link.rx = s.link.rx := by simp [State.encoderCount]
@[simp] theorem State.encoderCount_link_waitHigh (s : State) (n : EncoderId) (up : Bool) : (s.encoderCount n up).link.waitHigh = s.link.waitHigh := by simp [State.encoderCount]
@[simp] theorem State.encoderCount_link_receiving (s : State) (n : EncoderId) (up : Bool) : (s.encoderCount n up).link.receiving = s.link.receiving := by simp [State.encoderCount]
@[simp] theorem State.encoderCount_link_gapTimer (s : State) (n : EncoderId) (up : Bool) : (s.encoderCount n up).link.gapTimer = s.link.gapTimer := by simp [State.encoderCount]
@[simp] theorem State.encoderCount_link_rxBuffer (s : State) (n : EncoderId) (up : Bool) : (s.encoderCount n up).link.rxBuffer = s.link.rxBuffer := by simp [State.encoderCount]
@[simp] theorem State.encoderCount_link_replies (s : State) (n : EncoderId) (up : Bool) : (s.encoderCount n up).link.replies = s.link.replies := by simp [State.encoderCount]
@[simp] theorem State.encoderCount_link_tx (s : State) (n : EncoderId) (up : Bool) : (s.encoderCount n up).link.tx = s.link.tx := by simp [State.encoderCount]
@[simp] theorem State.encoderCount_link_txTimer (s : State) (n : EncoderId) (up : Bool) : (s.encoderCount n up).link.txTimer = s.link.txTimer := by simp [State.encoderCount]

@[simp] theorem State.filteredTo_link_baud (s : State) (n : EncoderId) (z : EncoderPins) : (s.filteredTo n z).link.baud = s.link.baud := by unfold State.filteredTo; dsimp only; split <;> simp
@[simp] theorem State.filteredTo_link_rx (s : State) (n : EncoderId) (z : EncoderPins) : (s.filteredTo n z).link.rx = s.link.rx := by unfold State.filteredTo; dsimp only; split <;> simp
@[simp] theorem State.filteredTo_link_waitHigh (s : State) (n : EncoderId) (z : EncoderPins) : (s.filteredTo n z).link.waitHigh = s.link.waitHigh := by unfold State.filteredTo; dsimp only; split <;> simp
@[simp] theorem State.filteredTo_link_receiving (s : State) (n : EncoderId) (z : EncoderPins) : (s.filteredTo n z).link.receiving = s.link.receiving := by unfold State.filteredTo; dsimp only; split <;> simp
@[simp] theorem State.filteredTo_link_gapTimer (s : State) (n : EncoderId) (z : EncoderPins) : (s.filteredTo n z).link.gapTimer = s.link.gapTimer := by unfold State.filteredTo; dsimp only; split <;> simp
@[simp] theorem State.filteredTo_link_rxBuffer (s : State) (n : EncoderId) (z : EncoderPins) : (s.filteredTo n z).link.rxBuffer = s.link.rxBuffer := by unfold State.filteredTo; dsimp only; split <;> simp
@[simp] theorem State.filteredTo_link_replies (s : State) (n : EncoderId) (z : EncoderPins) : (s.filteredTo n z).link.replies = s.link.replies := by unfold State.filteredTo; dsimp only; split <;> simp
@[simp] theorem State.filteredTo_link_tx (s : State) (n : EncoderId) (z : EncoderPins) : (s.filteredTo n z).link.tx = s.link.tx := by unfold State.filteredTo; dsimp only; split <;> simp
@[simp] theorem State.filteredTo_link_txTimer (s : State) (n : EncoderId) (z : EncoderPins) : (s.filteredTo n z).link.txTimer = s.link.txTimer := by unfold State.filteredTo; dsimp only; split <;> simp

@[simp] theorem State.encoderPins_link_baud (s : State) (n : EncoderId) (z : EncoderPins) : (s.encoderPins n z).link.baud = s.link.baud := by unfold State.encoderPins; (repeat' first | split | (dsimp only; split)) <;> simp
@[simp] theorem State.encoderPins_link_rx (s : State) (n : EncoderId) (z : EncoderPins) : (s.encoderPins n z).link.rx = s.link.rx := by unfold State.encoderPins; (repeat' first | split | (dsimp only; split)) <;> simp
@[simp] theorem State.encoderPins_link_waitHigh (s : State) (n : EncoderId) (z : EncoderPins) : (s.encoderPins n z).link.waitHigh = s.link.waitHigh := by unfold State.encoderPins; (repeat' first | split | (dsimp only; split)) <;> simp
@[simp] theorem State.encoderPins_link_receiving (s : State) (n : EncoderId) (z : EncoderPins) : (s.encoderPins n z).link.receiving = s.link.receiving := by unfold State.encoderPins; (repeat' first | split | (dsimp only; split)) <;> simp
@[simp] theorem State.encoderPins_link_gapTimer (s : State) (n : EncoderId) (z : EncoderPins) : (s.encoderPins n z).link.gapTimer = s.link.gapTimer := by unfold State.encoderPins; (repeat' first | split | (dsimp only; split)) <;> simp
@[simp] theorem State.encoderPins_link_rxBuffer (s : State) (n : EncoderId) (z : EncoderPins) : (s.encoderPins n z).link.rxBuffer = s.link.rxBuffer := by unfold State.encoderPins; (repeat' first | split | (dsimp only; split)) <;> simp
@[simp] theorem State.encoderPins_link_replies (s : State) (n : EncoderId) (z : EncoderPins) : (s.encoderPins n z).link.replies = s.link.replies := by unfold State.encoderPins; (repeat' first | split | (dsimp only; split)) <;> simp
@[simp] theorem State.encoderPins_link_tx (s : State) (n : EncoderId) (z : EncoderPins) : (s.encoderPins n z).link.tx = s.link.tx := by unfold State.encoderPins; (repeat' first | split | (dsimp only; split)) <;> simp
@[simp] theorem State.encoderPins_link_txTimer (s : State) (n : EncoderId) (z : EncoderPins) : (s.encoderPins n z).link.txTimer = s.link.txTimer := by unfold State.encoderPins; (repeat' first | split | (dsimp only; split)) <;> simp

@[simp] theorem State.filteredChange_link_baud (s : State) (n : EncoderId) : (s.filteredChange n).link.baud = s.link.baud := by simp [State.filteredChange]
@[simp] theorem State.filteredChange_link_rx (s : State) (n : EncoderId) : (s.filteredChange n).link.rx = s.link.rx := by simp [State.filteredChange]
@[simp] theorem State.filteredChange_link_waitHigh (s : State) (n : EncoderId) : (s.filteredChange n).link.waitHigh = s.link.waitHigh := by simp [State.filteredChange]
@[simp] theorem State.filteredChange_link_receiving (s : State) (n : EncoderId) : (s.filteredChange n).link.receiving = s.link.receiving := by simp [State.filteredChange]
@[simp] theorem State.filteredChange_link_gapTimer (s : State) (n : EncoderId) : (s.filteredChange n).link.gapTimer = s.link.gapTimer := by simp [State.filteredChange]
@[simp] theorem State.filteredChange_link_rxBuffer (s : State) (n : EncoderId) : (s.filteredChange n).link.rxBuffer = s.link.rxBuffer := by simp [State.filteredChange]
@[simp] theorem State.filteredChange_link_replies (s : State) (n : EncoderId) : (s.filteredChange n).link.replies = s.link.replies := by simp [State.filteredChange]
@[simp] theorem State.filteredChange_link_tx (s : State) (n : EncoderId) : (s.filteredChange n).link.tx = s.link.tx := by simp [State.filteredChange]
@[simp] theorem State.filteredChange_link_txTimer (s : State) (n : EncoderId) : (s.filteredChange n).link.txTimer = s.link.txTimer := by simp [State.filteredChange]

@[simp] theorem State.flushShot_link_baud (s : State) (h : Handle) : (s.flushShot h).link.baud = s.link.baud := by simp [State.flushShot]
@[simp] theorem State.flushShot_link_rx (s : State) (h : Handle) : (s.flushShot h).link.rx = s.link.rx := by simp [State.flushShot]
@[simp] theorem State.flushShot_link_waitHigh (s : State) (h : Handle) : (s.flushShot h).link.waitHigh = s.link.waitHigh := by simp [State.flushShot]
@[simp] theorem State.flushShot_link_receiving (s : State) (h : Handle) : (s.flushShot h).link.receiving = s.link.receiving := by simp [State.flushShot]
@[simp] theorem State.flushShot_link_gapTimer (s : State) (h : Handle) : (s.flushShot h).link.gapTimer = s.link.gapTimer := by simp [State.flushShot]
@[simp] theorem State.flushShot_link_rxBuffer (s : State) (h : Handle) : (s.flushShot h).link.rxBuffer = s.link.rxBuffer := by simp [State.flushShot]
@[simp] theorem State.flushShot_link_replies (s : State) (h : Handle) : (s.flushShot h).link.replies = s.link.replies := by simp [State.flushShot]
@[simp] theorem State.flushShot_link_tx (s : State) (h : Handle) : (s.flushShot h).link.tx = s.link.tx := by simp [State.flushShot]
@[simp] theorem State.flushShot_link_txTimer (s : State) (h : Handle) : (s.flushShot h).link.txTimer = s.link.txTimer := by simp [State.flushShot]

@[simp] theorem State.disarm_link_baud (s : State) (l : LaneId) : (s.disarm l).link.baud = s.link.baud := by unfold State.disarm; refine (foldl_keeps (·.link.baud) _ (fun t x => by simp) _ _).trans ?_; simp
@[simp] theorem State.disarm_link_rx (s : State) (l : LaneId) : (s.disarm l).link.rx = s.link.rx := by unfold State.disarm; refine (foldl_keeps (·.link.rx) _ (fun t x => by simp) _ _).trans ?_; simp
@[simp] theorem State.disarm_link_waitHigh (s : State) (l : LaneId) : (s.disarm l).link.waitHigh = s.link.waitHigh := by unfold State.disarm; refine (foldl_keeps (·.link.waitHigh) _ (fun t x => by simp) _ _).trans ?_; simp
@[simp] theorem State.disarm_link_receiving (s : State) (l : LaneId) : (s.disarm l).link.receiving = s.link.receiving := by unfold State.disarm; refine (foldl_keeps (·.link.receiving) _ (fun t x => by simp) _ _).trans ?_; simp
@[simp] theorem State.disarm_link_gapTimer (s : State) (l : LaneId) : (s.disarm l).link.gapTimer = s.link.gapTimer := by unfold State.disarm; refine (foldl_keeps (·.link.gapTimer) _ (fun t x => by simp) _ _).trans ?_; simp
@[simp] theorem State.disarm_link_rxBuffer (s : State) (l : LaneId) : (s.disarm l).link.rxBuffer = s.link.rxBuffer := by unfold State.disarm; refine (foldl_keeps (·.link.rxBuffer) _ (fun t x => by simp) _ _).trans ?_; simp
@[simp] theorem State.disarm_link_replies (s : State) (l : LaneId) : (s.disarm l).link.replies = s.link.replies := by unfold State.disarm; refine (foldl_keeps (·.link.replies) _ (fun t x => by simp) _ _).trans ?_; simp
@[simp] theorem State.disarm_link_tx (s : State) (l : LaneId) : (s.disarm l).link.tx = s.link.tx := by unfold State.disarm; refine (foldl_keeps (·.link.tx) _ (fun t x => by simp) _ _).trans ?_; simp
@[simp] theorem State.disarm_link_txTimer (s : State) (l : LaneId) : (s.disarm l).link.txTimer = s.link.txTimer := by unfold State.disarm; refine (foldl_keeps (·.link.txTimer) _ (fun t x => by simp) _ _).trans ?_; simp

@[simp] theorem State.cancelShot_link_baud (s : State) (h : Handle) (sh : Shot) : (s.cancelShot h sh).link.baud = s.link.baud := by simp [State.cancelShot]
@[simp] theorem State.cancelShot_link_rx (s : State) (h : Handle) (sh : Shot) : (s.cancelShot h sh).link.rx = s.link.rx := by simp [State.cancelShot]
@[simp] theorem State.cancelShot_link_waitHigh (s : State) (h : Handle) (sh : Shot) : (s.cancelShot h sh).link.waitHigh = s.link.waitHigh := by simp [State.cancelShot]
@[simp] theorem State.cancelShot_link_receiving (s : State) (h : Handle) (sh : Shot) : (s.cancelShot h sh).link.receiving = s.link.receiving := by simp [State.cancelShot]
@[simp] theorem State.cancelShot_link_gapTimer (s : State) (h : Handle) (sh : Shot) : (s.cancelShot h sh).link.gapTimer = s.link.gapTimer := by simp [State.cancelShot]
@[simp] theorem State.cancelShot_link_rxBuffer (s : State) (h : Handle) (sh : Shot) : (s.cancelShot h sh).link.rxBuffer = s.link.rxBuffer := by simp [State.cancelShot]
@[simp] theorem State.cancelShot_link_replies (s : State) (h : Handle) (sh : Shot) : (s.cancelShot h sh).link.replies = s.link.replies := by simp [State.cancelShot]
@[simp] theorem State.cancelShot_link_tx (s : State) (h : Handle) (sh : Shot) : (s.cancelShot h sh).link.tx = s.link.tx := by simp [State.cancelShot]
@[simp] theorem State.cancelShot_link_txTimer (s : State) (h : Handle) (sh : Shot) : (s.cancelShot h sh).link.txTimer = s.link.txTimer := by simp [State.cancelShot]

@[simp] theorem State.endIfResolved_link_baud (s : State) (h : Handle) : (s.endIfResolved h).link.baud = s.link.baud := by unfold State.endIfResolved; (repeat' first | split | (dsimp only; split)) <;> simp
@[simp] theorem State.endIfResolved_link_rx (s : State) (h : Handle) : (s.endIfResolved h).link.rx = s.link.rx := by unfold State.endIfResolved; (repeat' first | split | (dsimp only; split)) <;> simp
@[simp] theorem State.endIfResolved_link_waitHigh (s : State) (h : Handle) : (s.endIfResolved h).link.waitHigh = s.link.waitHigh := by unfold State.endIfResolved; (repeat' first | split | (dsimp only; split)) <;> simp
@[simp] theorem State.endIfResolved_link_receiving (s : State) (h : Handle) : (s.endIfResolved h).link.receiving = s.link.receiving := by unfold State.endIfResolved; (repeat' first | split | (dsimp only; split)) <;> simp
@[simp] theorem State.endIfResolved_link_gapTimer (s : State) (h : Handle) : (s.endIfResolved h).link.gapTimer = s.link.gapTimer := by unfold State.endIfResolved; (repeat' first | split | (dsimp only; split)) <;> simp
@[simp] theorem State.endIfResolved_link_rxBuffer (s : State) (h : Handle) : (s.endIfResolved h).link.rxBuffer = s.link.rxBuffer := by unfold State.endIfResolved; (repeat' first | split | (dsimp only; split)) <;> simp
@[simp] theorem State.endIfResolved_link_replies (s : State) (h : Handle) : (s.endIfResolved h).link.replies = s.link.replies := by unfold State.endIfResolved; (repeat' first | split | (dsimp only; split)) <;> simp
@[simp] theorem State.endIfResolved_link_tx (s : State) (h : Handle) : (s.endIfResolved h).link.tx = s.link.tx := by unfold State.endIfResolved; (repeat' first | split | (dsimp only; split)) <;> simp
@[simp] theorem State.endIfResolved_link_txTimer (s : State) (h : Handle) : (s.endIfResolved h).link.txTimer = s.link.txTimer := by unfold State.endIfResolved; (repeat' first | split | (dsimp only; split)) <;> simp

@[simp] theorem State.frameStarted_link_baud (s : State) (c : CameraId) : (s.frameStarted c).link.baud = s.link.baud := by unfold State.frameStarted; (repeat' first | split | (dsimp only; split)) <;> simp
@[simp] theorem State.frameStarted_link_rx (s : State) (c : CameraId) : (s.frameStarted c).link.rx = s.link.rx := by unfold State.frameStarted; (repeat' first | split | (dsimp only; split)) <;> simp
@[simp] theorem State.frameStarted_link_waitHigh (s : State) (c : CameraId) : (s.frameStarted c).link.waitHigh = s.link.waitHigh := by unfold State.frameStarted; (repeat' first | split | (dsimp only; split)) <;> simp
@[simp] theorem State.frameStarted_link_receiving (s : State) (c : CameraId) : (s.frameStarted c).link.receiving = s.link.receiving := by unfold State.frameStarted; (repeat' first | split | (dsimp only; split)) <;> simp
@[simp] theorem State.frameStarted_link_gapTimer (s : State) (c : CameraId) : (s.frameStarted c).link.gapTimer = s.link.gapTimer := by unfold State.frameStarted; (repeat' first | split | (dsimp only; split)) <;> simp
@[simp] theorem State.frameStarted_link_rxBuffer (s : State) (c : CameraId) : (s.frameStarted c).link.rxBuffer = s.link.rxBuffer := by unfold State.frameStarted; (repeat' first | split | (dsimp only; split)) <;> simp
@[simp] theorem State.frameStarted_link_replies (s : State) (c : CameraId) : (s.frameStarted c).link.replies = s.link.replies := by unfold State.frameStarted; (repeat' first | split | (dsimp only; split)) <;> simp
@[simp] theorem State.frameStarted_link_tx (s : State) (c : CameraId) : (s.frameStarted c).link.tx = s.link.tx := by unfold State.frameStarted; (repeat' first | split | (dsimp only; split)) <;> simp
@[simp] theorem State.frameStarted_link_txTimer (s : State) (c : CameraId) : (s.frameStarted c).link.txTimer = s.link.txTimer := by unfold State.frameStarted; (repeat' first | split | (dsimp only; split)) <;> simp

@[simp] theorem State.expireOldest_link_baud (s : State) (c : CameraId) : (s.expireOldest c).link.baud = s.link.baud := by unfold State.expireOldest; dsimp only; split <;> simp
@[simp] theorem State.expireOldest_link_rx (s : State) (c : CameraId) : (s.expireOldest c).link.rx = s.link.rx := by unfold State.expireOldest; dsimp only; split <;> simp
@[simp] theorem State.expireOldest_link_waitHigh (s : State) (c : CameraId) : (s.expireOldest c).link.waitHigh = s.link.waitHigh := by unfold State.expireOldest; dsimp only; split <;> simp
@[simp] theorem State.expireOldest_link_receiving (s : State) (c : CameraId) : (s.expireOldest c).link.receiving = s.link.receiving := by unfold State.expireOldest; dsimp only; split <;> simp
@[simp] theorem State.expireOldest_link_gapTimer (s : State) (c : CameraId) : (s.expireOldest c).link.gapTimer = s.link.gapTimer := by unfold State.expireOldest; dsimp only; split <;> simp
@[simp] theorem State.expireOldest_link_rxBuffer (s : State) (c : CameraId) : (s.expireOldest c).link.rxBuffer = s.link.rxBuffer := by unfold State.expireOldest; dsimp only; split <;> simp
@[simp] theorem State.expireOldest_link_replies (s : State) (c : CameraId) : (s.expireOldest c).link.replies = s.link.replies := by unfold State.expireOldest; dsimp only; split <;> simp
@[simp] theorem State.expireOldest_link_tx (s : State) (c : CameraId) : (s.expireOldest c).link.tx = s.link.tx := by unfold State.expireOldest; dsimp only; split <;> simp
@[simp] theorem State.expireOldest_link_txTimer (s : State) (c : CameraId) : (s.expireOldest c).link.txTimer = s.link.txTimer := by unfold State.expireOldest; dsimp only; split <;> simp

@[simp] theorem State.holdOutputs_link_baud (s : State) (b : BitVec 12) : (s.holdOutputs b).link.baud = s.link.baud := by simp [State.holdOutputs]
@[simp] theorem State.holdOutputs_link_rx (s : State) (b : BitVec 12) : (s.holdOutputs b).link.rx = s.link.rx := by simp [State.holdOutputs]
@[simp] theorem State.holdOutputs_link_waitHigh (s : State) (b : BitVec 12) : (s.holdOutputs b).link.waitHigh = s.link.waitHigh := by simp [State.holdOutputs]
@[simp] theorem State.holdOutputs_link_receiving (s : State) (b : BitVec 12) : (s.holdOutputs b).link.receiving = s.link.receiving := by simp [State.holdOutputs]
@[simp] theorem State.holdOutputs_link_gapTimer (s : State) (b : BitVec 12) : (s.holdOutputs b).link.gapTimer = s.link.gapTimer := by simp [State.holdOutputs]
@[simp] theorem State.holdOutputs_link_rxBuffer (s : State) (b : BitVec 12) : (s.holdOutputs b).link.rxBuffer = s.link.rxBuffer := by simp [State.holdOutputs]
@[simp] theorem State.holdOutputs_link_replies (s : State) (b : BitVec 12) : (s.holdOutputs b).link.replies = s.link.replies := by simp [State.holdOutputs]
@[simp] theorem State.holdOutputs_link_tx (s : State) (b : BitVec 12) : (s.holdOutputs b).link.tx = s.link.tx := by simp [State.holdOutputs]
@[simp] theorem State.holdOutputs_link_txTimer (s : State) (b : BitVec 12) : (s.holdOutputs b).link.txTimer = s.link.txTimer := by simp [State.holdOutputs]

@[simp] theorem State.onset_link_baud (s : State) (n : SafeId) : (s.onset n).link.baud = s.link.baud := by simp [State.onset]
@[simp] theorem State.onset_link_rx (s : State) (n : SafeId) : (s.onset n).link.rx = s.link.rx := by simp [State.onset]
@[simp] theorem State.onset_link_waitHigh (s : State) (n : SafeId) : (s.onset n).link.waitHigh = s.link.waitHigh := by simp [State.onset]
@[simp] theorem State.onset_link_receiving (s : State) (n : SafeId) : (s.onset n).link.receiving = s.link.receiving := by simp [State.onset]
@[simp] theorem State.onset_link_gapTimer (s : State) (n : SafeId) : (s.onset n).link.gapTimer = s.link.gapTimer := by simp [State.onset]
@[simp] theorem State.onset_link_rxBuffer (s : State) (n : SafeId) : (s.onset n).link.rxBuffer = s.link.rxBuffer := by simp [State.onset]
@[simp] theorem State.onset_link_replies (s : State) (n : SafeId) : (s.onset n).link.replies = s.link.replies := by simp [State.onset]
@[simp] theorem State.onset_link_tx (s : State) (n : SafeId) : (s.onset n).link.tx = s.link.tx := by simp [State.onset]
@[simp] theorem State.onset_link_txTimer (s : State) (n : SafeId) : (s.onset n).link.txTimer = s.link.txTimer := by simp [State.onset]

@[simp] theorem State.safePin_link_baud (s : State) (n : SafeId) (x : Level) : (s.safePin n x).link.baud = s.link.baud := by unfold State.safePin; dsimp only; split <;> simp
@[simp] theorem State.safePin_link_rx (s : State) (n : SafeId) (x : Level) : (s.safePin n x).link.rx = s.link.rx := by unfold State.safePin; dsimp only; split <;> simp
@[simp] theorem State.safePin_link_waitHigh (s : State) (n : SafeId) (x : Level) : (s.safePin n x).link.waitHigh = s.link.waitHigh := by unfold State.safePin; dsimp only; split <;> simp
@[simp] theorem State.safePin_link_receiving (s : State) (n : SafeId) (x : Level) : (s.safePin n x).link.receiving = s.link.receiving := by unfold State.safePin; dsimp only; split <;> simp
@[simp] theorem State.safePin_link_gapTimer (s : State) (n : SafeId) (x : Level) : (s.safePin n x).link.gapTimer = s.link.gapTimer := by unfold State.safePin; dsimp only; split <;> simp
@[simp] theorem State.safePin_link_rxBuffer (s : State) (n : SafeId) (x : Level) : (s.safePin n x).link.rxBuffer = s.link.rxBuffer := by unfold State.safePin; dsimp only; split <;> simp
@[simp] theorem State.safePin_link_replies (s : State) (n : SafeId) (x : Level) : (s.safePin n x).link.replies = s.link.replies := by unfold State.safePin; dsimp only; split <;> simp
@[simp] theorem State.safePin_link_tx (s : State) (n : SafeId) (x : Level) : (s.safePin n x).link.tx = s.link.tx := by unfold State.safePin; dsimp only; split <;> simp
@[simp] theorem State.safePin_link_txTimer (s : State) (n : SafeId) (x : Level) : (s.safePin n x).link.txTimer = s.link.txTimer := by unfold State.safePin; dsimp only; split <;> simp

@[simp] theorem State.installSafe_link_baud (s : State) (n : SafeId) (d : Detection) (g : BitVec 12) (b : BitVec 4) : (s.installSafe n d g b).link.baud = s.link.baud := by unfold State.installSafe; (repeat' first | split | (dsimp only; split)) <;> simp
@[simp] theorem State.installSafe_link_rx (s : State) (n : SafeId) (d : Detection) (g : BitVec 12) (b : BitVec 4) : (s.installSafe n d g b).link.rx = s.link.rx := by unfold State.installSafe; (repeat' first | split | (dsimp only; split)) <;> simp
@[simp] theorem State.installSafe_link_waitHigh (s : State) (n : SafeId) (d : Detection) (g : BitVec 12) (b : BitVec 4) : (s.installSafe n d g b).link.waitHigh = s.link.waitHigh := by unfold State.installSafe; (repeat' first | split | (dsimp only; split)) <;> simp
@[simp] theorem State.installSafe_link_receiving (s : State) (n : SafeId) (d : Detection) (g : BitVec 12) (b : BitVec 4) : (s.installSafe n d g b).link.receiving = s.link.receiving := by unfold State.installSafe; (repeat' first | split | (dsimp only; split)) <;> simp
@[simp] theorem State.installSafe_link_gapTimer (s : State) (n : SafeId) (d : Detection) (g : BitVec 12) (b : BitVec 4) : (s.installSafe n d g b).link.gapTimer = s.link.gapTimer := by unfold State.installSafe; (repeat' first | split | (dsimp only; split)) <;> simp
@[simp] theorem State.installSafe_link_rxBuffer (s : State) (n : SafeId) (d : Detection) (g : BitVec 12) (b : BitVec 4) : (s.installSafe n d g b).link.rxBuffer = s.link.rxBuffer := by unfold State.installSafe; (repeat' first | split | (dsimp only; split)) <;> simp
@[simp] theorem State.installSafe_link_replies (s : State) (n : SafeId) (d : Detection) (g : BitVec 12) (b : BitVec 4) : (s.installSafe n d g b).link.replies = s.link.replies := by unfold State.installSafe; (repeat' first | split | (dsimp only; split)) <;> simp
@[simp] theorem State.installSafe_link_tx (s : State) (n : SafeId) (d : Detection) (g : BitVec 12) (b : BitVec 4) : (s.installSafe n d g b).link.tx = s.link.tx := by unfold State.installSafe; (repeat' first | split | (dsimp only; split)) <;> simp
@[simp] theorem State.installSafe_link_txTimer (s : State) (n : SafeId) (d : Detection) (g : BitVec 12) (b : BitVec 4) : (s.installSafe n d g b).link.txTimer = s.link.txTimer := by unfold State.installSafe; (repeat' first | split | (dsimp only; split)) <;> simp

/-! ## The report-enabled set is left alone -/

@[simp] theorem State.appendOutcome_enabled (s : State) (r : OutcomeRecord) : (s.appendOutcome r).alarms.enabled = s.alarms.enabled := by unfold State.appendOutcome; (repeat' first | split | (dsimp only; split)) <;> simp
@[simp] theorem State.endShot_enabled (s : State) (h : Handle) (c : OutcomeCode) : (s.endShot h c).alarms.enabled = s.alarms.enabled := by unfold State.endShot; split <;> simp
@[simp] theorem State.markCollision_enabled (s : State) (k : RunSlotId) (js : List RunSlotId) : (s.markCollision k js).alarms.enabled = s.alarms.enabled := by unfold State.markCollision; rw [State.latch_enabled]; exact foldl_keeps (·.alarms.enabled) _ (fun t j => by split <;> simp) _ s
@[simp] theorem State.startPulse_enabled (s : State) (k : RunSlotId) (x : Pulse × Nat) : (State.startPulse k s x).alarms.enabled = s.alarms.enabled := by unfold State.startPulse; (repeat' first | split | (dsimp only; split)) <;> simp
@[simp] theorem State.leaveFiring_enabled (s : State) (h : Handle) : (s.leaveFiring h).alarms.enabled = s.alarms.enabled := by unfold State.leaveFiring; (repeat' first | split | (dsimp only; split)) <;> simp
@[simp] theorem State.completeRun_enabled (s : State) (k : RunSlotId) (r : Run) : (s.completeRun k r).alarms.enabled = s.alarms.enabled := by simp [State.completeRun]
@[simp] theorem State.abortRun_enabled (s : State) (k : RunSlotId) : (s.abortRun k).alarms.enabled = s.alarms.enabled := by unfold State.abortRun; split <;> simp
@[simp] theorem State.abortNaming_enabled (s : State) (b : BitVec 12) : (s.abortNaming b).alarms.enabled = s.alarms.enabled := foldl_keeps (·.alarms.enabled) State.abortRun (fun t x => by simp) _ s
@[simp] theorem State.startPulses_enabled (s : State) (k : RunSlotId) (xs : List (Pulse × Nat)) : (xs.foldl (State.startPulse k) s).alarms.enabled = s.alarms.enabled := foldl_keeps (·.alarms.enabled) _ (fun t x => by simp) _ s
@[simp] theorem State.runEvent_enabled (s : State) (k : RunSlotId) : (s.runEvent k).alarms.enabled = s.alarms.enabled := by unfold State.runEvent; (repeat' first | split | (dsimp only; split)) <;> simp
@[simp] theorem State.fire_enabled (s : State) (k : RunSlotId) (h : Handle) (sh : Shot) (v : Version) : (s.fire k h sh v).alarms.enabled = s.alarms.enabled := by simp [State.fire]
@[simp] theorem State.fireAttempt_enabled (s : State) (h : Handle) : (s.fireAttempt h).alarms.enabled = s.alarms.enabled := by unfold State.fireAttempt; (repeat' first | split | (dsimp only; split)) <;> simp
@[simp] theorem State.reach_enabled (s : State) (l : LaneId) (h : Handle) : (s.reach l h).alarms.enabled = s.alarms.enabled := by unfold State.reach; dsimp only; split <;> simp
@[simp] theorem State.checkHead_enabled (s : State) (l : LaneId) : (s.checkHead l).alarms.enabled = s.alarms.enabled := by unfold State.checkHead; (repeat' first | split | (dsimp only; split)) <;> simp
@[simp] theorem State.checkReverse_enabled (s : State) (l : LaneId) : (s.checkReverse l).alarms.enabled = s.alarms.enabled := by unfold State.checkReverse; dsimp only; (repeat' first | split | (dsimp only; split)) <;> simp
@[simp] theorem State.laneCount_enabled (s : State) (up : Bool) (l : LaneId) : (State.laneCount up s l).alarms.enabled = s.alarms.enabled := by unfold State.laneCount; (repeat' first | split | (dsimp only; split)) <;> simp
@[simp] theorem State.handCount_enabled (s : State) (src : Source) (up : Bool) : (s.handCount src up).alarms.enabled = s.alarms.enabled := by unfold State.handCount; refine (foldl_keeps (·.alarms.enabled) _ (fun t x => by simp) _ _).trans ?_; split <;> rfl
@[simp] theorem State.encoderCount_enabled (s : State) (n : EncoderId) (up : Bool) : (s.encoderCount n up).alarms.enabled = s.alarms.enabled := by simp [State.encoderCount]
@[simp] theorem State.filteredTo_enabled (s : State) (n : EncoderId) (z : EncoderPins) : (s.filteredTo n z).alarms.enabled = s.alarms.enabled := by unfold State.filteredTo; dsimp only; split <;> simp
@[simp] theorem State.encoderPins_enabled (s : State) (n : EncoderId) (z : EncoderPins) : (s.encoderPins n z).alarms.enabled = s.alarms.enabled := by unfold State.encoderPins; (repeat' first | split | (dsimp only; split)) <;> simp
@[simp] theorem State.filteredChange_enabled (s : State) (n : EncoderId) : (s.filteredChange n).alarms.enabled = s.alarms.enabled := by simp [State.filteredChange]
@[simp] theorem State.flushShot_enabled (s : State) (h : Handle) : (s.flushShot h).alarms.enabled = s.alarms.enabled := by simp [State.flushShot]
@[simp] theorem State.disarm_enabled (s : State) (l : LaneId) : (s.disarm l).alarms.enabled = s.alarms.enabled := by unfold State.disarm; refine (foldl_keeps (·.alarms.enabled) _ (fun t x => by simp) _ _).trans ?_; simp
@[simp] theorem State.cancelShot_enabled (s : State) (h : Handle) (sh : Shot) : (s.cancelShot h sh).alarms.enabled = s.alarms.enabled := by simp [State.cancelShot]
@[simp] theorem State.endIfResolved_enabled (s : State) (h : Handle) : (s.endIfResolved h).alarms.enabled = s.alarms.enabled := by unfold State.endIfResolved; (repeat' first | split | (dsimp only; split)) <;> simp
@[simp] theorem State.frameStarted_enabled (s : State) (c : CameraId) : (s.frameStarted c).alarms.enabled = s.alarms.enabled := by unfold State.frameStarted; (repeat' first | split | (dsimp only; split)) <;> simp
@[simp] theorem State.expireOldest_enabled (s : State) (c : CameraId) : (s.expireOldest c).alarms.enabled = s.alarms.enabled := by unfold State.expireOldest; dsimp only; split <;> simp
@[simp] theorem State.holdOutputs_enabled (s : State) (b : BitVec 12) : (s.holdOutputs b).alarms.enabled = s.alarms.enabled := by simp [State.holdOutputs]
@[simp] theorem State.onset_enabled (s : State) (n : SafeId) : (s.onset n).alarms.enabled = s.alarms.enabled := by simp [State.onset]
@[simp] theorem State.safePin_enabled (s : State) (n : SafeId) (x : Level) : (s.safePin n x).alarms.enabled = s.alarms.enabled := by unfold State.safePin; dsimp only; split <;> simp
@[simp] theorem State.installSafe_enabled (s : State) (n : SafeId) (d : Detection) (g : BitVec 12) (b : BitVec 4) : (s.installSafe n d g b).alarms.enabled = s.alarms.enabled := by unfold State.installSafe; (repeat' first | split | (dsimp only; split)) <;> simp

/-! ## Reports stay within their 8 places, and a latched alarm stays latched -/

theorem State.queueReport_reports (s : State) (r : Report) (hs : s.link.reports.length ≤ 8) : (s.queueReport r).link.reports.length ≤ 8 := by unfold State.queueReport; split <;> simp_all [Link.queueReport_length]
theorem State.latch_reports (s : State) (a : Alarm) (hs : s.link.reports.length ≤ 8) : (s.latch a).link.reports.length ≤ 8 := by unfold State.latch; (repeat' first | split | (dsimp only; split)) <;> (try apply State.queueReport_reports) <;> simpa using hs
theorem State.appendOutcome_reports (s : State) (r : OutcomeRecord) (hs : s.link.reports.length ≤ 8) : (s.appendOutcome r).link.reports.length ≤ 8 := by unfold State.appendOutcome; (repeat' first | split | (dsimp only; split)) <;> first | exact hs | (exact State.queueReport_reports _ _ hs) | exact State.latch_reports _ _ hs
theorem State.endShot_reports (s : State) (h : Handle) (c : OutcomeCode) (hs : s.link.reports.length ≤ 8) : (s.endShot h c).link.reports.length ≤ 8 := by unfold State.endShot; split; exact hs; exact State.appendOutcome_reports _ _ hs
theorem State.markCollision_reports (s : State) (k : RunSlotId) (js : List RunSlotId) (hs : s.link.reports.length ≤ 8) : (s.markCollision k js).link.reports.length ≤ 8 := by unfold State.markCollision; refine State.latch_reports _ _ ?_; exact foldl_holds (fun t => t.link.reports.length ≤ 8) _ (fun t j ht => by split; exact ht; exact ht) _ s hs
theorem State.startPulse_reports (s : State) (k : RunSlotId) (x : Pulse × Nat) (hs : s.link.reports.length ≤ 8) : (State.startPulse k s x).link.reports.length ≤ 8 := by unfold State.startPulse; (repeat' first | split | (dsimp only; split)) <;> first | exact hs | (unfold State.handTrigger; (repeat' first | split | (dsimp only; split)) <;> first | exact hs | exact State.markCollision_reports _ _ _ hs) | exact State.markCollision_reports _ _ _ hs
theorem State.leaveFiring_reports (s : State) (h : Handle) (hs : s.link.reports.length ≤ 8) : (s.leaveFiring h).link.reports.length ≤ 8 := by unfold State.leaveFiring; (repeat' first | split | (dsimp only; split)) <;> first | exact hs | exact State.endShot_reports _ _ _ hs
theorem State.completeRun_reports (s : State) (k : RunSlotId) (r : Run) (hs : s.link.reports.length ≤ 8) : (s.completeRun k r).link.reports.length ≤ 8 := by unfold State.completeRun; exact State.leaveFiring_reports _ _ hs
theorem State.abortRun_reports (s : State) (k : RunSlotId) (hs : s.link.reports.length ≤ 8) : (s.abortRun k).link.reports.length ≤ 8 := by unfold State.abortRun; split; exact hs; exact State.leaveFiring_reports _ _ hs
theorem State.abortNaming_reports (s : State) (b : BitVec 12) (hs : s.link.reports.length ≤ 8) : (s.abortNaming b).link.reports.length ≤ 8 := foldl_holds (fun t => t.link.reports.length ≤ 8) State.abortRun (fun t x ht => State.abortRun_reports t _ ht) _ s hs
theorem State.startPulses_reports (s : State) (k : RunSlotId) (xs : List (Pulse × Nat)) (hs : s.link.reports.length ≤ 8) : (xs.foldl (State.startPulse k) s).link.reports.length ≤ 8 := foldl_holds (fun t => t.link.reports.length ≤ 8) _ (fun t x ht => State.startPulse_reports t _ _ ht) _ s hs
theorem State.runEvent_reports (s : State) (k : RunSlotId) (hs : s.link.reports.length ≤ 8) : (s.runEvent k).link.reports.length ≤ 8 := by unfold State.runEvent; (repeat' first | split | (dsimp only; split)) <;> first | exact hs | exact State.completeRun_reports _ _ _ hs | exact State.startPulses_reports _ _ _ hs
theorem State.fire_reports (s : State) (k : RunSlotId) (h : Handle) (sh : Shot) (v : Version) (hs : s.link.reports.length ≤ 8) : (s.fire k h sh v).link.reports.length ≤ 8 := by unfold State.fire; exact State.startPulses_reports _ _ _ hs
theorem State.fireAttempt_reports (s : State) (h : Handle) (hs : s.link.reports.length ≤ 8) : (s.fireAttempt h).link.reports.length ≤ 8 := by unfold State.fireAttempt; (repeat' first | split | (dsimp only; split)) <;> first | exact hs | exact State.endShot_reports _ _ _ hs | exact State.fire_reports _ _ _ _ _ hs
theorem State.reach_reports (s : State) (l : LaneId) (h : Handle) (hs : s.link.reports.length ≤ 8) : (s.reach l h).link.reports.length ≤ 8 := by unfold State.reach; dsimp only; split <;> first | (simpa using hs) | (refine State.fireAttempt_reports _ _ ?_; simpa using hs) | (refine State.endShot_reports _ _ _ ?_; simpa using hs)
theorem State.checkHead_reports (s : State) (l : LaneId) (hs : s.link.reports.length ≤ 8) : (s.checkHead l).link.reports.length ≤ 8 := by unfold State.checkHead; (repeat' first | split | (dsimp only; split)) <;> first | exact hs | exact State.reach_reports _ _ _ hs
theorem State.checkReverse_reports (s : State) (l : LaneId) (hs : s.link.reports.length ≤ 8) : (s.checkReverse l).link.reports.length ≤ 8 := by unfold State.checkReverse; dsimp only; (repeat' first | split | (dsimp only; split)) <;> first | exact hs | exact State.latch_reports _ _ hs
theorem State.laneCount_reports (s : State) (up : Bool) (l : LaneId) (hs : s.link.reports.length ≤ 8) : (State.laneCount up s l).link.reports.length ≤ 8 := by unfold State.laneCount; (repeat' first | split | (dsimp only; split)) <;> first | exact hs | exact State.checkHead_reports _ _ hs | exact State.checkReverse_reports _ _ hs
theorem State.handCount_reports (s : State) (src : Source) (up : Bool) (hs : s.link.reports.length ≤ 8) : (s.handCount src up).link.reports.length ≤ 8 := by unfold State.handCount; refine foldl_holds (fun t => t.link.reports.length ≤ 8) _ (fun t x ht => State.laneCount_reports t _ _ ht) _ _ ?_; split <;> exact hs
theorem State.encoderCount_reports (s : State) (n : EncoderId) (up : Bool) (hs : s.link.reports.length ≤ 8) : (s.encoderCount n up).link.reports.length ≤ 8 := by unfold State.encoderCount; exact State.handCount_reports _ _ _ hs
theorem State.filteredTo_reports (s : State) (n : EncoderId) (z : EncoderPins) (hs : s.link.reports.length ≤ 8) : (s.filteredTo n z).link.reports.length ≤ 8 := by unfold State.filteredTo; dsimp only; split <;> first | exact hs | exact State.latch_reports _ _ hs | exact State.encoderCount_reports _ _ _ hs
theorem State.encoderPins_reports (s : State) (n : EncoderId) (z : EncoderPins) (hs : s.link.reports.length ≤ 8) : (s.encoderPins n z).link.reports.length ≤ 8 := by unfold State.encoderPins; (repeat' first | split | (dsimp only; split)) <;> first | exact hs | exact State.filteredTo_reports _ _ _ hs
theorem State.filteredChange_reports (s : State) (n : EncoderId) (hs : s.link.reports.length ≤ 8) : (s.filteredChange n).link.reports.length ≤ 8 := by unfold State.filteredChange; exact State.filteredTo_reports _ _ _ hs
theorem State.flushShot_reports (s : State) (h : Handle) (hs : s.link.reports.length ≤ 8) : (s.flushShot h).link.reports.length ≤ 8 := by unfold State.flushShot; refine State.endShot_reports _ _ _ ?_; simpa using hs
theorem State.disarm_reports (s : State) (l : LaneId) (hs : s.link.reports.length ≤ 8) : (s.disarm l).link.reports.length ≤ 8 := by unfold State.disarm; exact foldl_holds (fun t => t.link.reports.length ≤ 8) _ (fun t x ht => State.flushShot_reports t _ ht) _ _ hs
theorem State.cancelShot_reports (s : State) (h : Handle) (sh : Shot) (hs : s.link.reports.length ≤ 8) : (s.cancelShot h sh).link.reports.length ≤ 8 := by unfold State.cancelShot; exact State.endShot_reports _ _ _ hs
theorem State.endIfResolved_reports (s : State) (h : Handle) (hs : s.link.reports.length ≤ 8) : (s.endIfResolved h).link.reports.length ≤ 8 := by unfold State.endIfResolved; (repeat' first | split | (dsimp only; split)) <;> first | exact hs | exact State.endShot_reports _ _ _ hs
theorem State.frameStarted_reports (s : State) (c : CameraId) (hs : s.link.reports.length ≤ 8) : (s.frameStarted c).link.reports.length ≤ 8 := by unfold State.frameStarted; (repeat' first | split | (dsimp only; split)) <;> first | exact hs | exact State.latch_reports _ _ hs | exact State.endIfResolved_reports _ _ hs
theorem State.expireOldest_reports (s : State) (c : CameraId) (hs : s.link.reports.length ≤ 8) : (s.expireOldest c).link.reports.length ≤ 8 := by unfold State.expireOldest; dsimp only; split; exact hs; exact State.endIfResolved_reports _ _ hs
theorem State.holdOutputs_reports (s : State) (b : BitVec 12) (hs : s.link.reports.length ≤ 8) : (s.holdOutputs b).link.reports.length ≤ 8 := by unfold State.holdOutputs; exact State.abortNaming_reports _ _ hs
theorem State.onset_reports (s : State) (n : SafeId) (hs : s.link.reports.length ≤ 8) : (s.onset n).link.reports.length ≤ 8 := by unfold State.onset; refine State.latch_reports _ _ ?_; simp only [State.haltLanes_link, State.haltLanes_alarms]; exact State.holdOutputs_reports _ _ hs
theorem State.safePin_reports (s : State) (n : SafeId) (x : Level) (hs : s.link.reports.length ≤ 8) : (s.safePin n x).link.reports.length ≤ 8 := by unfold State.safePin; dsimp only; split; exact State.onset_reports _ _ hs; exact hs
theorem State.installSafe_reports (s : State) (n : SafeId) (d : Detection) (g : BitVec 12) (b : BitVec 4) (hs : s.link.reports.length ≤ 8) : (s.installSafe n d g b).link.reports.length ≤ 8 := by unfold State.installSafe; (repeat' first | split | (dsimp only; split)) <;> first | exact hs | exact State.onset_reports _ _ hs | (simp only [State.haltLanes_link, State.haltLanes_alarms]; exact State.holdOutputs_reports _ _ hs)
theorem State.latch_keeps (s : State) (a : Alarm) (Q : AlarmSet → Prop) (hQ : ∀ x b, Q x → Q ⟨x.latched ||| Alarm.mask b, x.enabled⟩) (hs : Q s.alarms) : Q (s.latch a).alarms := by rw [State.latch_alarms_eq]; exact hQ _ _ hs
theorem State.appendOutcome_keeps (s : State) (r : OutcomeRecord) (Q : AlarmSet → Prop) (hQ : ∀ x b, Q x → Q ⟨x.latched ||| Alarm.mask b, x.enabled⟩) (hs : Q s.alarms) : Q (s.appendOutcome r).alarms := by unfold State.appendOutcome; (repeat' first | split | (dsimp only; split)) <;> first | exact hs | ((simpa using hs; done)) | exact State.latch_keeps _ _ Q hQ hs
theorem State.endShot_keeps (s : State) (h : Handle) (c : OutcomeCode) (Q : AlarmSet → Prop) (hQ : ∀ x b, Q x → Q ⟨x.latched ||| Alarm.mask b, x.enabled⟩) (hs : Q s.alarms) : Q (s.endShot h c).alarms := by unfold State.endShot; split; exact hs; exact State.appendOutcome_keeps _ _ Q hQ hs
theorem State.markCollision_keeps (s : State) (k : RunSlotId) (js : List RunSlotId) (Q : AlarmSet → Prop) (hQ : ∀ x b, Q x → Q ⟨x.latched ||| Alarm.mask b, x.enabled⟩) (hs : Q s.alarms) : Q (s.markCollision k js).alarms := by unfold State.markCollision; refine State.latch_keeps _ _ Q hQ ?_; exact foldl_holds (fun t => Q t.alarms) _ (fun t j ht => by split; exact ht; exact ht) _ s hs
theorem State.startPulse_keeps (s : State) (k : RunSlotId) (x : Pulse × Nat) (Q : AlarmSet → Prop) (hQ : ∀ x b, Q x → Q ⟨x.latched ||| Alarm.mask b, x.enabled⟩) (hs : Q s.alarms) : Q (State.startPulse k s x).alarms := by
  unfold State.startPulse
  split
  · exact hs
  · dsimp only
    split
    · exact hs
    · split
      · rw [State.setRun_alarms]
        split
        · exact hs
        · exact State.markCollision_keeps _ _ _ Q hQ hs
      · rw [State.handTrigger_alarms, State.setRun_alarms]
        split
        · exact hs
        · exact State.markCollision_keeps _ _ _ Q hQ hs

theorem State.leaveFiring_keeps (s : State) (h : Handle) (Q : AlarmSet → Prop) (hQ : ∀ x b, Q x → Q ⟨x.latched ||| Alarm.mask b, x.enabled⟩) (hs : Q s.alarms) : Q (s.leaveFiring h).alarms := by unfold State.leaveFiring; (repeat' first | split | (dsimp only; split)) <;> first | exact hs | exact State.endShot_keeps _ _ _ Q hQ hs
theorem State.completeRun_keeps (s : State) (k : RunSlotId) (r : Run) (Q : AlarmSet → Prop) (hQ : ∀ x b, Q x → Q ⟨x.latched ||| Alarm.mask b, x.enabled⟩) (hs : Q s.alarms) : Q (s.completeRun k r).alarms := by unfold State.completeRun; exact State.leaveFiring_keeps _ _ Q hQ hs
theorem State.abortRun_keeps (s : State) (k : RunSlotId) (Q : AlarmSet → Prop) (hQ : ∀ x b, Q x → Q ⟨x.latched ||| Alarm.mask b, x.enabled⟩) (hs : Q s.alarms) : Q (s.abortRun k).alarms := by unfold State.abortRun; split; exact hs; exact State.leaveFiring_keeps _ _ Q hQ hs
theorem State.abortNaming_keeps (s : State) (b : BitVec 12) (Q : AlarmSet → Prop) (hQ : ∀ x b, Q x → Q ⟨x.latched ||| Alarm.mask b, x.enabled⟩) (hs : Q s.alarms) : Q (s.abortNaming b).alarms := foldl_holds (fun t => Q t.alarms) State.abortRun (fun t x ht => State.abortRun_keeps t _ Q hQ ht) _ s hs
theorem State.startPulses_keeps (s : State) (k : RunSlotId) (xs : List (Pulse × Nat)) (Q : AlarmSet → Prop) (hQ : ∀ x b, Q x → Q ⟨x.latched ||| Alarm.mask b, x.enabled⟩) (hs : Q s.alarms) : Q (xs.foldl (State.startPulse k) s).alarms := foldl_holds (fun t => Q t.alarms) _ (fun t x ht => State.startPulse_keeps t _ _ Q hQ ht) _ s hs
theorem State.runEvent_keeps (s : State) (k : RunSlotId) (Q : AlarmSet → Prop) (hQ : ∀ x b, Q x → Q ⟨x.latched ||| Alarm.mask b, x.enabled⟩) (hs : Q s.alarms) : Q (s.runEvent k).alarms := by unfold State.runEvent; (repeat' first | split | (dsimp only; split)) <;> first | exact hs | exact State.completeRun_keeps _ _ _ Q hQ hs | exact State.startPulses_keeps _ _ _ Q hQ hs
theorem State.fire_keeps (s : State) (k : RunSlotId) (h : Handle) (sh : Shot) (v : Version) (Q : AlarmSet → Prop) (hQ : ∀ x b, Q x → Q ⟨x.latched ||| Alarm.mask b, x.enabled⟩) (hs : Q s.alarms) : Q (s.fire k h sh v).alarms := by unfold State.fire; exact State.startPulses_keeps _ _ _ Q hQ hs
theorem State.fireAttempt_keeps (s : State) (h : Handle) (Q : AlarmSet → Prop) (hQ : ∀ x b, Q x → Q ⟨x.latched ||| Alarm.mask b, x.enabled⟩) (hs : Q s.alarms) : Q (s.fireAttempt h).alarms := by unfold State.fireAttempt; (repeat' first | split | (dsimp only; split)) <;> first | exact hs | exact State.endShot_keeps _ _ _ Q hQ hs | exact State.fire_keeps _ _ _ _ _ Q hQ hs
theorem State.reach_keeps (s : State) (l : LaneId) (h : Handle) (Q : AlarmSet → Prop) (hQ : ∀ x b, Q x → Q ⟨x.latched ||| Alarm.mask b, x.enabled⟩) (hs : Q s.alarms) : Q (s.reach l h).alarms := by unfold State.reach; dsimp only; split <;> first | (simpa using hs) | (refine State.fireAttempt_keeps _ _ Q hQ ?_; simpa using hs) | (refine State.endShot_keeps _ _ _ Q hQ ?_; simpa using hs)
theorem State.checkHead_keeps (s : State) (l : LaneId) (Q : AlarmSet → Prop) (hQ : ∀ x b, Q x → Q ⟨x.latched ||| Alarm.mask b, x.enabled⟩) (hs : Q s.alarms) : Q (s.checkHead l).alarms := by unfold State.checkHead; (repeat' first | split | (dsimp only; split)) <;> first | exact hs | exact State.reach_keeps _ _ _ Q hQ hs
theorem State.checkReverse_keeps (s : State) (l : LaneId) (Q : AlarmSet → Prop) (hQ : ∀ x b, Q x → Q ⟨x.latched ||| Alarm.mask b, x.enabled⟩) (hs : Q s.alarms) : Q (s.checkReverse l).alarms := by unfold State.checkReverse; dsimp only; (repeat' first | split | (dsimp only; split)) <;> first | exact hs | exact State.latch_keeps _ _ Q hQ hs
theorem State.laneCount_keeps (s : State) (up : Bool) (l : LaneId) (Q : AlarmSet → Prop) (hQ : ∀ x b, Q x → Q ⟨x.latched ||| Alarm.mask b, x.enabled⟩) (hs : Q s.alarms) : Q (State.laneCount up s l).alarms := by unfold State.laneCount; (repeat' first | split | (dsimp only; split)) <;> first | exact hs | exact State.checkHead_keeps _ _ Q hQ hs | exact State.checkReverse_keeps _ _ Q hQ hs
theorem State.handCount_keeps (s : State) (src : Source) (up : Bool) (Q : AlarmSet → Prop) (hQ : ∀ x b, Q x → Q ⟨x.latched ||| Alarm.mask b, x.enabled⟩) (hs : Q s.alarms) : Q (s.handCount src up).alarms := by unfold State.handCount; refine foldl_holds (fun t => Q t.alarms) _ (fun t x ht => State.laneCount_keeps t _ _ Q hQ ht) _ _ ?_; split <;> exact hs
theorem State.encoderCount_keeps (s : State) (n : EncoderId) (up : Bool) (Q : AlarmSet → Prop) (hQ : ∀ x b, Q x → Q ⟨x.latched ||| Alarm.mask b, x.enabled⟩) (hs : Q s.alarms) : Q (s.encoderCount n up).alarms := by unfold State.encoderCount; exact State.handCount_keeps _ _ _ Q hQ hs
theorem State.filteredTo_keeps (s : State) (n : EncoderId) (z : EncoderPins) (Q : AlarmSet → Prop) (hQ : ∀ x b, Q x → Q ⟨x.latched ||| Alarm.mask b, x.enabled⟩) (hs : Q s.alarms) : Q (s.filteredTo n z).alarms := by unfold State.filteredTo; dsimp only; split <;> first | exact hs | exact State.latch_keeps _ _ Q hQ hs | exact State.encoderCount_keeps _ _ _ Q hQ hs
theorem State.encoderPins_keeps (s : State) (n : EncoderId) (z : EncoderPins) (Q : AlarmSet → Prop) (hQ : ∀ x b, Q x → Q ⟨x.latched ||| Alarm.mask b, x.enabled⟩) (hs : Q s.alarms) : Q (s.encoderPins n z).alarms := by unfold State.encoderPins; (repeat' first | split | (dsimp only; split)) <;> first | exact hs | exact State.filteredTo_keeps _ _ _ Q hQ hs
theorem State.filteredChange_keeps (s : State) (n : EncoderId) (Q : AlarmSet → Prop) (hQ : ∀ x b, Q x → Q ⟨x.latched ||| Alarm.mask b, x.enabled⟩) (hs : Q s.alarms) : Q (s.filteredChange n).alarms := by unfold State.filteredChange; exact State.filteredTo_keeps _ _ _ Q hQ hs
theorem State.flushShot_keeps (s : State) (h : Handle) (Q : AlarmSet → Prop) (hQ : ∀ x b, Q x → Q ⟨x.latched ||| Alarm.mask b, x.enabled⟩) (hs : Q s.alarms) : Q (s.flushShot h).alarms := by unfold State.flushShot; refine State.endShot_keeps _ _ _ Q hQ ?_; simpa using hs
theorem State.disarm_keeps (s : State) (l : LaneId) (Q : AlarmSet → Prop) (hQ : ∀ x b, Q x → Q ⟨x.latched ||| Alarm.mask b, x.enabled⟩) (hs : Q s.alarms) : Q (s.disarm l).alarms := by unfold State.disarm; exact foldl_holds (fun t => Q t.alarms) _ (fun t x ht => State.flushShot_keeps t _ Q hQ ht) _ _ hs
theorem State.cancelShot_keeps (s : State) (h : Handle) (sh : Shot) (Q : AlarmSet → Prop) (hQ : ∀ x b, Q x → Q ⟨x.latched ||| Alarm.mask b, x.enabled⟩) (hs : Q s.alarms) : Q (s.cancelShot h sh).alarms := by unfold State.cancelShot; exact State.endShot_keeps _ _ _ Q hQ hs
theorem State.endIfResolved_keeps (s : State) (h : Handle) (Q : AlarmSet → Prop) (hQ : ∀ x b, Q x → Q ⟨x.latched ||| Alarm.mask b, x.enabled⟩) (hs : Q s.alarms) : Q (s.endIfResolved h).alarms := by unfold State.endIfResolved; (repeat' first | split | (dsimp only; split)) <;> first | exact hs | exact State.endShot_keeps _ _ _ Q hQ hs
theorem State.frameStarted_keeps (s : State) (c : CameraId) (Q : AlarmSet → Prop) (hQ : ∀ x b, Q x → Q ⟨x.latched ||| Alarm.mask b, x.enabled⟩) (hs : Q s.alarms) : Q (s.frameStarted c).alarms := by unfold State.frameStarted; (repeat' first | split | (dsimp only; split)) <;> first | exact hs | exact State.latch_keeps _ _ Q hQ hs | exact State.endIfResolved_keeps _ _ Q hQ hs
theorem State.expireOldest_keeps (s : State) (c : CameraId) (Q : AlarmSet → Prop) (hQ : ∀ x b, Q x → Q ⟨x.latched ||| Alarm.mask b, x.enabled⟩) (hs : Q s.alarms) : Q (s.expireOldest c).alarms := by unfold State.expireOldest; dsimp only; split; exact hs; exact State.endIfResolved_keeps _ _ Q hQ hs
theorem State.holdOutputs_keeps (s : State) (b : BitVec 12) (Q : AlarmSet → Prop) (hQ : ∀ x b, Q x → Q ⟨x.latched ||| Alarm.mask b, x.enabled⟩) (hs : Q s.alarms) : Q (s.holdOutputs b).alarms := by unfold State.holdOutputs; exact State.abortNaming_keeps _ _ Q hQ hs
theorem State.onset_keeps (s : State) (n : SafeId) (Q : AlarmSet → Prop) (hQ : ∀ x b, Q x → Q ⟨x.latched ||| Alarm.mask b, x.enabled⟩) (hs : Q s.alarms) : Q (s.onset n).alarms := by unfold State.onset; refine State.latch_keeps _ _ Q hQ ?_; simp only [State.haltLanes_link, State.haltLanes_alarms]; exact State.holdOutputs_keeps _ _ Q hQ hs
theorem State.safePin_keeps (s : State) (n : SafeId) (x : Level) (Q : AlarmSet → Prop) (hQ : ∀ x b, Q x → Q ⟨x.latched ||| Alarm.mask b, x.enabled⟩) (hs : Q s.alarms) : Q (s.safePin n x).alarms := by unfold State.safePin; dsimp only; split; exact State.onset_keeps _ _ Q hQ hs; exact hs
theorem State.installSafe_keeps (s : State) (n : SafeId) (d : Detection) (g : BitVec 12) (b : BitVec 4) (Q : AlarmSet → Prop) (hQ : ∀ x b, Q x → Q ⟨x.latched ||| Alarm.mask b, x.enabled⟩) (hs : Q s.alarms) : Q (s.installSafe n d g b).alarms := by unfold State.installSafe; (repeat' first | split | (dsimp only; split)) <;> first | exact hs | exact State.onset_keeps _ _ Q hQ hs | (simp only [State.haltLanes_link, State.haltLanes_alarms]; exact State.holdOutputs_keeps _ _ Q hQ hs)

end Sys2Proof.Machine
end

