-- ==== Sys2Proof/Laws/Requests.lean ====
section
/-! SUPPORT. How a request is taken and answered: the lemmas that turn a request's rule into the next state of exec. -/

namespace Sys2Proof.Machine

/-- On a free link a request is taken at once. -/
theorem arrive_free (f : Frame) (take : State → State) (s : State) (h : LinkFree s) : arrive f take s = done (take s) := by
  obtain ⟨h1, h2, h3⟩ := h
  simp [arrive, h1, h2, Config.replyPlaces, h3]

/-- A reply queued by a request that leaves the unlock flag closed. -/
theorem done_queueReply (u : State) (k t : Byte) (r : List Byte) (hu : u.unlock = false) :
    done (u.queueReply k t r) = .next (replied u (replyKind k) t r) := by
  simp [done, State.queueReply, replied, State.beginTx, State.setLink, hu]

/-- `replied` does not look at the unlock flag. -/
@[simp] theorem replied_closeUnlock (s : State) (k t : Byte) (r : List Byte) : replied s.closeUnlock k t r = replied s k t r :=
  rfl

/-- A request of the right length, on a free link, whose rule leaves the unlock flag closed. -/
theorem arrive_takeRequest (f : Frame) (k t : Byte) (b : Bool) (body : Bool → State → Answer) (s : State) (h : LinkFree s)
    (hb : b = true) (hu : (body s.unlock s.closeUnlock).state.unlock = false) :
    arrive f (takeRequest k t b body) s =
      .next (replied (body s.unlock s.closeUnlock).state (replyKind k) t (body s.unlock s.closeUnlock).reply) := by
  rw [arrive_free _ _ _ h, takeRequest, if_pos hb]
  exact done_queueReply _ _ _ _ hu

/-- A request of the wrong length, on a free link (R161). -/
theorem arrive_badLength (f : Frame) (k t : Byte) (b : Bool) (body : Bool → State → Answer) (s : State) (h : LinkFree s)
    (hb : b = false) : arrive f (takeRequest k t b body) s = .next (replied s (replyKind k) t [1, 19]) := by
  rw [arrive_free _ _ _ h, takeRequest, hb]
  exact done_queueReply _ _ _ _ rfl

/-- Once a frame is on its way, the transmitter begins none. -/
theorem Link.begin_of_tx (x : Link) (f : Frame) (h : x.tx = some f) : x.begin = x := by simp [Link.begin, h]

/-- START goes first. -/
theorem Link.begin_start (x : Link) (c : StartCause) (b : BitVec 2) (rest : List Report) (h : x.tx = none)
    (hr : x.reports = .start c b :: rest) :
    x.begin = { x with reports := rest, tx := some (Report.start c b).frame, txTimer := 0 } := by
  simp [Link.begin, h, Link.startWaits, Link.beginReport, hr]

/-- Where START does not wait, the oldest reply goes first. -/
theorem Link.begin_reply (x : Link) (f : Frame) (rest : List Frame) (h : x.tx = none) (hs : x.startWaits = false)
    (hr : x.replies = f :: rest) : x.begin = { x with replies := rest, tx := some f, txTimer := 0 } := by
  simp [Link.begin, h, hs, hr]

/-- Without replies the oldest report goes. -/
theorem Link.begin_report (x : Link) (r : Report) (rest : List Report) (h : x.tx = none) (hp : x.replies = [])
    (hr : x.reports = r :: rest) : x.begin = { x with reports := rest, tx := some r.frame, txTimer := 0 } := by
  simp [Link.begin, h, hp, hr, Link.beginReport]

/-- With nothing to send the transmitter stays idle. -/
theorem Link.begin_idle (x : Link) (hp : x.replies = []) (hr : x.reports = []) : x.begin = x := by
  unfold Link.begin; cases h : x.tx <;> simp [hp, hr, Link.beginReport]

/-- Beginning a frame twice is beginning it once. -/
@[simp] theorem Link.begin_begin (x : Link) : x.begin.begin = x.begin := by
  cases h : x.tx with
  | some f => rw [x.begin_of_tx f h, x.begin_of_tx f h]
  | none =>
    cases h3 : x.reports with
    | nil =>
      cases h2 : x.replies with
      | nil => rw [x.begin_idle h2 h3, x.begin_idle h2 h3]
      | cons f rest => rw [x.begin_reply f rest h (by simp [Link.startWaits, h3]) h2]; rfl
    | cons r rest =>
      cases hs : x.startWaits with
      | true => simp [Link.begin, h, hs, Link.beginReport, h3]
      | false =>
        cases h2 : x.replies with
        | nil => rw [x.begin_report r rest h h2 h3]; rfl
        | cons f fs => rw [x.begin_reply f fs h hs h2]; rfl

/-- An index below the bound is found. -/
theorem index?_eq {k n : Nat} (i : Fin k) (h : n = i.val) : index? k n = some i := by
  subst h; simp [index?]

/-- A number that is no index. -/
theorem index?_none {k n : Nat} (h : k ≤ n) : index? k n = none := by
  simp [index?]; omega

@[simp] theorem u8_cons_zero (a : Byte) (p : List Byte) : u8 (a :: p) 0 = a.toNat := rfl
@[simp] theorem u8_cons_succ (a : Byte) (p : List Byte) (i : Nat) : u8 (a :: p) (i + 1) = u8 p i := rfl

/-- A KIND that is none of Table 11-12 is taken as unknown. -/
theorem takeFrame_unknown (kind tag : Byte) (p : List Byte) (s : State) (h : kind ∉ requestKinds) :
    takeFrame ⟨kind, tag, p⟩ s = takeUnknown kind tag s := by
  simp only [takeFrame]
  split
  case h_41 => rfl
  all_goals (
    exfalso; apply h; rename_i hk
    have hh : kind = BitVec.ofNat 8 kind.toNat := by simp
    rw [hk] at hh; subst hh; decide)

/-- Whether a lane outside OFF names the source. -/
theorem State.sourceInUse_iff (s : State) (src : Source) :
    s.sourceInUse src = true ↔ ∃ l : LaneId, s.lanes[l].settings.source = src ∧ s.lanes[l].state ≠ .off := by
  simp only [State.sourceInUse, List.any_eq_true, Vector.mem_toList_iff, Bool.and_eq_true, beq_iff_eq, bne_iff_ne]
  constructor
  · rintro ⟨x, hx, h⟩
    obtain ⟨i, hi, rfl⟩ := Vector.mem_iff_getElem.mp hx
    exact ⟨⟨i, hi⟩, h⟩
  · rintro ⟨l, h⟩
    exact ⟨_, Vector.getElem_mem l.isLt, h⟩

/-! ## The gap timer -/

/-- Half a stop bit is free within its bounds (log entry 10). -/
theorem stopBitRest_bounds (b : BitVec 2) : stopBitRestMin b ≤ stopBitRest b ∧ stopBitRest b ≤ stopBitRestMax b := by
  have h : stopBitRestMin b ≤ stopBitRestMax b := Nat.le_succ_of_le (Nat.div_le_div_right (Nat.mul_le_mul_left _ (by decide)))
  exact ⟨le_max_left _ _, max_le h (min_le_left _ _)⟩

/-- The gap is over for certain once 1 ms has passed since the latest end of the stop bit. -/
theorem gapDue_late (x : Link) (rx : x.rx ≠ .hunt) (receiving : x.receiving = false)
    (late : Config.gapHalfTicks + stopBitRestMax x.baud ≤ x.gapTimer) : x.gapDue = true := by
  have := (stopBitRest_bounds x.baud).2
  simp [Link.gapDue, rx, receiving]; omega

/-- It is not over before 1 ms has passed since the earliest end of the stop bit. -/
theorem gapDue_early (x : Link) (early : x.gapTimer < Config.gapHalfTicks + stopBitRestMin x.baud) : x.gapDue = false := by
  have := (stopBitRest_bounds x.baud).1
  simp [Link.gapDue]; omega

end Sys2Proof.Machine
end

