-- ==== Sys2Proof/Laws/Lookups.lean ====
section
/-! SUPPORT. What the lookups and the small operations of the model give: held lanes and outputs, holders, the free run slot, the
order of equal events, what latching and the transmitter leave alone, the CRC bytes. -/

namespace Sys2Proof.Machine

/-! ## Requests -/

/-- A request of the right length on a free link, its rule's answer named up to the unlock flag. -/
theorem arrive_answer {f : Frame} {k t k' : Byte} {b : Bool} {body : Bool → State → Answer} {s u : State} {r : List Byte}
    (hf : LinkFree s) (hb : b = true) (hk : replyKind k = k')
    (h : body s.unlock s.closeUnlock = ⟨u.closeUnlock, r⟩) :
    arrive f (takeRequest k t b body) s = .next (replied u k' t r) := by
  subst hk
  rw [arrive_takeRequest f k t b body s hf hb (by rw [h]; rfl), h]; rfl

/-! ## Reports, alarms and the transmitter -/

/-- Latching an alarm touches the alarm set and the link alone. -/
theorem State.latch_only (s : State) (a : Alarm) : s.latch a = { s with alarms := (s.latch a).alarms, link := (s.latch a).link } := by
  unfold State.latch State.queueReport; (repeat' first | split | (dsimp only; split)) <;> rfl

/-- The transmitter does not look into the receive buffer. -/
@[simp] theorem Link.begin_rxBuffer (x : Link) : x.begin.rxBuffer = x.rxBuffer := by
  unfold Link.begin Link.beginReport; (repeat' split) <;> rfl

/-- The transmitter does not touch the receiver. -/
@[simp] theorem Link.begin_rx (x : Link) : x.begin.rx = x.rx := by
  unfold Link.begin Link.beginReport; (repeat' split) <;> rfl

/-- The transmitter does not touch what the receiver waits for. -/
@[simp] theorem Link.begin_waitHigh (x : Link) : x.begin.waitHigh = x.waitHigh := by
  unfold Link.begin Link.beginReport; (repeat' split) <;> rfl

@[simp] theorem Link.begin_receiving (x : Link) : x.begin.receiving = x.receiving := by
  unfold Link.begin Link.beginReport; (repeat' split) <;> rfl

@[simp] theorem Link.begin_gapTimer (x : Link) : x.begin.gapTimer = x.gapTimer := by
  unfold Link.begin Link.beginReport; (repeat' split) <;> rfl

/-- Two bytes are the CRC bytes when they spell the CRC, low byte first. -/
theorem crcBytes_eq (l : List Byte) (low high : Byte) :
    crcBytes l = [low, high] ↔ low.toNat + 256 * high.toNat = (crc16 l).toNat := by
  simp only [crcBytes, le2, leBytes, List.cons.injEq, and_true]
  have h := (crc16 l).isLt
  constructor
  · rintro ⟨rfl, rfl⟩; simp; omega
  · intro e
    constructor <;> apply BitVec.eq_of_toNat_eq <;> simp <;> omega

/-- The held alarms are the SAFE alarms of the inputs whose hold is ON. -/
theorem State.heldAlarms_bit (s : State) (a : Alarm) :
    s.heldAlarms.getLsbD a.number = true ↔ ∃ n : SafeId, a = .safe n ∧ s.safes[n].hold = true := by
  have e0 := Alarm.mask_getLsbD (.safe 0) a
  have e1 := Alarm.mask_getLsbD (.safe 1) a
  simp only [State.heldAlarms, BitVec.getLsbD_or, Fin.exists_fin_two]
  rw [apply_ite (BitVec.getLsbD · a.number), apply_ite (BitVec.getLsbD · a.number), e0, e1]
  simp [@eq_comm _ a]
  tauto

/-- The alarm numbers of Table 11-5 are below 16. -/
theorem Alarm.number_lt (a : Alarm) : a.number < 16 := by cases a <;> simp [Alarm.number] <;> omega

/-! ## Safe holds -/

/-- A lane is held by an input whose hold is ON and whose binding names it. -/
theorem State.laneHeld_iff (s : State) (l : LaneId) :
    s.laneHeld l = true ↔ ∃ n : SafeId, s.safes[n].hold = true ∧ s.safes[n].binding.getLsbD l.val = true := by
  simp only [State.laneHeld, List.any_eq_true, Vector.mem_toList_iff, Bool.and_eq_true]
  constructor
  · rintro ⟨x, hx, h⟩
    obtain ⟨i, hi, rfl⟩ := Vector.mem_iff_getElem.mp hx
    exact ⟨⟨i, hi⟩, h⟩
  · rintro ⟨l, h⟩
    exact ⟨_, Vector.getElem_mem l.isLt, h⟩

/-- An output is held by an input whose hold is ON and whose group names it. -/
theorem State.outputHeld_iff (s : State) (o : OutputId) :
    s.outputHeld o = true ↔ ∃ n : SafeId, s.safes[n].hold = true ∧ s.safes[n].group.getLsbD o.val = true := by
  simp only [State.outputHeld, List.any_eq_true, Vector.mem_toList_iff, Bool.and_eq_true]
  constructor
  · rintro ⟨x, hx, h⟩
    obtain ⟨i, hi, rfl⟩ := Vector.mem_iff_getElem.mp hx
    exact ⟨⟨i, hi⟩, h⟩
  · rintro ⟨l, h⟩
    exact ⟨_, Vector.getElem_mem l.isLt, h⟩

/-- The holders of an output are the runs that hold it. -/
theorem State.mem_holders (s : State) (o : OutputId) (k : RunSlotId) :
    k ∈ s.holders o ↔ ∃ r, s.runs[k] = some r ∧ r.held.getLsbD o.val = true := by
  simp only [State.holders, List.mem_filter, List.mem_finRange, true_and]
  cases s.runs[k] <;> simp

/-! ## Choices -/

/-- A shuffle is a permutation. -/
theorem shuffle_perm {α : Type} (n : Nat) (xs : List α) : (shuffle n xs).Perm xs := by
  induction xs generalizing n with
  | nil => exact List.Perm.refl _
  | cons x xs ih =>
    exact (List.perm_insertIdx _ _ (Nat.lt_succ_iff.mp (Nat.mod_lt _ (Nat.succ_pos _)))).trans ((ih (n + 1)).cons x)

/-- An order of the items is a permutation of them. -/
theorem anyOrder_perm {α : Type} (n : Nat) (xs : List α) : (anyOrder n xs).Perm xs := by
  match xs with
  | [] => exact List.Perm.refl _
  | [x] => exact List.Perm.refl _
  | x :: y :: r => exact shuffle_perm _ _

/-- The first run slot of the six that is FREE. -/
theorem State.freeRunSlot_eq_some (s : State) (k : RunSlotId) (h : s.runs[k] = none)
    (h2 : ∀ j : RunSlotId, j.val < k.val → s.runs[j] ≠ none) : s.freeRunSlot = some k := by
  have before : ∀ j : RunSlotId, ∀ i ∈ (List.finRange 6).take j.val, i.val < j.val := by decide
  have cut : ∀ j : RunSlotId, List.finRange 6 = (List.finRange 6).take j.val ++ j :: (List.finRange 6).drop (j.val + 1) := by
    decide
  rw [State.freeRunSlot, allRunSlots, List.find?_eq_some_iff_append]
  refine ⟨by rw [h]; rfl, _, _, cut k, fun a ha => ?_⟩
  have := h2 a (before k a ha)
  cases hr : s.runs[a] <;> simp_all

/-- No run slot is FREE. -/
theorem State.freeRunSlot_eq_none (s : State) (h : ∀ k : RunSlotId, s.runs[k] ≠ none) : s.freeRunSlot = none := by
  simp only [State.freeRunSlot, List.find?_eq_none]
  intro k _
  have := h k
  cases hr : s.runs[k] <;> simp_all

/-! ## The end of a shot -/

/-- Ending a shot frees its slot and keeps the generation. -/
theorem State.endShot_slots (s : State) (h : Handle) (code : OutcomeCode) (sh : Shot) (hs : s.slots[h].shot = some sh) :
    (s.endShot h code).slots = s.slots.set h ⟨s.slots[h].generation, none⟩ := by
  simp only [State.endShot, hs, State.appendOutcome_slots]
  rfl

/-- A FREE slot has no shot to end. -/
theorem State.endShot_free (s : State) (h : Handle) (code : OutcomeCode) (hs : s.slots[h].shot = none) : s.endShot h code = s := by
  simp only [State.endShot, hs]

end Sys2Proof.Machine
end

