-- ==== Sys2Proof/Laws/Time.lean ====
section
/-! SUPPORT. What the end of a tick can do: at a whole tick nothing, else it reaches the whole tick, and it keeps what every
event of the part's own and every half tick keeps. -/

namespace Sys2Proof.Machine

@[simp] theorem halfTickPasses_halfTick (s : State) : s.halfTickPasses.halfTick = !s.halfTick := rfl

@[simp] theorem halfTickPasses_timestamp (s : State) :
    s.halfTickPasses.timestamp = if s.halfTick then s.timestamp + 1 else s.timestamp := rfl

@[simp] theorem halfTickPasses_phase (s : State) : s.halfTickPasses.phase = s.phase := rfl

@[simp] theorem halfTickPasses_pacers (s : State) : s.halfTickPasses.pacers = s.pacers := rfl

@[simp] theorem halfTickPasses_lanes (s : State) : s.halfTickPasses.lanes = s.lanes := rfl

@[simp] theorem halfTickPasses_slots (s : State) : s.halfTickPasses.slots = s.slots := rfl

@[simp] theorem halfTickPasses_pending (s : State) : s.halfTickPasses.pending = s.pending := rfl

/-- At a whole tick there is nothing to end. -/
theorem endTick_of_whole (fuel : Nat) (s : State) (h : s.halfTick = false) : s.endTick fuel = s := by
  cases fuel <;> simp [State.endTick, h]

theorem wholeTick_of_whole (s : State) (h : s.halfTick = false) : s.wholeTick = s := endTick_of_whole _ s h

/-- A property that every step of the part's own and every half tick keeps is kept to the end of the tick. -/
theorem endTick_keeps (P : State → Prop) (own : ∀ s t, P s → idle s = .next t → P t)
    (passes : ∀ s, P s → s.halfTick = true → P s.halfTickPasses) (fuel : Nat) :
    ∀ s, P s → P (s.endTick fuel) := by
  induction fuel with
  | zero =>
    intro s hs
    unfold State.endTick
    split
    · exact passes s hs ‹_›
    · exact hs
  | succ fuel ih =>
    intro s hs
    unfold State.endTick
    split
    · split
      · exact ih _ (own s _ hs ‹_›)
      · exact passes s hs ‹_›
    · exact hs

theorem wholeTick_keeps (P : State → Prop) (own : ∀ s t, P s → idle s = .next t → P t)
    (passes : ∀ s, P s → s.halfTick = true → P s.halfTickPasses) (s : State) (h : P s) : P s.wholeTick :=
  endTick_keeps P own passes _ s h

/-- The end of a tick is a whole tick. -/
theorem endTick_halfTick (fuel : Nat) : ∀ s : State, (s.endTick fuel).halfTick = false := by
  induction fuel with
  | zero =>
    intro s
    unfold State.endTick
    split <;> simp_all
  | succ fuel ih =>
    intro s
    unfold State.endTick
    split
    · split
      · exact ih _
      · simp_all
    · simp_all

theorem wholeTick_halfTick (s : State) : s.wholeTick.halfTick = false := endTick_halfTick _ s

end Sys2Proof.Machine
end

