-- ==== Sys2Proof/Tests/Slice0.lean ====
section
/-! SUPPORT. Tests: the WellFormed smoke tests, one or two small tests per command (the manual's worked figures among them), and for
every statement with hypotheses a witness: a concrete state and operands that meet them. -/

namespace Sys2Proof.Tests

open Sys2Proof Sys2Proof.Machine

/-! ## Checkpoints

Lean elaborates the proofs of theorems side by side, each in a thread of its own, and each kernel evaluation waits for every earlier
declaration to be checked. A checkpoint is a definition whose proof waits likewise before the file goes on, so that few threads wait
at a time. -/

def checkpoint0 : Fin 1 := ⟨0, by decide +kernel⟩

/-! ## States and readings -/

/-- The part in service, as START leaves it but for the link, which is free and idle. -/
def running : State := { State.reset with phase := .running }

/-- The state after an outcome. -/
def after (o : Host.Outcome State Fault Refusal) : State :=
  match o with
  | .next t => t
  | _ => State.reset

/-- The payload of the frame the transmitter has begun. -/
def sent (o : Host.Outcome State Fault Refusal) : Option (List Byte) := (after o).link.tx.map Frame.payload

theorem test_running_free : LinkFree running := by decide +kernel

def checkpoint1 : Fin 1 := ⟨0, by decide +kernel⟩

/-! ## WellFormed -/

theorem test_wellFormed_ident : (Instr.ident 1 []).wellFormed = true := by decide
theorem test_wellFormed_largest : (Instr.status 1 (List.replicate 250 0)).wellFormed = true := by decide +kernel
theorem test_illFormed_payload : (Instr.status 1 (List.replicate 251 0)).wellFormed = false := by decide +kernel
theorem test_wellFormed_unknown : (Instr.unknownKind 0x50 1 []).wellFormed = true := by decide
theorem test_illFormed_unknown : (Instr.unknownKind 0x02 1 []).wellFormed = false := by decide

def checkpoint2 : Fin 1 := ⟨0, by decide +kernel⟩

/-! ## The link -/

theorem test_ident : sent (exec (.ident 9 []) running) =
    some [0, 0, 0x7C, 0x0A, 0x9C, 0x01, 1, 4, 2, 2, 0, 1, 6, 32, 8, 12, 4, 8, 64, 4, 4, 8, 250] := by decide +kernel
theorem test_status : sent (exec (.status 9 []) running) = some [0, 0, 0, 0, 0, 0, 0, 1, 0, 0, 0, 0, 0] := by decide +kernel
theorem test_reset : (after (exec (.reset 9 []) running)).phase = .starting .warm ∧
    sent (exec (.reset 9 []) running) = none := by decide +kernel
theorem test_unknownKind : (after (exec (.unknownKind 0x90 7 []) running)).link.tx = some ⟨0x90, 7, [1, 18]⟩ := by decide +kernel

def checkpoint3 : Fin 1 := ⟨0, by decide +kernel⟩

/-- Section 11.4: the CRC of the nine digits. -/
theorem test_crc : crc16 [0x31, 0x32, 0x33, 0x34, 0x35, 0x36, 0x37, 0x38, 0x39] = 0x29B1#16 := by decide +kernel
theorem test_coldReset : (after (exec .coldReset (running.setCamera 1 { running.cameras[1] with counter := 9 }))).cameras[1].counter = 0
    ∧ (after (exec .coldReset running)).phase = .coldReset := by decide +kernel
theorem test_rstnRise : (after (exec (.rstnRise 2) State.reset)).link.baud = 2#2 ∧
    (after (exec (.rstnRise 2) State.reset)).phase = .starting .cold := by decide +kernel
theorem test_start : (after (exec .start (after (exec (.rstnRise 1) State.reset)))).link.tx = some ⟨0x7D, 0, [0, 1]⟩ := by
  decide +kernel

def checkpoint34 : Fin 1 := ⟨0, by decide +kernel⟩

theorem test_rxByte_sync : (after (exec (.rxByte 0x5A (.taken .high)) running)).link.rx = .len := by decide +kernel
/-- Section 11.5: a length above 250 is no frame. -/
theorem test_rxByte_overlong : (after (exec (.rxByte 251 (.taken .high)) (running.rxGo .len))).alarms.latched = 0x4000#16 := by decide +kernel
theorem test_rxdReturnHigh :
    (after (exec .rxdReturnHigh (running.setLink { running.link with waitHigh := true }))).link.waitHigh = false := by decide +kernel
/-- R159: once a start bit has come the gap is over, however late the byte's stop bit. -/
theorem test_rxByte_startBit : (after (exec .gapTimeout (after (exec (.rxByte 0 .startBit)
    (running.setLink { running.link with rx := .kind 3, gapTimer := 39999 }))))).link.rx = .kind 3 := by decide +kernel
/-- R164: a reply goes out before a report. -/
theorem test_transmitFrameEnd :
    (after (exec .transmitFrameEnd (running.setLink { running.link with
      tx := some ⟨0x7F, 0, []⟩, txTimer := 1000, replies := [⟨0x81, 1, [1, 19]⟩], reports := [.outcomeReady] }))).link.tx
      = some ⟨0x81, 1, [1, 19]⟩ := by decide +kernel
/-- R167: START goes out before a reply that was queued while the frame before it was still in transmission. -/
theorem test_transmitFrameEnd_start :
    (after (exec .transmitFrameEnd (running.setLink { running.link with
      tx := some ⟨0x7F, 0, []⟩, txTimer := 1000, replies := [⟨0x81, 1, [1, 19]⟩], reports := [.start .warm 1, .outcomeReady] }))).link.tx
      = some ⟨0x7D, 0, [1, 1]⟩ := by decide +kernel

def checkpoint4 : Fin 1 := ⟨0, by decide +kernel⟩

/-! ## Position sources -/

theorem test_encoderSet : (after (exec (.encoderSet 1 [1, 0, 0, 5, 3, 1, 1, 4, 3, 2, 1]) running)).encoders[1].config
      = ⟨.quad4, .rise, true, 3, .rise⟩ ∧
    (after (exec (.encoderSet 1 [1, 0, 0, 5, 3, 1, 1, 4, 3, 2, 1]) running)).encoders[1].position = 0x01020304#32 := by decide +kernel
theorem test_encoderSet_quad1_both : sent (exec (.encoderSet 1 [0, 1, 2, 0, 0, 0, 0, 0, 0, 0, 0]) running) = some [1, 1] := by
  decide +kernel
theorem test_encoderRead : sent (exec (.encoderRead 1 [0, 1]) running)
    = some [0, 0, 3, 0, 0, 0, 0, 0, 0, 0, 0, 0, 0, 0, 0, 0, 0, 0, 0, 0] := by decide +kernel

/-- Encoder 0 in QUAD4 with its pins low. -/
def quad : State := running.setEncoder 0 { running.encoders[0] with config := ⟨.quad4, .rise, false, 0, .rise⟩ }

def checkpoint5 : Fin 1 := ⟨0, by decide +kernel⟩

/-- R4, R9, R10: a forward step, then an index edge that latches the moved position. -/
theorem test_encoderPinChange_step : (after (exec (.encoderPinChange 0 ⟨.high, .low, .high⟩) quad)).encoders[0].position = 1#32 ∧
    (after (exec (.encoderPinChange 0 ⟨.high, .low, .high⟩) quad)).encoders[0].indexLatch = 1#32 := by decide +kernel
theorem test_encoderPinChange_illegal :
    (after (exec (.encoderPinChange 0 ⟨.high, .high, .low⟩) quad)).alarms.latched = 0x0040#16 := by decide +kernel
theorem test_filteredChange : (after (exec (.filteredChange 0) (quad.setEncoder 0 { quad.encoders[0] with
    config := ⟨.quad4, .rise, true, 2, .noEdge⟩, pins := ⟨.high, .low, .low⟩, timing := ⟨some 8, none, none⟩ }))).encoders[0].position
      = 0xFFFFFFFF#32 := by decide +kernel
/-- Log entry 20: in the second half of a tick the change is seen at its end. -/
theorem test_encoderPinChange_secondHalf :
    (after (exec (.encoderPinChange 0 ⟨.high, .low, .low⟩) { quad with halfTick := true })).encoders[0].position = 1#32 ∧
    (after (exec (.encoderPinChange 0 ⟨.high, .low, .low⟩) { quad with halfTick := true })).halfTick = false ∧
    (after (exec (.encoderPinChange 0 ⟨.high, .low, .low⟩) { quad with halfTick := true })).timestamp = 1#32 := by decide +kernel

def checkpoint32 : Fin 1 := ⟨0, by decide +kernel⟩

theorem test_pacerSet : (after (exec (.pacerSet 1 [0, 100, 0, 0, 0, 0, 0, 0, 0, 0]) running)).pacers[0].interval = 100 := by
  decide +kernel
theorem test_pacerRun : (after (exec (.pacerRun 1 [1, 1]) running)).pacers[1].intervalStart = some 0#32 := by decide +kernel
theorem test_pacerRead : sent (exec (.pacerRead 1 [0]) running)
    = some [0, 0, 0x20, 0x4E, 0, 0, 0, 0, 0, 0, 0, 0, 0, 0, 0, 0, 0, 0, 0, 0] := by decide +kernel

/-- Pacer 0 runs with interval 5 since timestamp 0, a pending interval of 7. -/
def pacing (now : Timestamp) : State :=
  { running.setPacer 0 ⟨5, some 7, true, 9, some 0⟩ with timestamp := now }

theorem test_pacerExpiry : (after (exec (.pacerExpiry 0) (pacing 5))).pacers[0] = ⟨7, none, true, 10, some 5⟩ ∧
    (after (exec (.pacerExpiry 0) (pacing 4))).pacers[0].position = 9#32 := by decide +kernel

def checkpoint6 : Fin 1 := ⟨0, by decide +kernel⟩

/-! ## Lanes -/

/-- Table 2-5, start: lane L1 on ENC0 SAME with offset 200, spacing 2, reverse limit 3; shots 5 at 1,002 and 9 at 1,006. -/
def waiting (l : LaneId) (trigger : Position) (i : ProgramId) : Shot where
  phase := .queued
  label := 7
  lane := l
  trigger := trigger
  program := i
  burst := none
  amended := false
  collided := false
  aborted := false
  fireTime := none
  runSlot := none
  outstanding := 0
  confirmed := 0
  lost := 0
  frames := []

/-- One pulse on STB0, of 3 ticks. -/
def strobe : Version := ⟨[⟨4, 0, 3, false⟩], 6⟩

/-- The part with programs P3 and P4 DEFINED. -/
def loaded : State := (running.setProgram 3 ⟨some strobe, none, 0⟩).setProgram 4 ⟨some strobe, none, 0⟩

/-- Lane L1 of section 2.7 at ENC0 position `x`, with the given mark, state and queue. -/
def lineAt (x mark : Position) (state : LaneState) : State :=
  ((((((loaded.setProgram 3 ⟨some strobe, none, 1⟩).setProgram 4 ⟨some strobe, none, 1⟩).setSlot 5 ⟨2, some (waiting 1 1002 3)⟩).setSlot 9
    ⟨6, some (waiting 1 1006 4)⟩).setLane 1 ⟨⟨.enc0, .same, 200, 1, 65536, 2, 64, 3⟩, state, mark, [5, 9]⟩).setEncoder 0
    { running.encoders[0] with config := ⟨.quad4, .rise, false, 0, .noEdge⟩, position := x })

/-- Step 5: the reverse excess. -/
theorem test_reverseExcess : ((lineAt 797 1001 .armed).laneCount false 1).lanes[1].state = .paused ∧
    ((lineAt 797 1001 .armed).laneCount false 1).alarms.latched = 0x0008#16 := by decide +kernel
/-- Step 8: shot 5 ends PASSED. -/
theorem test_passed : ((lineAt 802 1001 .paused).laneCount true 1).lanes[1].queue = [9] ∧
    ((lineAt 802 1001 .paused).laneCount true 1).outcomes.map OutcomeRecord.code = [.passed] ∧
    ((lineAt 802 1001 .paused).laneCount true 1).programs[3].refCount = 0 := by decide +kernel
/-- In ARMED the same count fires shot 5. -/
theorem test_fired : ((lineAt 802 1001 .armed).laneCount true 1).slots[5].shot.map Shot.phase = some .firing ∧
    ((lineAt 802 1001 .armed).laneCount true 1).outputActive 4 = true := by decide +kernel

def checkpoint7 : Fin 1 := ⟨0, by decide +kernel⟩

theorem test_laneSet : (after (exec (.laneSet 1 [2, 2, 1, 1, 0, 0, 0, 2, 0, 9, 0, 0, 0, 3, 0, 0, 1, 4, 0]) running)).lanes[2].settings
    = ⟨.pac0, .opposite, 1, 2, 9, 3, 256, 4⟩ := by decide +kernel
/-- Table 2-2: ENC1 at 12, direction OPPOSITE, offset 10: the mark is set to 4,294,967,294. -/
theorem test_laneArm : (after (exec (.laneArm 1 [2]) ((running.setLane 2 { running.lanes[2] with
    settings := ⟨.enc1, .opposite, 10, 1, 9, 1, 1, 0⟩ }).setEncoder 1 { running.encoders[1] with position := 12 }))).lanes[2].mark
      = 4294967294#32 := by decide +kernel
theorem test_lanePause : sent (exec (.lanePause 1 [1]) (lineAt 800 1000 .armed)) = some [0, 0, 2] ∧
    sent (exec (.lanePause 1 [1]) (lineAt 800 1000 .halted)) = some [1, 2, 3] := by decide +kernel
theorem test_laneResume : sent (exec (.laneResume 1 [1]) (lineAt 800 1000 .halted)) = some [0, 0, 2] ∧
    sent (exec (.laneResume 1 [1]) (lineAt 800 1000 .paused)) = some [1, 2, 0] := by decide +kernel
theorem test_laneDisarm : sent (exec (.laneDisarm 1 [1]) (lineAt 800 1000 .halted)) = some [0, 0, 2, 0] ∧
    (after (exec (.laneDisarm 1 [1]) (lineAt 800 1000 .halted))).outcomes.map OutcomeRecord.code = [.flushed, .flushed] := by
  decide +kernel
theorem test_laneRead : sent (exec (.laneRead 1 [1]) (lineAt 798 1001 .armed)) = some ([0, 0, 0, 0, 200, 0, 0, 0, 1, 0, 0, 0, 1, 0]
    ++ [2, 0, 64, 0, 3, 0, 1, 0xE6, 3, 0, 0, 0xE9, 3, 0, 0, 2, 0, 1, 5, 2, 0xEA, 3, 0, 0]) := by decide +kernel

def checkpoint8 : Fin 1 := ⟨0, by decide +kernel⟩

/-! ## The shot pool -/

/-- One ABS32 entry for L1 at 1,004, between the two queued shots: two counts from each, the spacing. -/
theorem test_submit : sent (exec (.submit 1 [1, 0, 1, 0xEC, 3, 0, 0, 3, 1, 0, 0, 0, 0, 0, 0, 0]) (lineAt 800 1000 .armed))
      = some [0, 0, 0, 1, 0, 0, 1] ∧
    (after (exec (.submit 1 [1, 0, 1, 0xEC, 3, 0, 0, 3, 1, 0, 0, 0, 0, 0, 0, 0]) (lineAt 800 1000 .armed))).lanes[1].queue = [5, 0, 9] := by
  decide +kernel
/-- Two REL16 entries beyond the tail; the second, 1 from the first, is refused SPACING. -/
theorem test_submit_rel : sent (exec (.submit 1 ([1, 1, 2, 2, 0, 4, 1, 0, 0, 0, 1, 8, 1, 0] ++ [1, 0, 4, 1, 0, 0, 0, 0, 0, 0, 0]))
    (lineAt 800 1000 .armed)) = some [1, 7, 0, 2, 0, 0, 1, 7, 0, 0] := by decide +kernel
theorem test_cancel : sent (exec (.cancel 1 [5, 2]) (lineAt 800 1000 .armed)) = some [0, 0, 0, 2, 0] ∧
    sent (exec (.cancel 1 [5, 3]) (lineAt 800 1000 .armed)) = some [1, 10, 0, 2, 1] := by decide +kernel
theorem test_shotRead : sent (exec (.shotRead 1 [9]) (lineAt 800 1000 .armed)) = some ([0, 0, 1, 6, 7, 0, 0, 0, 1, 0xEE, 3, 0, 0, 4]
    ++ List.replicate 36 0 ++ [1, 6, 0, 0, 0]) := by decide +kernel
theorem test_amend : sent (exec (.amend 1 [5, 2, 3, 4, 8, 0, 0, 0]) (lineAt 800 1000 .armed)) = some [0, 0, 5, 3, 1] ∧
    (after (exec (.amend 1 [5, 2, 3, 4, 8, 0, 0, 0]) (lineAt 800 1000 .armed))).programs[4].refCount = 2 := by decide +kernel
/-- The programs of two shots are exchanged: the reference counts end as they began. -/
theorem test_amendPair : sent (exec (.amendPair 1 [5, 2, 1, 4, 0, 0, 0, 0, 9, 6, 1, 3, 0, 0, 0, 0]) (lineAt 800 1000 .armed))
      = some [0, 0, 0xFF, 5, 3, 1, 9, 7, 1] ∧
    (after (exec (.amendPair 1 [5, 2, 1, 4, 0, 0, 0, 0, 9, 6, 1, 3, 0, 0, 0, 0]) (lineAt 800 1000 .armed))).programs[3].refCount = 1 := by
  decide +kernel

def checkpoint9 : Fin 1 := ⟨0, by decide +kernel⟩

/-! ## The program store -/

/-- Table 5-2, program B: the program end is 160 half ticks. -/
theorem test_programWrite : sent (exec (.programWrite 1 [2, 2, 6, 0, 0, 40, 0, 1, 6, 60, 0, 20, 0, 0]) running)
    = some [0, 0, 2, 0, 2, 160, 0, 0, 0, 0xFF, 0xFF] := by decide +kernel
/-- R69: start 0, width 100 with the fine flag ends at half tick 201; start 100 overlaps it. -/
theorem test_programWrite_overlap : sent (exec (.programWrite 1 [2, 2, 6, 0, 0, 100, 0, 1, 6, 100, 0, 20, 0, 0]) running)
    = some [1, 13, 0, 0, 0, 0, 0, 0, 0, 0, 1] := by decide +kernel
theorem test_programRead : sent (exec (.programRead 1 [3, 0]) loaded) = some [0, 0, 3, 0, 0, 0, 0, 1, 6, 0, 0, 0, 4, 0, 0, 3, 0, 0] := by
  decide +kernel
theorem test_programClear : sent (exec (.programClear 1 [3]) loaded) = some [0, 0, 0, 0, 0] ∧
    sent (exec (.programClear 1 [3]) (lineAt 800 1000 .armed)) = some [1, 12, 0, 1, 0] := by decide +kernel
theorem test_holdOpen : (after (exec (.holdOpen 1 []) running)).updateHold = .opened := by decide +kernel

/-- The hold is OPEN, with P5 staged. -/
def staged : State := { running.setProgram 5 ⟨none, some strobe, 0⟩ with updateHold := .opened }

theorem test_holdRelease : sent (exec (.holdRelease 1 []) staged) = some [0, 0, 1, 0x20, 0, 0, 0] ∧
    (after (exec (.holdRelease 1 []) staged)).programs[5] = ⟨some strobe, none, 0⟩ := by decide +kernel
theorem test_holdDiscard : sent (exec (.holdDiscard 1 []) staged) = some [0, 0, 1] ∧
    (after (exec (.holdDiscard 1 []) staged)).programs[5] = ⟨none, none, 0⟩ := by decide +kernel

def checkpoint10 : Fin 1 := ⟨0, by decide +kernel⟩

/-! ## The pulse engine -/

/-- A run of shot 5 in RS2 with one pulse on TRG1 from tick 2 for 3 ticks, fine flag clear, one place reserved on CAM1. -/
def running5 (position : Nat) (held : BitVec 12) : Run where
  handle := 5
  fireTime := 100
  pulses := [⟨1, 2, 3, false⟩]
  programEnd := 10
  burstCount := 1
  burstGap := 0
  burstIndex := 0
  position := position
  held := held
  skipped := 0
  reserved := Vector.ofFn (fun c => if c = 1 then (if held = 0 then 1 else 0) else 0)
  eventDone := false

/-- The part with that run, CAM1 confirming with window 50. -/
def inFlight (position : Nat) (held : BitVec 12) : State :=
  ((running.setRun 2 (some (running5 position held))).setSlot 5 ⟨2, some { waiting 1 1002 3 with
    phase := .firing, fireTime := some 100, runSlot := some 2 }⟩).setCamera 1 { running.cameras[1] with settings := ⟨.rise, true, 50, 0⟩ }

theorem test_pulseStart : (after (exec (.pulseStart 2) (inFlight 4 0))).cameras[1].queue = [⟨5, 102, 152⟩] ∧
    (after (exec (.pulseStart 2) (inFlight 4 0))).pinLevel 1 = .high := by decide +kernel
theorem test_pulseStart_notDue : (after (exec (.pulseStart 2) (inFlight 3 0))).pinLevel 1 = .low := by decide +kernel
theorem test_pulseEnd : (after (exec (.pulseEnd 2) (inFlight 9 2))).pinLevel 1 = .high ∧
    (after (exec (.pulseEnd 2) (inFlight 10 2))).pinLevel 1 = .low := by decide +kernel
theorem test_runCompletion : (after (exec (.runCompletion 2) (inFlight 10 2))).outcomes.map OutcomeRecord.code = [.done] ∧
    (after (exec (.runCompletion 2) (inFlight 10 2))).runs[2] = none := by decide +kernel

def checkpoint11 : Fin 1 := ⟨0, by decide +kernel⟩

/-! ## Outputs -/

theorem test_outputSet : sent (exec (.outputSet 1 [1, 1, 1]) (inFlight 6 2)) = some [0, 0, 0, 1, 1, 0, 0, 0] ∧
    (after (exec (.outputSet 1 [1, 1, 1]) (inFlight 6 2))).holders 1 = [] := by decide +kernel
theorem test_outputDrive : sent (exec (.outputDrive 1 [3, 1]) (running.setOutput 3 ⟨.activeLow, .staticMode, .inactive, false⟩))
    = some [0, 0, 0, 1, 1, 1, 0, 1] := by decide +kernel
theorem test_outputProtect : sent (exec (.outputProtect 1 [1, 0x01, 0x08]) running) = some [0, 0, 0x01, 0x08] ∧
    sent (exec (.outputProtect 1 [1, 0, 0x10]) running) = some [1, 1, 0, 0] := by decide +kernel
theorem test_outputRead : sent (exec (.outputRead 1 []) (inFlight 6 2))
    = some [0, 0, 0, 0, 0x60, 1, 0, 0, 0, 0, 0, 0, 0, 0, 0, 0, 0, 0, 0, 0, 0, 0, 0, 0, 0, 0] := by decide +kernel

def checkpoint12 : Fin 1 := ⟨0, by decide +kernel⟩

/-! ## Camera channels -/

theorem test_cameraSet : sent (exec (.cameraSet 1 [0, 2, 1, 10, 0, 0, 0, 5, 0, 0, 0]) running)
    = some [0, 0, 0, 2, 1, 10, 0, 0, 0, 5, 0, 0, 0] := by decide +kernel
theorem test_cameraSet_busy : sent (exec (.cameraSet 1 [1, 2, 1, 10, 0, 0, 0, 5, 0, 0, 0]) (inFlight 4 0))
    = some [2, 16, 0, 0, 0, 0, 0, 0, 0, 0, 0, 0, 0] := by decide +kernel
theorem test_cameraSettle : sent (exec (.cameraSettle 1 [0, 15]) running) = some [0, 0, 15, 0, 0, 0, 0] ∧
    sent (exec (.cameraSettle 1 [0, 16]) running) = some [1, 1, 0, 0, 0, 0, 0] := by decide +kernel
theorem test_cameraRead : (sent (exec (.cameraRead 1 [1]) (inFlight 4 0))).map (fun p => (p.drop 27).take 4)
    = some [0, 1, 7, 0] := by decide +kernel

/-- CAM1 waits for the frame of shot 5, which awaits it. -/
def awaiting (now : Timestamp) : State :=
  { (running.setSlot 5 ⟨2, some { waiting 1 1002 3 with phase := .awaiting, fireTime := some 100, outstanding := 1 }⟩).setCamera 1
    { running.cameras[1] with settings := ⟨.rise, true, 50, 0⟩, queue := [⟨5, 102, 152⟩] } with timestamp := now }

theorem test_frameStart : (after (exec (.frameStart 1 .high) (awaiting 120))).outcomes.map (fun r => (r.code, r.confirmed, r.frames))
    = [(.done, 1, [⟨1, 1⟩])] := by decide +kernel
theorem test_frameStart_stray : (after (exec (.frameStart 1 .high) (inFlight 4 0))).alarms.latched = 0x0400#16 := by decide +kernel
theorem test_deadlineExpiry : (after (exec (.deadlineExpiry 1) (awaiting 152))).outcomes.map OutcomeRecord.code = [.frameLost] ∧
    (after (exec (.deadlineExpiry 1) (awaiting 151))).outcomes = [] := by decide +kernel

def checkpoint13 : Fin 1 := ⟨0, by decide +kernel⟩

/-! ## Safe-stop inputs -/

/-- SAFE0 watches a rising edge, its group is TRG1, its binding L1; lane L1 of section 2.7 is ARMED and the run of shot 5 is on TRG1. -/
def guarded (hold : Bool) (d : Detection) : State :=
  ((inFlight 6 2).setLane 1 ⟨⟨.enc0, .same, 200, 1, 65536, 2, 64, 3⟩, if hold then .halted else .armed, 1000, []⟩).setSafe 0
    ⟨d, 2, 2, hold, .low⟩

theorem test_safePinChange : (after (exec (.safePinChange 0 .high) (guarded false .rise))).lanes[1].state = .halted ∧
    (after (exec (.safePinChange 0 .high) (guarded false .rise))).outcomes.map OutcomeRecord.code = [.aborted] ∧
    (after (exec (.safePinChange 0 .high) (guarded false .rise))).alarms.latched = 1#16 := by decide +kernel
theorem test_safePinChange_undetected : (after (exec (.safePinChange 0 .high) (guarded false .fall))).safes[0].hold = false := by
  decide +kernel
theorem test_safeUnlock : (after (exec (.safeUnlock 1 []) running)).unlock = true := by decide +kernel
theorem test_safeSet_locked : sent (exec (.safeSet 1 [0, 1, 2, 0, 2]) running) = some [1, 17, 0, 0, 0, 0, 0, 0, 0] := by decide +kernel
/-- R139: a level condition present at the request starts the hold. -/
theorem test_safeSet_level : sent (exec (.safeSet 1 [0, 4, 2, 0, 2]) { running with unlock := true }) = some [0, 0, 0, 4, 2, 0, 2, 1, 0] := by
  decide +kernel
theorem test_safeRelease : sent (exec (.safeRelease 1 [0]) (guarded true .rise)) = some [0, 0, 0, 0] ∧
    sent (exec (.safeRelease 1 [0]) (guarded true .low)) = some [1, 3, 1, 0] := by decide +kernel
theorem test_safeRead : sent (exec (.safeRead 1 []) { guarded true .low with unlock := true })
    = some [0, 0, 1, 4, 2, 0, 2, 1, 0, 1, 0, 0, 0, 0, 0, 0, 0] := by decide +kernel

def checkpoint14 : Fin 1 := ⟨0, by decide +kernel⟩

/-! ## Outcomes and alarms -/

/-- An outcome record of shot 5. -/
def passed5 : OutcomeRecord := ⟨5, 2, 7, 1, .passed, true, false, 1002, 0, 0, 0, []⟩

theorem test_outcomeFetch : (sent (exec (.outcomeFetch 1 [6]) { running with outcomes := [passed5] })).map (List.take 21)
    = some [0, 0, 1, 0, 5, 2, 7, 0, 0, 0, 1, 7, 1, 0xEA, 3, 0, 0, 0, 0, 0, 0] := by decide +kernel
theorem test_outcomeFetch_bad : sent (exec (.outcomeFetch 1 [7]) running) = some [1, 1, 0, 0] := by decide +kernel
theorem test_alarmRead : sent (exec (.alarmRead 1 []) (running.setAlarms ⟨0x4001, 0xFF00⟩)) = some [0, 0, 1, 0x40, 0, 0xFF] := by
  decide +kernel
/-- R152: SAFE0 stays latched while its hold is ON. -/
theorem test_alarmClear : sent (exec (.alarmClear 1 [0xFF, 0xFF]) ((guarded true .rise).setAlarms ⟨0x4001, 0⟩)) = some [0, 0, 1, 0] := by
  decide +kernel
theorem test_alarmReportSet : sent (exec (.alarmReportSet 1 [0x34, 0x12]) (running.setAlarms ⟨8, 0⟩)) = some [0, 0, 0x34, 0x12, 8, 0] := by
  decide +kernel

def checkpoint15 : Fin 1 := ⟨0, by decide +kernel⟩

/-! ## Steps -/

/-- Half a tick passes, and the timestamp counts at the end of the second half. -/
theorem test_idle : (after (step running)).halfTick = true ∧ (after (step (after (step running)))).timestamp = 1#32 := by decide +kernel

def checkpoint16 : Fin 1 := ⟨0, by decide +kernel⟩

/-! ## Witnesses: every statement's hypotheses are met by a concrete state and concrete operands -/

/-- The link of `running` changed. -/
def linked (f : Link → Link) : State := running.setLink (f running.link)

/-- Encoder 0 with filter 7, pin A timed for `k` half ticks. -/
def timed (k : Nat) : State := quad.setEncoder 0 { quad.encoders[0] with
  config := ⟨.quad4, .rise, false, 7, .rise⟩, pins := ⟨.high, .low, .low⟩, timing := ⟨some k, none, none⟩ }

/-- A frame in assembly, its last byte taken `t` half ticks ago. The line's bit rate is 3 Mbit/s: half a stop bit is 6 or 7 half
ticks. -/
def gapped (t : Nat) : State := linked (fun x => { x with rx := .len, gapTimer := t })

theorem gapped_baud (t : Nat) : (gapped t).link.baud = 3 := rfl

/-- The gap is over. -/
theorem gapped_gapDue : (gapped 40007).link.gapDue = true := gapDue_late _ (by decide +kernel) (by decide +kernel) (by decide +kernel)

/-- Nothing else is due. -/
theorem gapped_due : (gapped 40007).dueEvents = [execGapTimeout] := by
  have hr : ∀ k : RunSlotId, (gapped 40007).runs[k] = none := by decide +kernel
  have h1 : allEncoders.filter (gapped 40007).changeReady = [] := by decide +kernel
  have h2 : allPacers.filter (fun n => (gapped 40007).pacers[n].expiryDue (gapped 40007).timestamp) = [] := by decide +kernel
  have h3 : allRunSlots.flatMap (gapped 40007).runDue = [] := by
    rw [List.flatMap_eq_nil_iff]; intro k _; simp only [State.runDue, hr]
  have h4 : allCameras.filter (fun c => (gapped 40007).cameras[c].deadlineDue (gapped 40007).timestamp) = [] := by decide +kernel
  have h5 : (gapped 40007).link.txOver = false ∧ (gapped 40007).startReady = false ∧ (gapped 40007).takeDue = false := by
    decide +kernel
  simp only [State.dueEvents, h1, h2, h3, h4, h5, gapped_gapDue, List.map_nil, List.nil_append, if_true, Bool.false_eq_true,
    if_false, List.append_nil]

/-- R159: before 1 ms has passed since the end of the stop bit a gap timeout does nothing; then the frame is discarded. -/
theorem test_gapTimeout : (after (exec .gapTimeout (gapped 40007))).link.rx = .hunt ∧
    exec .gapTimeout (gapped 40005) = .next (gapped 40005) := by
  have early : (gapped 40005).link.gapDue = false := gapDue_early _ (by decide +kernel)
  have late : exec .gapTimeout (gapped 40007) = done (((gapped 40007).rxGo .hunt).latch .linkError) := if_pos gapped_gapDue
  refine ⟨?_, if_neg (by rw [early]; decide)⟩
  rw [late]; decide +kernel

def checkpoint33 : Fin 1 := ⟨0, by decide +kernel⟩

theorem witness_IdleStep : State.reset.pending = [] ∧ State.reset.phase = .coldReset ∧ running.pending = [] ∧
    running.phase ≠ .coldReset ∧ running.dueEvents.length = 0 ∧ (gapped 40007).pending = [] ∧
    (gapped 40007).dueEvents = [execGapTimeout] ∧
    ((timed 28).setLink { (timed 28).link with rxBuffer := [⟨1, 1, []⟩] }).dueEvents.length = 2 :=
  ⟨rfl, rfl, rfl, by decide, by decide +kernel, rfl, gapped_due, by decide +kernel⟩

/-- Each kind of event due, and the moment before; the times of a frame end and of START are free values within their bounds. -/
theorem witness_DueEvents : (timed 28).dueEvents.length = 1 ∧ (timed 27).dueEvents.length = 0 ∧
    ({ timed 28 with halfTick := true } : State).dueEvents.length = 0 ∧
    (pacing 5).dueEvents.length = 1 ∧ (pacing 4).dueEvents.length = 0 ∧
    (inFlight 4 0).dueEvents.length = 1 ∧ (inFlight 5 2).dueEvents.length = 0 ∧ (inFlight 10 2).dueEvents.length = 1 ∧
    (awaiting 152).dueEvents.length = 1 ∧ (awaiting 151).dueEvents.length = 0 ∧
    (linked (fun x => { x with rxBuffer := [⟨1, 1, []⟩], replies := List.replicate 3 ⟨1, 1, []⟩ })).dueEvents.length = 1 ∧
    (linked (fun x => { x with rxBuffer := [⟨1, 1, []⟩], replies := List.replicate 4 ⟨1, 1, []⟩ })).dueEvents.length = 0 := by
  decide +kernel

theorem witness_FreeTimes : (∀ b n, frameTime b n ≤ frameTimeMax b n) ∧ (∀ c, startTime c ≤ 80000) := by
  refine ⟨fun b n => ?_, fun c => ?_⟩
  · have h : frameTimeMin b n ≤ frameTimeMax b n := by
      have hb : bitRate b ≠ 0 := by unfold bitRate; split <;> decide
      unfold frameTimeMin frameTimeMax
      exact Nat.le_succ_of_le (Nat.div_le_div_right (Nat.mul_le_mul_left _ (by decide)))
    exact max_le h (min_le_left _ _)
  · cases c
    · exact min_le_left _ _
    · exact le_trans (min_le_left _ _) (by decide)

def checkpoint30 : Fin 1 := ⟨0, by decide +kernel⟩

theorem witness_RstnRise : State.reset.phase = .coldReset ∧ running.phase ≠ .coldReset := by decide

/-- The part between a reset and START, with `n` reports deferred. -/
def starting (n : Nat) (tx : Option Frame) : State :=
  { linked (fun x => { x with deferred := List.replicate n (.alarm (.safe 0) 1), tx := tx }) with phase := .starting .warm }

theorem witness_Start : (starting 7 none).phase = .starting .warm ∧ (starting 7 none).link.replies = [] ∧
    (starting 7 none).link.reports = [] ∧ (starting 7 none).link.deferred.length ≤ 7 ∧ (starting 7 none).link.tx = none ∧
    (starting 0 (some ⟨0x82, 1, []⟩)).link.tx = some ⟨0x82, 1, []⟩ ∧ (starting 0 none).link.deferred.length ≤ 7 ∧
    (starting 0 none).phase ≠ .running ∧ (starting 0 none).alarms.isLatched .collision = false ∧
    (starting 0 none).alarms.isEnabled .collision = true ∧
    ((starting 0 none).setAlarms ⟨0, 0⟩).alarms.isEnabled .collision = false := by
  decide +kernel

theorem witness_Reset : LinkFree running ∧ ([0] : List Byte) ≠ [] := by decide +kernel

theorem witness_WrongLengthAndUnknown : LinkFree running ∧
    (fixedRequest (.ident 1 [0]) = some (0x01, 0, 1, [0]) ∧ [(0 : Byte)].length ≠ 0) ∧
    (fixedRequest (.alarmClear 1 [0]) = some (0x42, 2, 1, [0]) ∧ [(0 : Byte)].length ≠ 2) ∧
    ([0, 0] : List Byte).length < 3 ∧ (u8 [0, 0, 1] 1 = 0 ∧ ([0, 0, 1] : List Byte).length ≠ 3 + 13 * u8 [0, 0, 1] 2) ∧
    (u8 [0, 1, 1] 1 ≠ 0 ∧ ([0, 1, 1] : List Byte).length ≠ 3 + 11 * u8 [0, 1, 1] 2) ∧
    ([0] : List Byte).length < 2 ∧ ([0, 0, 0] : List Byte).length ≠ 2 + 6 * u8 [0, 0, 0] 1 ∧
    (0x00 : Byte) ∉ requestKinds ∧ (0x7F : Byte) ∉ requestKinds ∧ (0x80 : Byte) ∉ requestKinds := by decide +kernel

theorem witness_RequestsWaitOrAreLost : requestFrame (.status 1 []) = some ⟨0x02, 1, []⟩ ∧ running.phase = .running ∧
    ((linked (fun x => { x with rxBuffer := [⟨1, 1, []⟩] })).link.rxBuffer ≠ [] ∧
      (linked (fun x => { x with rxBuffer := [⟨1, 1, []⟩] })).link.rxBuffer.length < 4) ∧
    4 ≤ (linked (fun x => { x with replies := List.replicate 4 ⟨1, 1, []⟩ })).link.replies.length ∧
    4 ≤ (linked (fun x => { x with rxBuffer := List.replicate 4 ⟨1, 1, []⟩ })).link.rxBuffer.length ∧
    State.reset.phase ≠ .running := by decide +kernel

def checkpoint17 : Fin 1 := ⟨0, by decide +kernel⟩

/-- A STATUS waits, then the frames given; one reply place is free. -/
def queuedFrames (f : Frame) (rest : List Frame) : State :=
  linked (fun x => { x with rxBuffer := f :: rest, replies := List.replicate 3 ⟨1, 1, []⟩ })

theorem witness_WaitingFrame : requestFrame (.status 1 []) = some ⟨0x02, 1, []⟩ ∧ requestFrame (.reset 1 []) = some ⟨0x03, 1, []⟩ ∧
    ∀ f ∈ [(⟨0x02, 1, []⟩ : Frame), ⟨0x03, 1, []⟩], ∀ rest ∈ [[], List.replicate 3 (⟨0x01, 2, []⟩ : Frame)],
      (queuedFrames f rest).phase = .running ∧ (queuedFrames f rest).link.replies.length < 4 ∧
      (queuedFrames f rest).link.rxBuffer = f :: rest := by
  decide +kernel

/-- R161: oldest first; the younger frame waits on, but for RESET. -/
theorem test_takeOldest : (after (execTakeOldest (queuedFrames ⟨0x02, 1, []⟩ [⟨0x01, 2, []⟩]))).link.rxBuffer = [⟨0x01, 2, []⟩] ∧
    (after (execTakeOldest (queuedFrames ⟨0x02, 1, []⟩ [⟨0x01, 2, []⟩]))).link.replies.map Frame.kind = [1, 1, 0x82] ∧
    (after (execTakeOldest (queuedFrames ⟨0x03, 1, []⟩ [⟨0x01, 2, []⟩]))).link.rxBuffer = [] := by decide +kernel

/-- `running` with the receiver in a state of Table 11-1. -/
def receiving (x : RxState) : State := linked (fun y => { y with rx := x })

theorem witness_Receiver : (receiving .hunt).phase = .running ∧ (receiving .hunt).link.waitHigh = false ∧
    (receiving .hunt).link.rx = .hunt ∧ (0x5B : Byte) ≠ 0x5A ∧
    (receiving .len).link.rx = .len ∧ (250 : Byte).toNat ≤ 250 ∧ 250 < (251 : Byte).toNat ∧
    (receiving (.kind 250)).link.rx = .kind 250 ∧ (receiving (.tag 0 2)).link.rx = .tag 0 2 ∧
    (receiving (.payload 1 2 3 [])).link.rx = .payload 1 2 3 [] ∧
    (receiving (.payload 250 2 3 [])).link.rx = .payload 250 2 3 [] ∧
    (receiving (.crcLow 0 2 3 [])).link.rx = .crcLow 0 2 3 [] ∧
    (receiving (.crcHigh 0 2 3 [] 4)).link.rx = .crcHigh 0 2 3 [] 4 := by decide +kernel

/-- The CRC bytes of the frame of a STATUS with TAG 1. -/
def statusCrc : List Byte := crcBytes (Frame.covered ⟨2, 1, []⟩)

theorem witness_CompleteFrame :
    (receiving (.crcHigh 0 2 1 [] (statusCrc.getD 0 0))).link.rx = .crcHigh 0 2 1 [] (statusCrc.getD 0 0) ∧
    (receiving (.crcHigh 0 2 1 [] 0)).link.waitHigh = false ∧ (receiving (.crcHigh 0 2 1 [] 0)).phase = .running ∧
    (statusCrc.getD 0 0).toNat + 256 * (statusCrc.getD 1 0).toNat = (crc16 (Frame.covered ⟨2, 1, []⟩)).toNat ∧
    ¬ (statusCrc.getD 0 0).toNat + 256 * (statusCrc.getD 1 0 + 1).toNat = (crc16 (Frame.covered ⟨2, 1, []⟩)).toNat ∧
    (receiving .hunt).link.rxBuffer.length < 4 ∧
    4 ≤ (linked (fun x => { x with rx := .crcHigh 0 2 1 [] 0, rxBuffer := List.replicate 4 ⟨1, 1, []⟩ })).link.rxBuffer.length := by
  decide +kernel

def checkpoint31 : Fin 1 := ⟨0, by decide +kernel⟩

theorem witness_FrameOnTheWire : (List.replicate 250 (0 : Byte)).length ≤ 250 ∧ running.phase = .running ∧
    running.link.waitHigh = false ∧ running.link.rx = .hunt ∧ running.link.rxBuffer.length < 4 := by decide +kernel

/-- R157: a byte with a low stop bit is taken with its data bits. -/
theorem test_rxByte_lowStop : (after (exec (.rxByte 0x02 (.taken .low)) (receiving (.kind 0)))).link.rx = .tag 0 2 ∧
    (after (exec (.rxByte 0x02 (.taken .low)) (receiving (.kind 0)))).link.waitHigh = true := by decide +kernel

theorem witness_LineConditions : (receiving (.kind 0)).link.waitHigh = false ∧ (receiving (.kind 0)).phase = .running ∧
    (linked (fun x => { x with waitHigh := true })).link.waitHigh = true ∧
    running.link.waitHigh = false ∧ running.link.rx = .hunt ∧ (starting 0 none).phase = .starting .warm ∧
    (starting 0 none).phase ≠ .running ∧ State.reset.phase = .coldReset ∧
    (linked (fun x => { x with rx := .len, receiving := true })).link.receiving = true := by decide +kernel

theorem witness_GapTimeout : (gapped 40007).link.rx ≠ .hunt ∧ (gapped 40007).link.receiving = false ∧
    40000 + stopBitRest (gapped 40007).link.baud ≤ (gapped 40007).link.gapTimer ∧
    (gapped 40005).link.gapTimer < 40000 + stopBitRest (gapped 40005).link.baud := by
  refine ⟨by decide +kernel, by decide +kernel, ?_, ?_⟩
  · exact Nat.add_le_add_left (stopBitRest_bounds 3).2 40000
  · exact Nat.lt_of_lt_of_le (by decide +kernel) (Nat.add_le_add_left (stopBitRest_bounds 3).1 40000)

/-- The transmitter sends a STATUS reply of 13 payload bytes since `t` half ticks. -/
def sending (t : Nat) (replies : List Frame) (reports : List Report) : State :=
  linked (fun x => { x with tx := some ⟨0x82, 1, zeros 13⟩, txTimer := t, replies := replies, reports := reports })

theorem witness_Transmitter : (sending 0 [] []).link.tx = some ⟨0x82, 1, zeros 13⟩ ∧
    frameTimeMin 3 ((zeros 13).length + 6) = 2508 ∧ (sending 2508 [] []).link.baud = 3 ∧
    frameTimeMin 3 ((zeros 13).length + 6) ≤ (sending 2508 [] []).link.txTimer ∧
    (sending 2508 [⟨0x81, 1, []⟩] [.start .warm 1]).link.reports = [.start .warm 1] ∧
    (sending 2508 [⟨0x81, 1, []⟩] [.outcomeReady]).link.replies = [⟨0x81, 1, []⟩] ∧
    (sending 2508 [⟨0x81, 1, []⟩] [.outcomeReady]).link.reports = [.outcomeReady] ∧
    ((sending 2508 [] [.outcomeReady]).link.replies = [] ∧ (sending 2508 [] [.outcomeReady]).link.reports = [.outcomeReady]) ∧
    ((sending 2508 [] []).link.replies = [] ∧ (sending 2508 [] []).link.reports = []) ∧
    (sending 2507 [] []).link.txTimer < frameTimeMin 3 ((zeros 13).length + 6) := by decide +kernel

/-- The strap codes and their rates, and the time of 8 bytes at each: 10 bits a byte, 1 % short. -/
theorem witness_FrameTimes : ∀ x ∈ [((0 : BitVec 2), 115200, 27500), (1, 460800, 6875), (2, 1000000, 3168), (3, 3000000, 1056)],
    frameTimeMin x.1 8 = x.2.2 ∧ 396000000 * 8 / x.2.1 = x.2.2 := by decide +kernel

theorem witness_Encodings : (65535 < 65536) ∧ (4294967295 < 4294967296) := by decide

def checkpoint18 : Fin 1 := ⟨0, by decide +kernel⟩

theorem witness_AlarmLatches : (running.setAlarms ⟨0xFFFF, 0⟩).alarms.isLatched .linkOverrun = true ∧
    running.alarms.isLatched (.safe 0) = false ∧ running.alarms.isEnabled (.safe 0) = true ∧
    (running.setAlarms ⟨0, 0⟩).alarms.isEnabled (.safe 0) = false ∧ running.phase = .running ∧ running.link.reports.length < 8 ∧
    (linked (fun x => { x with reports := List.replicate 7 .outcomeReady })).link.reports.length < 8 ∧
    8 ≤ (linked (fun x => { x with reports := List.replicate 8 .outcomeReady })).link.reports.length ∧
    (Alarm.linkError ≠ Alarm.linkOverrun) := by decide +kernel

theorem witness_AlarmRequests : LinkFree running ∧ ([0xFF, 0xFF] : List Byte).length = 2 := by decide +kernel

/-- Shot 5 waits, with `n` records in the outcome queue. -/
def ending (n : Nat) : State := { lineAt 800 1000 .armed with outcomes := List.replicate n passed5 }

theorem witness_ShotEnd : (ending 0).slots[5].shot = some (waiting 1 1002 3) ∧ (ending 0).outcomes = [] ∧ (ending 0).phase = .running ∧
    (ending 0).link.reports.length < 8 ∧ (ending 63).outcomes.length < 64 ∧ (ending 63).outcomes ≠ [] ∧
    64 ≤ (ending 64).outcomes.length := by decide +kernel

theorem witness_OutcomeFetch : LinkFree running ∧ (1 ≤ (1 : Byte).toNat ∧ (1 : Byte).toNat ≤ 6) ∧ (1 ≤ (6 : Byte).toNat ∧ (6 : Byte).toNat ≤ 6) ∧
    (0 : Byte).toNat = 0 ∧ 6 < (7 : Byte).toNat ∧ passed5.frames.length ≤ 4 ∧ (List.replicate 4 (⟨3, 7⟩ : FrameEntry)).length ≤ 4 := by
  decide +kernel

/-- Table 11-9: a full frame list. -/
theorem test_record : ({ passed5 with frames := List.replicate 4 ⟨3, 7⟩ } : OutcomeRecord).bytes.drop 19
    = [4, 3, 7, 0, 0, 0, 3, 7, 0, 0, 0, 3, 7, 0, 0, 0, 3, 7, 0, 0, 0] := by decide +kernel

theorem witness_StatusAndIdent : LinkFree running := by decide +kernel

def checkpoint19 : Fin 1 := ⟨0, by decide +kernel⟩

/-! ### Position sources -/

/-- An encoder configuration of a mode and an edge. -/
def config (m : EncoderMode) (e : EdgeSelection) : EncoderConfig := ⟨m, e, false, 0, .noEdge⟩

theorem witness_Decoder : (config .quad4 .rise).mode = .quad4 ∧ (config .quad1 .rise).edge = .rise ∧ (config .quad1 .fall).edge = .fall ∧
    (config .stepdir .both).mode = .stepdir ∧ (config .count .both).mode = .count ∧ Level.low ≠ Level.high ∧
    ((Level.low, Level.low, Level.high, Level.low) ∈ [(Level.low, Level.low, Level.high, Level.low), (.high, .low, .high, .high),
      (.high, .high, .low, .high), (.low, .high, .low, .low)]) := by decide

theorem witness_EncoderPinChange : State.reset.phase = .coldReset ∧ quad.phase ≠ .coldReset ∧ quad.encoders[0].config.filter = 0 ∧
    quad.encoders[0].filtered ≠ ⟨.high, .low, .low⟩ ∧
    decodeAB quad.encoders[0].config quad.encoders[0].referenceA quad.encoders[0].referenceB .high .high = .illegal ∧
    quad.encoders[0].filtered ≠ ⟨.low, .low, .high⟩ ∧
    decodeAB quad.encoders[0].config quad.encoders[0].referenceA quad.encoders[0].referenceB .low .low = .nothing ∧
    decodeAB quad.encoders[0].config quad.encoders[0].referenceA quad.encoders[0].referenceB .high .low = .step true ∧
    (quad.setEncoder 0 { quad.encoders[0] with config := ⟨.quad4, .rise, false, 7, .rise⟩ }).encoders[0].config.filter ≠ 0 ∧
    quad.halfTick = false ∧ quad.wholeTick.encoders[0].config.filter = 0 ∧ ({ quad with halfTick := true } : State).halfTick = true ∧
    ({ quad with halfTick := true } : State).dueEvents.length = 0 ∧
    ({ quad with halfTick := true } : State).wholeTick.encoders[0].config.filter = 0 ∧
    ({ timed 3 with halfTick := true } : State).wholeTick.encoders[0].config.filter ≠ 0 := by
  decide +kernel

theorem timed27 : (timed 27).encoders[0].timing.a = some 27 ∧ (timed 27).encoders[0].timing.b = none ∧
    (timed 27).encoders[0].timing.z = none ∧ 4 * (timed 27).encoders[0].config.filter.val = 28 := by decide +kernel

theorem witness_FilteredChange : (timed 28).phase ≠ .coldReset ∧ (timed 28).halfTick = false ∧
    ({ timed 28 with halfTick := true } : State).halfTick = true ∧
    (∃ k, (timed 28).encoders[0].timing.a = some k ∧ 4 * (timed 28).encoders[0].config.filter.val ≤ k) ∧
    (¬ ∃ k, (timed 27).encoders[0].timing.a = some k ∧ 4 * (timed 27).encoders[0].config.filter.val ≤ k) ∧
    (¬ ∃ k, (timed 27).encoders[0].timing.b = some k ∧ 4 * (timed 27).encoders[0].config.filter.val ≤ k) ∧
    (¬ ∃ k, (timed 27).encoders[0].timing.z = some k ∧ 4 * (timed 27).encoders[0].config.filter.val ≤ k) := by
  refine ⟨by decide +kernel, by decide +kernel, rfl, ⟨28, by decide +kernel⟩, ?_, ?_, ?_⟩
  · rintro ⟨k, h, hk⟩
    rw [timed27.1] at h; cases h
    rw [timed27.2.2.2] at hk; omega
  · rintro ⟨k, h, _⟩
    rw [timed27.2.1] at h; cases h
  · rintro ⟨k, h, _⟩
    rw [timed27.2.2.1] at h; cases h

/-- An ENCODER_SET payload for ENC1: QUAD1 RISE, invert, filter 7, index FALL, the preset flag as given. -/
def encoderPayload (preset : Byte) : List Byte := [1, 1, 0, 1, 7, 2, preset, 1, 0, 0, 0]

/-- Lane L3 ARMED on ENC1. -/
def onEnc1 : State := running.setLane 3 { running.lanes[3] with settings := { running.lanes[3].settings with source := .enc1 }, state := .armed }

theorem witness_EncoderSetAndRead : LinkFree running ∧ (encoderPayload 0).length = 11 ∧ u8 (encoderPayload 0) 0 = (1 : EncoderId).val ∧
    EncoderMode.ofCode (u8 (encoderPayload 0) 1) = some .quad1 ∧ EdgeSelection.ofCode (u8 (encoderPayload 0) 2) = some .rise ∧
    true = decide (u8 (encoderPayload 0) 3 ≠ 0) ∧ u8 (encoderPayload 0) 4 = (7 : Fin 8).val ∧
    IndexEdge.ofCode (u8 (encoderPayload 0) 5) = some .fall ∧ u8 (encoderPayload 0) 6 = 0 ∧ u8 (encoderPayload 1) 6 ≠ 0 ∧
    (¬ ∃ l : LaneId, running.lanes[l].settings.source = encoderSource 1 ∧ running.lanes[l].state ≠ .off) ∧
    (LinkFree onEnc1 ∧ ∃ l : LaneId, onEnc1.lanes[l].settings.source = encoderSource 1 ∧ onEnc1.lanes[l].state ≠ .off) ∧
    (∀ x ∈ ([(0, 2), (1, 4), (2, 3), (4, 8), (5, 3)] : List (Nat × Byte)), (encoderPayload 0).length = 11 ∧
      (1 < u8 ((encoderPayload 0).set x.1 x.2) 0 ∨ 3 < u8 ((encoderPayload 0).set x.1 x.2) 1 ∨ 2 < u8 ((encoderPayload 0).set x.1 x.2) 2 ∨
        7 < u8 ((encoderPayload 0).set x.1 x.2) 4 ∨ 2 < u8 ((encoderPayload 0).set x.1 x.2) 5)) ∧
    (u8 ((encoderPayload 0).set 2 2) 1 = 1 ∧ u8 ((encoderPayload 0).set 2 2) 2 = 2) ∧
    (1 : Byte).toNat = (1 : EncoderId).val ∧ 1 < (2 : Byte).toNat := by decide +kernel

/-- A PACER_SET payload for PAC1. -/
def pacerPayload (i0 i3 preset : Byte) : List Byte := [1, i0, 0, 0, i3, preset, 9, 0, 0, 0]

/-- PAC1 in RUN, and PAC1 in STOP with lane L0 ARMED on it. -/
def pacerRunning : State := running.setPacer 1 ⟨5, none, true, 0, some 0⟩
def onPac1 : State := running.setLane 0 { running.lanes[0] with settings := { running.lanes[0].settings with source := .pac1 }, state := .paused }

theorem witness_PacerSet : LinkFree running ∧ (pacerPayload 0 1 0).length = 10 ∧ u8 (pacerPayload 0 1 0) 0 = (1 : PacerId).val ∧
    u32 (pacerPayload 0 1 0) 1 = 16777216 ∧ 1 ≤ u32 (pacerPayload 1 0 0) 1 ∧ u8 (pacerPayload 1 0 0) 5 = 0 ∧ u8 (pacerPayload 1 0 1) 5 ≠ 0 ∧
    running.pacers[1].running = false ∧ LinkFree pacerRunning ∧ pacerRunning.pacers[1].running = true ∧
    (¬ ∃ l : LaneId, running.lanes[l].settings.source = pacerSource 1 ∧ running.lanes[l].state ≠ .off) ∧
    (LinkFree onPac1 ∧ ∃ l : LaneId, onPac1.lanes[l].settings.source = pacerSource 1 ∧ onPac1.lanes[l].state ≠ .off) ∧
    1 < u8 ((pacerPayload 1 0 0).set 0 2) 0 ∧ u32 (pacerPayload 0 0 0) 1 = 0 ∧ 16777216 < u32 (pacerPayload 1 1 0) 1 := by
  decide +kernel

theorem witness_PacerRunAndRead : LinkFree running ∧ LinkFree pacerRunning ∧ (1 : Byte).toNat = (1 : PacerId).val ∧
    running.pacers[1].running = false ∧ pacerRunning.pacers[1].running = true ∧ 1 < (2 : Byte).toNat := by decide +kernel

def checkpoint20 : Fin 1 := ⟨0, by decide +kernel⟩

theorem witness_PacerExpiry : (pacing 5).pacers[0].running = true ∧ (pacing 5).pacers[0].intervalStart = some 0 ∧
    (pacing 5).pacers[0].interval ≤ ((pacing 5).timestamp - 0).toNat ∧
    (pacing 4).pacers[0].intervalStart = some 0 ∧ ((pacing 4).timestamp - 0).toNat < (pacing 4).pacers[0].interval := by
  decide +kernel

def checkpoint21 : Fin 1 := ⟨0, by decide +kernel⟩

/-! ### Lanes and the shot pool -/

/-- Whether slot `x` holds a QUEUED shot of lane `l`. -/
def queuedOn (l : LaneId) (x : Slot) : Bool := (x.shot.map (fun sh => sh.phase == .queued && sh.lane == l)).getD false

/-- Whether slot `x` holds a shot that is FIRING in run slot `k`. -/
def firingIn (k : RunSlotId) (x : Slot) : Bool := (x.shot.map (fun sh => sh.phase == .firing && sh.runSlot == some k)).getD false

/-- poolSound as a check. -/
def poolCheck (s : State) : Bool :=
  allLanes.all (fun l => decide (s.lanes[l].queue.Nodup) && (s.lanes[l].state != .off || s.lanes[l].queue.isEmpty)
    && allHandles.all (fun h => decide (h ∈ s.lanes[l].queue) == queuedOn l s.slots[h]))
  && allRunSlots.all (fun k => ((s.runs[k]).map (fun r => firingIn k s.slots[r.handle])).getD true)
  && allHandles.all (fun h => ((s.slots[h].shot).map (fun sh =>
      sh.phase != .firing || allRunSlots.any (fun k => (s.runs[k]).map Run.handle == some h))).getD true)

theorem poolSound_of_check (s : State) (hc : poolCheck s = true) : s.poolSound := by
  simp only [poolCheck, Bool.and_eq_true, List.all_eq_true, allLanes, allHandles, allRunSlots, List.mem_finRange, true_implies,
    beq_iff_eq] at hc
  obtain ⟨⟨h1, h2⟩, h3⟩ := hc
  refine ⟨fun l => of_decide_eq_true (h1 l).1.1, fun l h => ?_, fun l hl => ?_, fun k r hr => ?_, fun h sh hs hp => ?_⟩
  · have e := (h1 l).2 h
    have m : h ∈ s.lanes[l].queue ↔ queuedOn l s.slots[h] = true := by rw [← e]; exact decide_eq_true_iff.symm
    rw [m]
    unfold queuedOn State.waits
    generalize s.slots[h].shot = x
    cases x <;> simp
  · have e := (h1 l).1.2
    rw [hl] at e
    exact List.isEmpty_iff.mp e
  · have e := h2 k
    rw [hr] at e
    have e : firingIn k s.slots[r.handle] = true := e
    unfold firingIn at e
    generalize s.slots[r.handle].shot = x at e ⊢
    cases x <;> simp at e ⊢
    exact e
  · have e := h3 h
    rw [hs] at e
    have e : (sh.phase != .firing || (List.finRange 6).any (fun k => (s.runs[k]).map Run.handle == some h)) = true := e
    rw [hp] at e
    simp only [bne_self_eq_false, Bool.false_or, List.any_eq_true, List.mem_finRange, true_and, beq_iff_eq,
      Option.map_eq_some_iff] at e
    obtain ⟨k, r, hr⟩ := e
    exact ⟨k, r, hr⟩

theorem pool_lineAt : (lineAt 800 1000 .armed).poolSound := poolSound_of_check _ (by decide +kernel)

/-- A LANE_SET payload for L3: source PAC1, OPPOSITE, lead = horizon = 16,777,216 where `wide`, else 1; spacing 1, quota 256. -/
def lanePayload (lane src dir lead horizon3 spacing quotaHigh quotaLow : Byte) : List Byte :=
  [lane, src, dir, 0, 0, 0, 0, lead, 0, 1, 0, 0, horizon3, spacing, 0, quotaLow, quotaHigh, 0, 0]

theorem witness_LaneSettings : LinkFree running ∧ (lanePayload 3 3 1 1 0 1 1 0).length = 19 ∧
    u8 (lanePayload 3 3 1 1 0 1 1 0) 0 = (3 : LaneId).val ∧ Source.ofCode (u8 (lanePayload 3 3 1 1 0 1 1 0) 1) = some .pac1 ∧
    Direction.ofCode (u8 (lanePayload 3 3 1 1 0 1 1 0) 2) = some .opposite ∧
    (1 ≤ u16 (lanePayload 3 3 1 1 0 1 1 0) 7 ∧ u16 (lanePayload 3 3 1 1 0 1 1 0) 7 = u32 (lanePayload 3 3 1 1 0 1 1 0) 9 ∧
      1 ≤ u16 (lanePayload 3 3 1 1 0 1 1 0) 13 ∧ u16 (lanePayload 3 3 1 1 0 1 1 0) 15 = 256) ∧
    running.lanes[3].state = .off ∧ LinkFree onEnc1 ∧ onEnc1.lanes[3].state ≠ .off ∧
    3 < u8 (lanePayload 4 3 1 1 0 1 1 0) 0 ∧ 3 < u8 (lanePayload 3 4 1 1 0 1 1 0) 1 ∧ 1 < u8 (lanePayload 3 3 2 1 0 1 1 0) 2 ∧
    u16 (lanePayload 3 3 1 0 0 1 1 0) 7 = 0 ∧ u32 (lanePayload 3 3 1 2 0 1 1 0) 9 < u16 (lanePayload 3 3 1 2 0 1 1 0) 7 ∧
    16777216 < u32 (lanePayload 3 3 1 1 1 1 1 0) 9 ∧ u16 (lanePayload 3 3 1 1 0 0 1 0) 13 = 0 ∧
    u16 (lanePayload 3 3 1 1 0 1 0 0) 15 = 0 ∧ 256 < u16 (lanePayload 3 3 1 1 0 1 1 1) 15 ∧
    (3 : Byte).toNat = (3 : LaneId).val ∧ running.lanes[3].queue = [] ∧
    (LinkFree (lineAt 800 1000 .armed) ∧ (1 : Byte).toNat = (1 : LaneId).val ∧
      (lineAt 800 1000 .armed).lanes[1].queue = 5 :: [9] ∧ (lineAt 800 1000 .armed).slots[5].shot = some (waiting 1 1002 3)) ∧
    3 < (4 : Byte).toNat := by decide +kernel

theorem witness_CountEvents : (lineAt 800 1000 .armed).lanes[1].settings.direction = .same ∧
    (running.setLane 0 { running.lanes[0] with settings := { running.lanes[0].settings with direction := .opposite } }).lanes[0].settings.direction
      = .opposite := by decide +kernel

/-- Lane L1 in a state, bound to SAFE1 whose hold is as given. -/
def bound (state : LaneState) (hold : Bool) : State := (lineAt 800 1000 state).setSafe 1 ⟨.rise, 0, 2, hold, .low⟩

theorem witness_LaneStateRequests : (1 : Byte).toNat = (1 : LaneId).val ∧ 3 < (4 : Byte).toNat ∧
    (∀ x ∈ [LaneState.off, .armed, .paused, .halted], ∀ b ∈ [false, true], LinkFree (bound x b) ∧ (bound x b).lanes[1].state = x) ∧
    (∃ n : SafeId, (bound .off true).safes[n].hold = true ∧ (bound .off true).safes[n].binding.getLsbD (1 : LaneId).val = true) ∧
    (∃ n : SafeId, (bound .halted true).safes[n].hold = true ∧ (bound .halted true).safes[n].binding.getLsbD (1 : LaneId).val = true) ∧
    (¬ ∃ n : SafeId, (bound .off false).safes[n].hold = true ∧ (bound .off false).safes[n].binding.getLsbD (1 : LaneId).val = true) ∧
    (¬ ∃ n : SafeId, (bound .halted false).safes[n].hold = true ∧
      (bound .halted false).safes[n].binding.getLsbD (1 : LaneId).val = true) := by decide +kernel

theorem witness_LaneDisarm : LinkFree (ending 63) ∧ (ending 63).poolSound ∧ (ending 63).outcomes.length ≤ 64 ∧
    (1 : Byte).toNat = (1 : LaneId).val ∧ 64 < (ending 63).outcomes.length + (ending 63).lanes[1].queue.length ∧ 3 < (4 : Byte).toNat ∧
    (ending 62).outcomes.length + (ending 62).lanes[1].queue.length ≤ 64 ∧ (ending 0).outcomes = [] ∧
    (ending 0).lanes[1].queue ≠ [] ∧ (ending 0).lanes[0].queue = [] ∧ (ending 0).link.reports.length < 8 :=
  ⟨by decide +kernel, pool_lineAt, by decide +kernel, by decide +kernel, by decide +kernel, by decide +kernel, by decide +kernel,
    by decide +kernel, by decide +kernel, by decide +kernel, by decide +kernel⟩

/-- R146: the reply goes out, and the first record of the flush has told of itself, once. -/
theorem test_laneDisarm_report : (after (exec (.laneDisarm 1 [1]) (ending 0))).link.reports = [.outcomeReady] := by decide +kernel

def checkpoint35 : Fin 1 := ⟨0, by decide +kernel⟩

theorem witness_LaneTakesACountEvent : running.lanes[1].state = .off ∧
    ((lineAt 800 1001 .armed).lanes[1].state ≠ .off ∧ (lineAt 800 1001 .armed).lanes[1].settings.direction = .same ∧
      0 < ((lineAt 800 1001 .armed).lanes[1].mark - ((lineAt 800 1001 .armed).lanePosition 1 - 1)).toNat) ∧
    ((lineAt 801 1000 .armed).lanes[1].mark - ((lineAt 801 1000 .armed).lanePosition 1 - 1)).toNat = 0 ∧
    (onEnc1.lanes[3].queue = [] ∧ onEnc1.lanes[3].state ≠ .off) ∧
    ((lineAt 801 1000 .armed).lanes[1].queue = 5 :: [9] ∧ (lineAt 801 1000 .armed).slots[5].shot = some (waiting 1 1002 3) ∧
      (waiting 1 1002 3).trigger ≠ (lineAt 801 1000 .armed).lanes[1].mark + 1) ∧
    ((waiting 1 1002 3).trigger = (lineAt 802 1001 .armed).lanes[1].mark + 1 ∧ (lineAt 802 1001 .armed).lanes[1].state = .armed ∧
      (lineAt 802 1001 .paused).lanes[1].state = .paused ∧ (lineAt 802 1001 .halted).lanes[1].state = .halted) ∧
    (((lineAt 798 1001 .armed).lanes[1].mark - (lineAt 798 1001 .armed).lanePosition 1).toNat = 3 ∧
      (lineAt 798 1001 .armed).lanes[1].settings.reverseLimit = 3) ∧
    3 < ((lineAt 797 1001 .armed).lanes[1].mark - (lineAt 797 1001 .armed).lanePosition 1).toNat ∧
    (onEnc1.lanes[3].settings.reverseLimit = 0) := by decide +kernel

/-- An entry of a SUBMIT to L1, and the line it goes to: mark 1,000, shots at ahead-distances 2 and 6, spacing 2, quota as given. -/
def entry (program flags burstCount : Nat) : Entry := ⟨4, program, 1, flags, burstCount, 0⟩
def line (quota : Nat) : State := (lineAt 800 1000 .armed).setLane 1 ⟨⟨.enc0, .same, 200, 2, 65536, 2, quota, 3⟩, .armed, 1000, [5, 9]⟩

/-- Every slot holds a shot. -/
def fullPool : State := { line 64 with slots := Vector.replicate 256 ⟨1, some (waiting 1 1002 3)⟩ }

def checkpoint22 : Fin 1 := ⟨0, by decide +kernel⟩

theorem witness_AdmissionChecks : running.lanes[1].state = .off ∧ (line 64).lanes[1].state ≠ .off ∧
    (∀ i : ProgramId, ¬ ((entry 5 0 0).program = i.val ∧ ((line 64).programs[i].active).isSome = true)) ∧
    (∀ i : ProgramId, ¬ ((entry 32 0 0).program = i.val ∧ ((line 64).programs[i].active).isSome = true)) ∧
    ((entry 3 0 0).program = (3 : ProgramId).val ∧ ((line 64).programs[(3 : ProgramId)].active).isSome = true) ∧
    (1 < (entry 3 2 0).flags ∧ (entry 3 1 9).flags = 1 ∧ 8 < (entry 3 1 9).burstCount ∧ (entry 3 1 0).burstCount = 0) ∧
    (((1000 : Position) - (line 64).lanes[1].mark).toNat = 0 ∧ 2 ^ 31 ≤ ((999 : Position) - (line 64).lanes[1].mark).toNat ∧
      ((1001 : Position) - (line 64).lanes[1].mark).toNat < (line 64).lanes[1].settings.lead) ∧
    (line 64).lanes[1].settings.horizon < ((66537 : Position) - (line 64).lanes[1].mark).toNat ∧
    ((∃ h ∈ (line 64).lanes[1].queue, (line 64).aheadOf 1 h < 5 + 2 ∧ 5 < (line 64).aheadOf 1 h + 2) ∧
      ((1005 : Position) - (line 64).lanes[1].mark).toNat = 5) ∧
    (((1004 : Position) - (line 64).lanes[1].mark).toNat = 4 ∧
      ¬ ∃ h ∈ (line 64).lanes[1].queue, (line 64).aheadOf 1 h < 4 + 2 ∧ 4 < (line 64).aheadOf 1 h + 2) ∧
    (line 2).lanes[1].settings.quota ≤ (line 2).lanes[1].queue.length ∧ ¬ (line 64).lanes[1].settings.quota ≤ (line 64).lanes[1].queue.length ∧
    (line 64).slots[(0 : Handle)].shot = none := by decide +kernel

theorem witness_AdmissionChecks_full : (∀ h : Handle, fullPool.slots[h].shot ≠ none) ∧
    ((66536 : Position) - fullPool.lanes[1].mark).toNat = fullPool.lanes[1].settings.horizon ∧
    ¬ ∃ h ∈ fullPool.lanes[1].queue, fullPool.aheadOf 1 h < 65536 + 2 ∧ 65536 < fullPool.aheadOf 1 h + 2 :=
  ⟨fun h => by simp [fullPool], by decide +kernel, by decide +kernel⟩

/-- A SUBMIT of one entry, ABS32, and of one entry, REL16. -/
def absSubmit : List Byte := [1, 0, 1, 0xEC, 3, 0, 0, 3, 1, 0, 0, 0, 0, 0, 0, 0]
def relSubmit : List Byte := [1, 1, 1, 2, 0, 3, 1, 0, 0, 0, 0, 0, 0, 0]

theorem witness_Submit : LinkFree (line 64) ∧ 3 ≤ absSubmit.length ∧ u8 absSubmit 0 = (1 : LaneId).val ∧ u8 absSubmit 1 = 0 ∧
    u8 absSubmit 2 = 1 ∧ absSubmit.length = 3 + 13 * 1 ∧
    [absEntryAt absSubmit 0] = [⟨u32 absSubmit 3, u8 absSubmit 7, w32 absSubmit 8, u8 absSubmit 12, u8 absSubmit 13, u16 absSubmit 14⟩] ∧
    u8 relSubmit 1 = 1 ∧ relSubmit.length = 3 + 11 * 1 ∧
    [relEntryAt relSubmit 0] = [⟨u16 relSubmit 3, u8 relSubmit 5, w32 relSubmit 6, u8 relSubmit 10, u8 relSubmit 11, u16 relSubmit 12⟩] ∧
    (3 < u8 [4, 0, 0] 0 ∧ ([4, 0, 0] : List Byte).length = 3 + 13 * u8 [4, 0, 0] 2) ∧ 1 < u8 [0, 2, 0] 1 ∧ u8 [0, 0, 0] 2 = 0 ∧
    16 < u8 (0 :: 1 :: 17 :: zeros 187) 2 ∧ (0 :: 1 :: 17 :: zeros 187).length = 3 + 11 * 17 ∧
    (line 64).checkEntry 1 false (absEntryAt absSubmit 0) 1004 = .ok (3, 0) ∧
    (line 64).checkEntry 1 false (absEntryAt absSubmit 0) 1000 = .error .tooNear := by decide +kernel

theorem witness_CancelAndShotRead : LinkFree (line 64) ∧ (5 : Byte).toNat = (5 : Handle).val ∧
    (line 64).slots[(5 : Handle)].shot = some (waiting 1 1002 3) ∧ (waiting 1 1002 3).phase = .queued ∧
    (line 64).slots[(5 : Handle)].generation = 2 ∧ (line 64).slots[(5 : Handle)].generation ≠ 3 ∧
    (255 : Byte).toNat = (255 : Handle).val ∧ (line 64).slots[(255 : Handle)].shot = none ∧
    (LinkFree (awaiting 0) ∧ ((awaiting 0).slots[(5 : Handle)].shot).map Shot.phase = some .awaiting) := by decide +kernel

/-- An AMEND payload for shot 5. -/
def amendPayload (h generation flags program : Byte) : List Byte := [h, generation, flags, program, 8, 0, 0, 0]

theorem waits_line : (line 64).waits 5 (waiting 1 1002 3) ∧ (line 64).waits 9 (waiting 1 1006 4) := by
  refine ⟨⟨?_, rfl⟩, ⟨?_, rfl⟩⟩ <;> decide +kernel

theorem free_line : ¬ ∃ sh, (line 64).waits 0 sh := by
  rintro ⟨sh, h, _⟩
  have e : (line 64).slots[(0 : Handle)].shot = none := by decide +kernel
  rw [e] at h; cases h

theorem passes_program : amendPasses (line 64) (amendPayload 5 2 3 4) 0 5 (waiting 1 1002 3) (some 4) (some 8) :=
  ⟨by decide, by decide, by decide, waits_line.1, by decide +kernel, fun i hi => by cases hi; decide +kernel, fun h => by simp at h,
    by decide⟩

def checkpoint23 : Fin 1 := ⟨0, by decide +kernel⟩

theorem passes_label : amendPasses (line 64) (amendPayload 5 2 2 200) 0 5 (waiting 1 1002 3) none (some 8) :=
  ⟨by decide, by decide, by decide, waits_line.1, by decide +kernel, by simp, by decide, by decide⟩

theorem witness_Amend : LinkFree (line 64) ∧ (amendPayload 5 2 3 4).length = 8 ∧
    amendPasses (line 64) (amendPayload 5 2 3 4) 0 5 (waiting 1 1002 3) (some 4) (some 8) ∧ (4 : ProgramId) ≠ (waiting 1 1002 3).program ∧
    amendPasses (line 64) (amendPayload 5 2 2 200) 0 5 (waiting 1 1002 3) none (some 8) ∧
    amendFails (line 64) (amendPayload 5 2 0 4) 0 5 .badField ∧ amendFails (line 64) (amendPayload 5 2 4 4) 0 5 .badField ∧
    amendFails (line 64) (amendPayload 0 0 1 4) 0 0 .gone ∧ amendFails (line 64) (amendPayload 5 3 1 4) 0 5 .mismatch ∧
    amendFails (line 64) (amendPayload 5 2 1 5) 0 5 .noProgram ∧ amendFails (line 64) (amendPayload 5 2 1 32) 0 5 .noProgram :=
  ⟨by decide +kernel, by decide, passes_program, by decide, passes_label,
    ⟨by decide, .inl ⟨rfl, by decide⟩⟩, ⟨by decide, .inl ⟨rfl, by decide⟩⟩,
    ⟨by decide, .inr (.inl ⟨rfl, by decide, free_line⟩)⟩,
    ⟨by decide, .inr (.inr (.inl ⟨rfl, by decide, ⟨_, waits_line.1⟩, by decide +kernel⟩))⟩,
    ⟨by decide, .inr (.inr (.inr ⟨rfl, by decide, ⟨_, waits_line.1⟩, by decide +kernel, by decide +kernel⟩))⟩,
    ⟨by decide, .inr (.inr (.inr ⟨rfl, by decide, ⟨_, waits_line.1⟩, by decide +kernel, by decide +kernel⟩))⟩⟩

/-- The slots of `line 64`. -/
theorem slots_line : ∀ h : Handle, (line 64).slots[h].shot = if h = 5 then some (waiting 1 1002 3) else if h = 9 then some (waiting 1 1006 4) else none := by
  decide +kernel

theorem waitsFor_line (i : ProgramId) (h : Handle) : (line 64).waitsFor i h = ((h == 5 && i == 3) || (h == 9 && i == 4)) := by
  unfold State.waitsFor
  rw [slots_line]
  by_cases h5 : h = 5
  · subst h5; simp [waiting, eq_comm]
  · by_cases h9 : h = 9
    · subst h9; simp [waiting, eq_comm]
    · simp [h5, h9]

theorem refs_line : (line 64).refsSound := by
  refine ⟨fun i => ?_, fun h sh hw => ?_⟩
  · have e : (line 64).waitsFor i = fun h => ((h == 5 && i == 3) || (h == 9 && i == 4)) := funext (waitsFor_line i)
    rw [e]
    have c : ∀ a b : Bool, allHandles.countP (fun h => (h == 5 && a) || (h == 9 && b)) = a.toNat + b.toNat := by decide +kernel
    rw [c]
    revert i; decide +kernel
  · have e := hw.1
    rw [slots_line] at e
    by_cases h5 : h = 5
    · rw [if_pos h5] at e; cases e; decide +kernel
    · rw [if_neg h5] at e
      by_cases h9 : h = 9
      · rw [if_pos h9] at e; cases e; decide +kernel
      · rw [if_neg h9] at e; cases e

/-- An AMEND_PAIR payload: shots 5 and 9 exchange their programs; the second set's generation as given. -/
def pairPayload (j g : Byte) : List Byte := [5, 2, 1, 4, 0, 0, 0, 0, j, g, 1, 3, 0, 0, 0, 0]

theorem witness_AmendPair : LinkFree (line 64) ∧ (pairPayload 9 6).length = 16 ∧ u8 (pairPayload 9 6) 0 = (5 : Handle).val ∧
    u8 (pairPayload 9 6) 8 = (9 : Handle).val ∧ (line 64).refsSound ∧ (5 : Handle) ≠ 9 ∧
    amendPasses (line 64) (pairPayload 9 6) 0 5 (waiting 1 1002 3) (some 4) none ∧
    amendPasses (line 64) (pairPayload 9 6) 8 9 (waiting 1 1006 4) (some 3) none ∧
    u8 (pairPayload 5 2) 8 = (5 : Handle).val ∧ amendFails (line 64) (pairPayload 9 7) 8 9 .mismatch ∧
    amendFails (line 64) (5 :: 3 :: (pairPayload 9 6).drop 2) 0 5 .mismatch ∧ (5 :: 3 :: (pairPayload 9 6).drop 2).length = 16 :=
  ⟨by decide +kernel, by decide, by decide, by decide, refs_line, by decide,
    ⟨by decide, by decide, by decide, waits_line.1, by decide +kernel, fun i hi => by cases hi; decide +kernel, by simp, by decide⟩,
    ⟨by decide, by decide, by decide, waits_line.2, by decide +kernel, fun i hi => by cases hi; decide +kernel, by simp, by decide⟩,
    by decide, ⟨by decide, .inr (.inr (.inl ⟨rfl, by decide, ⟨_, waits_line.2⟩, by decide +kernel⟩))⟩,
    ⟨by decide, .inr (.inr (.inl ⟨rfl, by decide, ⟨_, waits_line.1⟩, by decide +kernel⟩))⟩, by decide⟩

def checkpoint24 : Fin 1 := ⟨0, by decide +kernel⟩

/-! ### The program store and the pulse engine -/

/-- A PROGRAM_WRITE of two pulses on one output: the second of width 65,535 - `start` ticks. -/
def writePayload (program start : Byte) : List Byte := [program, 2, 11, 0, 0, 100, 0, 1, 11, start, 0, 20, 0, 0]
def first : Pulse := ⟨11, 0, 100, true⟩
def second (start : Nat) : Pulse := ⟨11, start, 20, false⟩

theorem witness_PulseIntervals : first.fine = true ∧ (second 101).fine = false ∧ first.overlaps (second 100) = true ∧
    first.overlaps (second 101) = false := by decide

theorem carries_write (start : Byte) (hs : start = 101 ∨ start = 100) : ∀ k x, [first, second start.toNat][k]? = some x →
    carriesPulse (writePayload 31 start) k x ∧ ¬ badPulse (writePayload 31 start) k := by
  intro k x h
  match k with
  | 0 => cases h; rcases hs with rfl | rfl <;> (unfold carriesPulse badPulse; decide)
  | 1 => cases h; rcases hs with rfl | rfl <;> (unfold carriesPulse badPulse; decide)
  | k + 2 => simp at h

theorem witness_ProgramWrite : LinkFree running ∧ 2 ≤ (writePayload 31 101).length ∧
    (writePayload 31 101).length = 2 + 6 * u8 (writePayload 31 101) 1 ∧ u8 (writePayload 31 101) 0 = (31 : ProgramId).val ∧
    (∀ k x, [first, second 101][k]? = some x → carriesPulse (writePayload 31 101) k x ∧ ¬ badPulse (writePayload 31 101) k) ∧
    [first, second 101].Pairwise (fun x y => x.overlaps y = false) ∧ (∃ x ∈ [first, second 101], 242 = x.ends) ∧
    (∀ x ∈ [first, second 101], x.ends ≤ 242) ∧ running.updateHold = .closed ∧ LinkFree staged ∧ staged.updateHold = .opened ∧
    31 < u8 (writePayload 32 101) 0 ∧ u8 [0, 0] 1 = 0 ∧ ([0, 0] : List Byte).length = 2 + 6 * u8 [0, 0] 1 ∧
    8 < u8 (0 :: 9 :: zeros 54) 1 ∧ (0 :: 9 :: zeros 54).length = 2 + 6 * 9 ∧
    (badPulse ((writePayload 31 101).set 8 12) 1 ∧ ∀ j, j < 1 → ¬ badPulse ((writePayload 31 101).set 8 12) j) ∧
    (∀ k x, [first, second 100][k]? = some x → carriesPulse (writePayload 31 100) k x ∧ ¬ badPulse (writePayload 31 100) k) ∧
    [first, second 100][0]? = some first ∧ [first, second 100][1]? = some (second 100) ∧ first.overlaps (second 100) = true ∧
    (∀ a' b' x' y', a' < b' → [first, second 100][a']? = some x' → [first, second 100][b']? = some y' → x'.overlaps y' = true →
      1 < b' ∨ (1 = b' ∧ 0 ≤ a')) := by
  refine ⟨by decide +kernel, by decide, by decide, by decide, carries_write 101 (.inl rfl), by decide, by decide, by decide,
    by decide +kernel, by decide +kernel, by decide +kernel, by decide, by decide, by decide, by decide, by decide,
    ⟨by unfold badPulse; decide, fun j hj => ?_⟩, carries_write 100 (.inr rfl), rfl, rfl, by decide, fun a' b' x' y' h _ _ _ => by omega⟩
  have : j = 0 := by omega
  subst this; unfold badPulse; decide

/-- `staged` with the hold CLOSED again and P5 DEFINED, named by `refs` shots. -/
def defined (refs : Nat) : State := running.setProgram 5 ⟨some strobe, none, refs⟩

theorem witness_ProgramStoreRequests : LinkFree staged ∧ LinkFree (defined 0) ∧ LinkFree (defined 1) ∧
    (5 : Byte).toNat = (5 : ProgramId).val ∧ staged.updateHold = .opened ∧ (defined 0).updateHold = .closed ∧
    (defined 1).programs[(5 : ProgramId)].refCount ≠ 0 ∧ (defined 0).programs[(5 : ProgramId)].refCount = 0 ∧
    31 < (32 : Byte).toNat ∧ 1 < (2 : Byte).toNat ∧ staged.programs[(5 : ProgramId)].staged = some strobe ∧
    staged.programs[(4 : ProgramId)].staged = none := by decide +kernel

/-- Shot 5 at its fire attempt, its program P3 with a pulse on TRG1; CAM1 and SAFE0 as given; `n` run slots BUSY. -/
def attempt (n : Nat) (camera : Camera) (hold : Bool) : State :=
  { (((lineAt 802 1002 .armed).setProgram 3 ⟨some ⟨[⟨1, 2, 3, false⟩], 10⟩, none, 0⟩).setCamera 1 camera).setSafe 0
      ⟨.rise, 2, 0, hold, .low⟩ with
    runs := Vector.ofFn (fun k => if k.val < n then some (running5 4 0) else none) }
def camera (settle queue minInterval elapsed : Nat) : Camera :=
  ⟨⟨.rise, true, 50, minInterval⟩, 0, settle, some 0, elapsed, List.replicate queue ⟨9, 1, 51⟩, .low⟩

theorem witness_FireAttempt : (attempt 0 (camera 0 0 0 0) false).slots[(5 : Handle)].shot = some (waiting 1 1002 3) ∧
    (attempt 0 (camera 0 0 0 0) false).programs[(3 : ProgramId)].active = some ⟨[⟨1, 2, 3, false⟩], 10⟩ ∧
    ((attempt 0 (camera 0 0 0 0) true).safes[(0 : SafeId)].hold = true ∧
      (attempt 0 (camera 0 0 0 0) true).safes[(0 : SafeId)].group.getLsbD (1 : OutputId).val = true) ∧
    (∀ n : SafeId, (attempt 0 (camera 0 0 0 0) false).safes[n].hold = false) ∧
    (∀ k : RunSlotId, (attempt 6 (camera 0 0 0 0) false).runs[k] ≠ none) ∧
    ((attempt 5 (camera 0 0 0 0) false).runs[(5 : RunSlotId)] = none ∧
      ∀ j : RunSlotId, j.val < 5 → (attempt 5 (camera 0 0 0 0) false).runs[j] ≠ none) ∧
    ((attempt 0 (camera 1 0 0 0) false).cameras[(1 : CameraId)].settle ≠ 0) ∧
    (1 ≤ 8 - (attempt 0 (camera 0 7 0 0) false).cameras[(1 : CameraId)].queue.length - (attempt 0 (camera 0 7 0 0) false).reservedOn 1) ∧
    ¬ (1 ≤ 8 - (attempt 0 (camera 0 8 0 0) false).cameras[(1 : CameraId)].queue.length - (attempt 0 (camera 0 8 0 0) false).reservedOn 1) ∧
    ((attempt 0 (camera 0 0 12 10) false).cameras[(1 : CameraId)].settings.minInterval ≤ 10 + 2) ∧
    ¬ ((attempt 0 (camera 0 0 13 10) false).cameras[(1 : CameraId)].settings.minInterval ≤ 10 + 2) := by decide +kernel

/-- Two runs on TRG1: shot 5 in RS2 about to start, shot 9 in RS0 holding it. -/
def colliding : State := (inFlight 4 0).setRun 0 (some { running5 6 2 with handle := 9 })

theorem witness_PulseStart : (colliding.runs[(2 : RunSlotId)] = some (running5 4 0)) ∧ colliding.outputs[(1 : OutputId)].mode = .pulseMode ∧
    (colliding.holders 1).filter (fun j => j ≠ 2) = [0] ∧ ((inFlight 4 0).holders 1).filter (fun j => j ≠ 2) = [] ∧
    (running5 4 0).reserved[(1 : CameraId)] ≠ 0 ∧ (running5 4 2).reserved[(1 : CameraId)] = 0 ∧
    (colliding.setOutput 1 ⟨.activeHigh, .staticMode, .inactive, false⟩).outputs[(1 : OutputId)].mode = .staticMode ∧
    (colliding.slots[(5 : Handle)].shot).isSome = true ∧ colliding.slots[(0 : Handle)].shot = none := by decide +kernel

/-- Two bursts with no gap: at half tick 10 the first ends and its pulse on STB0, which touches the burst's end, starts anew. -/
def bursts (position index : Nat) : Run := { running5 position 16 with
  pulses := [⟨4, 0, 5, false⟩], burstCount := 2, burstIndex := index }

theorem running_idle : running.runs[(0 : RunSlotId)] = none := by decide +kernel

def checkpoint25 : Fin 1 := ⟨0, by decide +kernel⟩

theorem witness_RunEvents : (∀ r, running.runs[(0 : RunSlotId)] = some r → r.eventDone = true) ∧
    (inFlight 4 0).runs[(2 : RunSlotId)] = some (running5 4 0) ∧ (running5 4 0).eventDone = false ∧
    (running5 3 0).pulses.zipIdx.filter (fun x => (running5 3 0).position = 0 + x.1.begins) = [] ∧
    (running5 4 0).pulses.zipIdx.filter (fun x => (running5 4 0).position = 0 + x.1.begins) = [(⟨1, 2, 3, false⟩, 0)] ∧
    (running5 4 0).position ≠ 10 ∧
    ((running5 10 2).position = (1 - 1) * 10 + (running5 10 2).programEnd ∧ (running5 10 2).eventDone = false ∧
      (inFlight 10 2).runs[(2 : RunSlotId)] = some (running5 10 2)) ∧
    ((bursts 10 0).position = 0 * 10 + (bursts 10 0).programEnd ∧ (bursts 10 0).burstIndex + 1 < (bursts 10 0).burstCount ∧
      (bursts 10 0).position ≠ ((bursts 10 0).burstCount - 1) * 10 + (bursts 10 0).programEnd ∧
      (bursts 10 0).pulses.zipIdx.filter (fun x => (bursts 10 0).position = 1 * 10 + x.1.begins) = [(⟨4, 0, 5, false⟩, 0)]) :=
  ⟨fun r h => (by rw [running_idle] at h; cases h), by decide +kernel, by decide +kernel, by decide +kernel, by decide +kernel, by decide +kernel,
    by decide +kernel, by decide +kernel⟩

/-- Log entry 12: at the run length PULSE_END completes the run too. -/
theorem test_pulseEnd_completes : exec (.pulseEnd 2) (inFlight 10 2) = exec (.runCompletion 2) (inFlight 10 2) ∧
    (after (exec (.pulseEnd 2) (inFlight 10 2))).runs[(2 : RunSlotId)] = none := ⟨rfl, by decide +kernel⟩

theorem witness_RunsCompleteOrAbort : (inFlight 10 2).runs[(2 : RunSlotId)] = some (running5 10 2) ∧
    ((inFlight 10 2).slots[(running5 10 2).handle].shot).map Shot.outstanding = some 0 ∧
    (running5 10 2).position = ((running5 10 2).burstCount - 1) * ((running5 10 2).programEnd + 2 * (running5 10 2).burstGap)
      + (running5 10 2).programEnd ∧ (running5 10 2).eventDone = false ∧ (running5 9 2).position ≠ 10 ∧
    (((after (exec (.pulseStart 2) (inFlight 4 0))).slots[(5 : Handle)].shot).map Shot.outstanding = some 1) ∧
    (running5 10 2).pulses.any (fun x => (2 : BitVec 12).getLsbD x.output.val) = true := by decide +kernel

def checkpoint26 : Fin 1 := ⟨0, by decide +kernel⟩

/-! ### Outputs, cameras, safe-stop inputs -/

theorem witness_Pins : State.reset.phase = .coldReset ∧ running.phase ≠ .coldReset ∧ running.outputs[(11 : OutputId)].polarity = .activeHigh ∧
    (running.setOutput 11 ⟨.activeLow, .pulseMode, .inactive, false⟩).outputs[(11 : OutputId)].polarity = .activeLow := by decide +kernel

/-- Output 11 in a mode, with the protect flag as given. -/
def output11 (m : OutputMode) (protect : Bool) : State := running.setOutput 11 ⟨.activeLow, m, .inactive, protect⟩

theorem witness_OutputSetAndDrive : (∀ m ∈ [OutputMode.pulseMode, .staticMode], ∀ b ∈ [false, true], LinkFree (output11 m b) ∧
      (output11 m b).outputs[(11 : OutputId)].mode = m ∧ (output11 m b).outputs[(11 : OutputId)].protect = b) ∧
    (11 : Byte).toNat = (11 : OutputId).val ∧ (1 : Byte) = Polarity.activeLow.code ∧ (1 : Byte) = OutputMode.staticMode.code ∧
    (0 : Byte) = OutputMode.pulseMode.code ∧ (1 : Byte) = DriveLevel.active.code ∧ 11 < (12 : Byte).toNat ∧ 1 < (2 : Byte).toNat ∧
    (output11 .staticMode false).outputHeld 11 = false ∧
    (LinkFree ((output11 .staticMode false).setSafe 0 ⟨.rise, 2048, 0, true, .low⟩) ∧
      ((output11 .staticMode false).setSafe 0 ⟨.rise, 2048, 0, true, .low⟩).outputHeld 11 = true) := by decide +kernel

theorem witness_OutputProtectAndRead : LinkFree running ∧ ([1, 0xFF, 0x0F] : List Byte).length = 3 ∧ u8 [1, 0xFF, 0x0F] 0 ≤ 1 ∧
    u16 [1, 0xFF, 0x0F] 1 = 4095 ∧ 1 < u8 [2, 0, 0] 0 ∧ 4096 ≤ u16 [1, 0, 0x10] 1 := by decide +kernel

/-- A CAMERA_SET payload for CAM3: window and interval 16,777,216. -/
def cameraPayload (c edge confirm window0 window3 interval0 : Byte) : List Byte := [c, edge, confirm, window0, 0, 0, window3, interval0, 0, 0, 1]

theorem witness_CameraRequests : LinkFree running ∧ (cameraPayload 3 1 1 0 1 0).length = 11 ∧
    u8 (cameraPayload 3 1 1 0 1 0) 0 = (3 : CameraId).val ∧ u8 (cameraPayload 3 1 1 0 1 0) 1 = FrameEdge.rise.code.toNat ∧
    u8 (cameraPayload 3 1 1 0 1 0) 2 = 1 ∧ u32 (cameraPayload 3 1 1 0 1 0) 3 = 16777216 ∧ u32 (cameraPayload 3 1 1 0 1 0) 7 = 16777216 ∧
    (running.cameras[(3 : CameraId)].queue = [] ∧ ∀ k : RunSlotId, running.runs[k] = none) ∧
    (LinkFree (inFlight 4 0) ∧ (inFlight 4 0).runs[(2 : RunSlotId)] = some (running5 4 0) ∧ (running5 4 0).reserved[(1 : CameraId)] ≠ 0) ∧
    (LinkFree (awaiting 0) ∧ (awaiting 0).cameras[(1 : CameraId)].queue ≠ []) ∧
    (3 : Byte).toNat = (3 : CameraId).val ∧ (15 : Byte).toNat ≤ 15 ∧ 15 < (16 : Byte).toNat ∧ 3 < (4 : Byte).toNat ∧
    3 < u8 (cameraPayload 4 1 1 0 1 0) 0 ∧ 2 < u8 (cameraPayload 3 3 1 0 1 0) 1 ∧ 1 < u8 (cameraPayload 3 1 2 0 1 0) 2 ∧
    u32 (cameraPayload 3 1 1 0 0 0) 3 = 0 ∧ 16777216 < u32 (cameraPayload 3 1 1 1 1 0) 3 ∧ 16777216 < u32 (cameraPayload 3 1 1 0 1 1) 7 ∧
    (u8 (cameraPayload 3 0 1 0 1 0) 2 = 1 ∧ u8 (cameraPayload 3 0 1 0 1 0) 1 = 0) := by decide +kernel

/-- CAM1 of `awaiting` with other settings, settle count, queue. -/
def cam1 (edge : FrameEdge) (confirm : Bool) (settle : Nat) (queue : List Expectation) : State :=
  (awaiting 120).setCamera 1 ⟨⟨edge, confirm, 50, 0⟩, 0, settle, none, 0, queue, .low⟩

theorem witness_Expectations : (cam1 .rise true 0 [⟨5, 102, 152⟩]).phase = .running ∧ (cam1 .rise true 0 []).cameras[(1 : CameraId)].fs = .low ∧
    (cam1 .fall true 0 []).cameras[(1 : CameraId)].settings.edge ≠ .rise ∧ 0 < (cam1 .rise true 1 []).cameras[(1 : CameraId)].settle ∧
    (cam1 .rise false 0 []).cameras[(1 : CameraId)].settings.confirm = false ∧
    (cam1 .rise true 0 []).cameras[(1 : CameraId)].queue = [] ∧ (cam1 .rise true 0 []).cameras[(1 : CameraId)].settle = 0 ∧
    (cam1 .rise true 0 [⟨5, 102, 152⟩]).cameras[(1 : CameraId)].queue = ⟨5, 102, 152⟩ :: [] ∧
    ((cam1 .rise true 0 [⟨5, 102, 152⟩]).slots[(5 : Handle)].shot).map (fun x => (x.phase, x.outstanding)) = some (.awaiting, 1) ∧
    ((inFlight 6 2).slots[(5 : Handle)].shot).map Shot.phase = some .firing ∧
    ((starting 0 none).phase ≠ .running ∧ (starting 0 none).cameras[(1 : CameraId)].fs = .low) ∧
    (((152 : Timestamp) - 102).toNat ≤ ((awaiting 152).timestamp - 102).toNat) ∧
    ¬ (((152 : Timestamp) - 102).toNat ≤ ((awaiting 151).timestamp - 102).toNat) := by decide +kernel

/-- SAFE0 with a detection, hold and pin. -/
def safe0 (d : Detection) (hold : Bool) (pin : Level) : State := { (guarded hold d).setSafe 0 ⟨d, 2, 2, hold, pin⟩ with unlock := true }

theorem witness_SafePinChange :
    (∀ x ∈ [(Detection.rise, Level.low), (.fall, .high), (.both, .low), (.low, .high), (.high, .low)],
      (safe0 x.1 false x.2).safes[(0 : SafeId)].detection = x.1 ∧ (safe0 x.1 false x.2).safes[(0 : SafeId)].pin = x.2 ∧
      (safe0 x.1 false x.2).safes[(0 : SafeId)].hold = false ∧ (safe0 x.1 false x.2).phase ≠ .coldReset) ∧
    (safe0 .ignore false .low).safes[(0 : SafeId)].detection = .ignore ∧ (safe0 .rise true .low).safes[(0 : SafeId)].hold = true ∧
    (State.reset.phase = .coldReset ∧ State.reset.safes[(0 : SafeId)].pin = .low) := by decide +kernel

/-- A SAFE_SET payload for SAFE0. -/
def safePayload (n d g0 g1 b : Byte) : List Byte := [n, d, g0, g1, b]

theorem witness_SafeRequests : LinkFree running ∧ running.unlock = false ∧ (safePayload 0 4 0xFF 0x0F 0x0F).length = 5 ∧
    LinkFree (safe0 .rise false .low) ∧ (safe0 .rise false .low).unlock = true ∧
    1 < u8 (safePayload 2 4 0 0 0) 0 ∧ 5 < u8 (safePayload 0 6 0 0 0) 1 ∧ 4096 ≤ u16 (safePayload 0 4 0 0x10 0) 2 ∧
    16 ≤ u8 (safePayload 0 4 0 0 16) 4 ∧ u8 (safePayload 0 4 0xFF 0x0F 0x0F) 0 = (0 : SafeId).val ∧
    u8 (safePayload 0 4 0xFF 0x0F 0x0F) 1 = Detection.low.code.toNat ∧ u16 (safePayload 0 4 0xFF 0x0F 0x0F) 2 = (0xFFF : BitVec 12).toNat ∧
    u8 (safePayload 0 4 0xFF 0x0F 0x0F) 4 = (0xF : BitVec 4).toNat ∧
    ((safe0 .rise false .low).safes[(0 : SafeId)].hold = false ∧ (safe0 .rise false .low).safes[(0 : SafeId)].pin = .low) ∧
    (safe0 .rise false .high).safes[(0 : SafeId)].pin = .high ∧ (safe0 .rise true .low).safes[(0 : SafeId)].hold = true ∧
    LinkFree (safe0 .low true .low) ∧ (0 : Byte).toNat = (0 : SafeId).val ∧ (safe0 .low true .low).safes[(0 : SafeId)].detection = .low ∧
    1 < (2 : Byte).toNat := by decide +kernel

def checkpoint27 : Fin 1 := ⟨0, by decide +kernel⟩

/-! ### What every step keeps: a state with a queue, and a step it takes -/

/-- The line of section 2.7 with a CANCEL of shot 5 waiting for its step. -/
def kept : State := { line 64 with pending := [.cancel 1 [5, 2]] }

theorem kept_steps : ∃ t, step kept = .next t := ⟨after (step kept), by
  have e : step kept = exec (.cancel 1 [5, 2]) { kept with pending := [] } := rfl
  rw [e]
  simp only [exec, execCancel]
  rw [arrive_free _ _ _ (by decide +kernel)]
  rfl⟩

theorem kept_pool : kept.poolSound := poolSound_of_check _ (by decide +kernel)

theorem noRuns_kept : ∀ k : RunSlotId, kept.runs[k] = none := by decide +kernel

theorem witness_StepKeepsCapacities : kept.withinCapacity ∧ kept.storeSound ∧ ∃ t, step kept = .next t := by
  refine ⟨by unfold State.withinCapacity; decide +kernel, ⟨fun _ => by decide +kernel, fun i v h => ?_⟩, kept_steps⟩
  have hv : ∀ i : ProgramId, (kept.programs[i].active = none ∨ kept.programs[i].active = some strobe) ∧ kept.programs[i].staged = none := by
    decide +kernel
  have : v = strobe := by
    rcases h with h | h
    · rcases (hv i).1 with e | e
      · rw [e] at h; cases h
      · rw [e] at h; cases h; rfl
    · rw [(hv i).2] at h; cases h
  subst this; unfold Version.sound; decide

theorem safes_kept : ∀ n : SafeId, kept.safes[n].hold = false := by decide +kernel

theorem kept_holds : kept.holdsStand := fun n hn => by rw [safes_kept n] at hn; cases hn

theorem witness_StepKeepsTheSafeHolds : (safe0 .rise true .low).modesStand ∧ kept.holdsStand ∧ kept.modesStand ∧ ∃ t, step kept = .next t := by
  refine ⟨?_, kept_holds, ?_, kept_steps⟩ <;> (unfold State.modesStand; decide +kernel)

def checkpoint28 : Fin 1 := ⟨0, by decide +kernel⟩

/-- The run of shot 5 since timestamp 100, in the second half of tick 102; CAM1 waits for two frames. -/
def inTime : State :=
  { (inFlight 5 2).setCamera 1 { running.cameras[1] with
      settings := ⟨.rise, true, 50, 0⟩, queue := [⟨9, 101, 151⟩, ⟨5, 102, 152⟩] } with
    timestamp := 102, halfTick := true, pending := [.rxdReturnHigh] }

theorem runs_inTime : ∀ k : RunSlotId, inTime.runs[k] = if k = 2 then some (running5 5 2) else none := by decide +kernel

theorem pacers_inTime : ∀ n : PacerId, inTime.pacers[n] = ⟨20000, none, false, 0, none⟩ := by decide +kernel

theorem inTime_sound : inTime.timesSound := by
  refine ⟨fun k r h => ?_, fun n => ?_, ?_, fun h => by cases h⟩
  · rw [runs_inTime] at h
    split at h
    · cases h; decide
    · cases h
  · rw [pacers_inTime]
    exact ⟨by decide, by rintro m ⟨⟩, by rintro - ⟨⟩⟩
  · unfold State.expectationsInTime; decide +kernel

theorem witness_StepKeepsTheCameraPlaces : kept.placesSound ∧ (inFlight 4 0).placesSound ∧ (∃ t, step kept = .next t) ∧
    inTime.timesSound ∧ ∃ t, step inTime = .next t := by
  refine ⟨?_, ?_, kept_steps, inTime_sound, ⟨_, rfl⟩⟩ <;> (unfold State.placesSound; decide +kernel)

def checkpoint29 : Fin 1 := ⟨0, by decide +kernel⟩

theorem witness_StepKeepsThePool : kept.poolSound ∧ kept.refsSound ∧ ∃ t, step kept = .next t := ⟨kept_pool, refs_line, kept_steps⟩

theorem witness_StepKeepsTheQueuesOrdered : kept.poolSound ∧ kept.queuesOrdered ∧ ∃ t, step kept = .next t := by
  refine ⟨kept_pool, ?_, kept_steps⟩
  unfold State.queuesOrdered LaneSettings.inRange
  decide +kernel

theorem witness_StepKeepsTheExpectations : kept.poolSound ∧ kept.awaitSound ∧ ∃ t, step kept = .next t := by
  have hq : ∀ c : CameraId, kept.cameras[c].queue = [] := by decide +kernel
  have he : ∀ h, kept.expectationsOf h = 0 := by intro h; simp only [State.expectationsOf, hq]; rfl
  have hs : ∀ (h : Handle) (sh : Shot), kept.slots[h].shot = some sh → sh.outstanding = 0 ∧ sh.phase = .queued := by
    intro h sh e
    have e : (line 64).slots[h].shot = some sh := e
    rw [slots_line] at e
    by_cases h5 : h = 5
    · rw [if_pos h5] at e; cases e; decide
    · rw [if_neg h5] at e
      by_cases h9 : h = 9
      · rw [if_pos h9] at e; cases e; decide
      · rw [if_neg h9] at e; cases e
  refine ⟨kept_pool, fun h => ⟨fun sh e => by rw [he]; exact (hs h sh e).1, fun sh e hp => ?_, fun _ => he h⟩, kept_steps⟩
  rw [(hs h sh e).2] at hp; cases hp

end Sys2Proof.Tests
end

/-! SUPPORT. PACER_RUN and PACER_READ (R16, R17): what the run command does to one pacer, what each rule answers, and the two
requests taken on a free link. -/

namespace Sys2Proof.Machine

/-! ### Pacers -/

/-- RUN in STOP begins an interval now (R16). -/
theorem Pacer.command_run_of_stopped {x : Pacer} (h : x.running = false) (now : Timestamp) :
    x.command true now = { x with running := true, intervalStart := some now } := by
  simp [Pacer.command, h]

/-- STOP in RUN drops the elapsed part and promotes a pending interval (R16). -/
theorem Pacer.command_stop_of_running {x : Pacer} (h : x.running = true) (now : Timestamp) :
    x.command false now = ⟨x.pendingInterval.getD x.interval, none, false, x.position, none⟩ := by
  simp [Pacer.command, Pacer.stopped, h]

/-- The command that the run state already follows is without effect (R16). -/
theorem Pacer.command_repeated {x : Pacer} {run : Bool} (h : x.running = run) (now : Timestamp) : x.command run now = x := by
  subst h
  cases h : x.running <;> simp [Pacer.command, h]

/-- The elapsed count is the ahead-distance from the interval start, and 0 where there is none (R17). -/
theorem Pacer.elapsed_of_start {x : Pacer} {t0 : Timestamp} (h : x.intervalStart = some t0) (now : Timestamp) :
    x.elapsed now = (now - t0).toNat := by
  simp [Pacer.elapsed, ahead, h]

theorem Pacer.elapsed_of_no_start {x : Pacer} (h : x.intervalStart = none) (now : Timestamp) : x.elapsed now = 0 := by
  simp [Pacer.elapsed, h]

/-- Writing back the pacer that stands there. -/
theorem State.setPacer_self (s : State) (n : PacerId) : s.setPacer n s.pacers[n] = s := by
  simp [State.setPacer]

/-- A byte above 1 is no value of a two-valued field. -/
theorem bitOfCode_none {k : Nat} (h : 1 < k) : bitOfCode k = none := by
  match k, h with
  | _ + 2, _ => rfl

/-! ### The rules of the two requests -/

/-- R16 with a pacer number and a command that exist. -/
theorem pacerRun_command {p : List Byte} {n : PacerId} {run : Bool} (hn : u8 p 0 = n.val) (hrun : bitOfCode (u8 p 1) = some run)
    (s : State) : pacerRun p s = ⟨s.setPacer n (s.pacers[n].command run s.timestamp), [0, 0]⟩ := by
  simp only [pacerRun, index?_eq n hn, hrun, okReply]

/-- R16's one refusal. -/
theorem pacerRun_badField {p : List Byte} (h : 1 < u8 p 0 ∨ 1 < u8 p 1) (s : State) : pacerRun p s = ⟨s, [1, 1]⟩ := by
  rcases h with hpacer | hcommand
  · simp only [pacerRun, index?_none (k := 2) hpacer]; rfl
  · simp only [pacerRun, bitOfCode_none hcommand]; cases index? 2 (u8 p 0) <;> rfl

/-- R17 with a pacer number that exists. -/
theorem pacerRead_bytes {p : List Byte} {n : PacerId} (hn : u8 p 0 = n.val) (s : State) :
    pacerRead p s = ⟨s, 0 :: 0 :: s.pacers[n].bytes s.timestamp⟩ := by
  simp only [pacerRead, index?_eq n hn, okReply]

/-- R17's one refusal. -/
theorem pacerRead_badField {p : List Byte} (h : 1 < u8 p 0) (s : State) : pacerRead p s = ⟨s, 1 :: 1 :: zeros 18⟩ := by
  simp only [pacerRead, index?_none (k := 2) h]; rfl

/-! ### The requests on a free link -/

/-- PACER_RUN gives the command to the pacer and replies OK. -/
theorem exec_pacerRun_command {a b : Byte} {n : PacerId} {run : Bool} {s : State} (hfree : LinkFree s) (hn : a.toNat = n.val)
    (hrun : bitOfCode b.toNat = some run) (tag : Byte) : exec (.pacerRun tag [a, b]) s =
      .next (replied (s.setPacer n (s.pacers[n].command run s.timestamp)) 0x8B tag [0, 0]) :=
  arrive_answer hfree rfl rfl (pacerRun_command (p := [a, b]) hn hrun s.closeUnlock)

theorem exec_pacerRun_badField {a b : Byte} {s : State} (hfree : LinkFree s) (h : 1 < a.toNat ∨ 1 < b.toNat) (tag : Byte) :
    exec (.pacerRun tag [a, b]) s = .next (replied s 0x8B tag [1, 1]) :=
  arrive_answer hfree rfl rfl (pacerRun_badField (p := [a, b]) h s.closeUnlock)

/-- A command that repeats the run state leaves the whole machine but the reply as it was. -/
theorem exec_pacerRun_repeated {a b : Byte} {n : PacerId} {run : Bool} {s : State} (hfree : LinkFree s) (hn : a.toNat = n.val)
    (hrun : bitOfCode b.toNat = some run) (hsame : s.pacers[n].running = run) (tag : Byte) :
    exec (.pacerRun tag [a, b]) s = .next (replied s 0x8B tag [0, 0]) := by
  rw [exec_pacerRun_command hfree hn hrun, Pacer.command_repeated hsame, State.setPacer_self]

/-- PACER_READ replies with the pacer's bytes and leaves the pacer as it was. -/
theorem exec_pacerRead_bytes {a : Byte} {n : PacerId} {s : State} (hfree : LinkFree s) (hn : a.toNat = n.val) (tag : Byte) :
    exec (.pacerRead tag [a]) s = .next (replied s 0x8C tag (0 :: 0 :: s.pacers[n].bytes s.timestamp)) :=
  arrive_answer hfree rfl rfl (pacerRead_bytes (p := [a]) hn s.closeUnlock)

theorem exec_pacerRead_badField {a : Byte} {s : State} (hfree : LinkFree s) (h : 1 < a.toNat) (tag : Byte) :
    exec (.pacerRead tag [a]) s = .next (replied s 0x8C tag (1 :: 1 :: zeros 18)) :=
  arrive_answer hfree rfl rfl (pacerRead_badField (p := [a]) h s.closeUnlock)

/-- Settles O28: PACER_RUN by the three effects of a run command on a pacer, PACER_READ by the bytes of the pacer, where the
elapsed count follows the presence of an interval start. -/
theorem pacerRunAndRead : Obligations.PacerRunAndRead := by
  refine ⟨fun tag a b s hfree => ⟨fun n hn => ⟨?run, ?stop, ?repeated⟩, fun h => exec_pacerRun_badField hfree h tag⟩,
    fun tag a s hfree => ⟨fun n hn => ?read, fun h => exec_pacerRead_badField hfree h tag⟩⟩
  case run =>
    rintro rfl hstopped
    rw [exec_pacerRun_command (run := true) hfree hn rfl, Pacer.command_run_of_stopped hstopped]
    rfl
  case stop =>
    rintro rfl hrunning
    rw [exec_pacerRun_command (run := false) hfree hn rfl, Pacer.command_stop_of_running hrunning]
    rfl
  case repeated =>
    rintro (⟨rfl, hrunning⟩ | ⟨rfl, hstopped⟩)
    · exact exec_pacerRun_repeated hfree hn rfl hrunning tag
    · exact exec_pacerRun_repeated hfree hn rfl hstopped tag
  case read =>
    dsimp only
    rw [exec_pacerRead_bytes hfree hn, Pacer.bytes]
    cases hstart : s.pacers[n].intervalStart with
    | none => rw [Pacer.elapsed_of_no_start hstart]; rfl
    | some t0 => rw [Pacer.elapsed_of_start hstart]; rfl

end Sys2Proof.Machine

/-! SUPPORT. LANE_SET and LANE_READ (R19, R31): which payloads carry settings, what each rule answers, and the two requests taken
on a free link. -/

namespace Sys2Proof.Machine

/-! ### The settings of a LANE_SET payload (Table 11-6) -/

theorem Source.le_of_ofCode {k : Nat} {x : Source} (h : Source.ofCode k = some x) : k ≤ 3 := by
  match k, h with
  | 0, _ | 1, _ | 2, _ | 3, _ => decide
  | _ + 4, h => nomatch h

theorem Direction.le_of_ofCode {k : Nat} {x : Direction} (h : Direction.ofCode k = some x) : k ≤ 1 := by
  match k, h with
  | 0, _ | 1, _ => decide
  | _ + 2, h => nomatch h

/-- The spans of Table 2-1 that the lead, horizon, spacing and quota of a payload keep to. The offset and the reverse limit take
every value of their fields. -/
def laneSpansInRange (p : List Byte) : Prop :=
  1 ≤ u16 p 7 ∧ u16 p 7 ≤ u32 p 9 ∧ u32 p 9 ≤ 16777216 ∧ 1 ≤ u16 p 13 ∧ 1 ≤ u16 p 15 ∧ u16 p 15 ≤ 256

theorem laneSettingsAt_of_inRange {p : List Byte} {src : Source} {dir : Direction} (hsrc : Source.ofCode (u8 p 1) = some src)
    (hdir : Direction.ofCode (u8 p 2) = some dir) (hspans : laneSpansInRange p) :
    laneSettingsAt p = some ⟨src, dir, w32 p 3, u16 p 7, u32 p 9, u16 p 13, u16 p 15, u16 p 17⟩ := by
  simp only [laneSettingsAt, hsrc, hdir]
  exact if_pos hspans

/-- A code of no source or direction, or a span out of range, and the payload carries no settings. -/
theorem laneSettingsAt_none {p : List Byte} (h : 3 < u8 p 1 ∨ 1 < u8 p 2 ∨ ¬ laneSpansInRange p) : laneSettingsAt p = none := by
  unfold laneSettingsAt
  split
  next src dir hsrc hdir =>
    have hsrc := Source.le_of_ofCode hsrc
    have hdir := Direction.le_of_ofCode hdir
    have hspans : ¬ laneSpansInRange p := (h.resolve_left hsrc.not_gt).resolve_left hdir.not_gt
    exact if_neg hspans
  next => rfl

/-! ### The rules of the two requests -/

/-- R19 accepted: the settings are replaced, and nothing else. -/
theorem laneSet_off {p : List Byte} {l : LaneId} {c : LaneSettings} {s : State} (hl : u8 p 0 = l.val)
    (hc : laneSettingsAt p = some c) (hoff : s.lanes[l].state = .off) :
    laneSet p s = ⟨s.setLane l { s.lanes[l] with settings := c }, [0, 0]⟩ := by
  simp only [laneSet, index?_eq l hl, hc, if_pos hoff, okReply]

/-- R19 check 2. -/
theorem laneSet_badState {p : List Byte} {l : LaneId} {c : LaneSettings} {s : State} (hl : u8 p 0 = l.val)
    (hc : laneSettingsAt p = some c) (hstate : s.lanes[l].state ≠ .off) : laneSet p s = ⟨s, [1, 2]⟩ := by
  simp only [laneSet, index?_eq l hl, hc, if_neg hstate]; rfl

/-- R19 check 1. -/
theorem laneSet_badField {p : List Byte} (h : 3 < u8 p 0 ∨ laneSettingsAt p = none) (s : State) :
    laneSet p s = ⟨s, [1, 1]⟩ := by
  rcases h with hlane | hsettings
  · simp only [laneSet, index?_none (k := 4) hlane]; rfl
  · simp only [laneSet, hsettings]; cases index? 4 (u8 p 0) <;> rfl

/-- An empty queue has no head to show. -/
theorem State.headBytes_of_empty {s : State} {l : LaneId} (h : s.lanes[l].queue = []) : s.headBytes l = zeros 7 := by
  simp only [State.headBytes, h]

/-- The head of a queue shows its handle, generation and trigger. -/
theorem State.headBytes_of_head {s : State} {l : LaneId} {h : Handle} {rest : List Handle} {sh : Shot}
    (hqueue : s.lanes[l].queue = h :: rest) (hshot : s.slots[h].shot = some sh) :
    s.headBytes l = [1, BitVec.ofNat 8 h.val, s.slots[h].generation] ++ le4 sh.trigger.toNat := by
  simp only [State.headBytes, Slot.trigger, hqueue, hshot]; rfl

/-- What LANE_READ shows of a lane before the head (R31): settings, state, lane position, mark and queue length. -/
def State.laneBytes (s : State) (l : LaneId) : List Byte :=
  s.lanes[l].settings.bytes ++ [s.lanes[l].state.code] ++ le32 (s.lanePosition l) ++ le32 s.lanes[l].mark
    ++ le2 s.lanes[l].queue.length

/-- R31 with a lane number that exists. -/
theorem laneRead_bytes {p : List Byte} {l : LaneId} (hl : u8 p 0 = l.val) (s : State) :
    laneRead p s = ⟨s, 0 :: 0 :: (s.laneBytes l ++ s.headBytes l)⟩ := by
  simp only [laneRead, index?_eq l hl, okReply, State.laneBytes]

/-- R31's one refusal. -/
theorem laneRead_badField {p : List Byte} (h : 3 < u8 p 0) (s : State) : laneRead p s = ⟨s, 1 :: 1 :: zeros 36⟩ := by
  simp only [laneRead, index?_none (k := 4) h]; rfl

/-! ### The requests on a free link -/

/-- LANE_SET replaces the settings of an OFF lane and replies OK. -/
theorem exec_laneSet_off {p : List Byte} {l : LaneId} {c : LaneSettings} {s : State} (hfree : LinkFree s) (hlen : p.length = 19)
    (hl : u8 p 0 = l.val) (hc : laneSettingsAt p = some c) (hoff : s.lanes[l].state = .off) (tag : Byte) :
    exec (.laneSet tag p) s = .next (replied (s.setLane l { s.lanes[l] with settings := c }) 0x90 tag [0, 0]) :=
  arrive_answer hfree (beq_iff_eq.mpr hlen) rfl (laneSet_off (s := s.closeUnlock) hl hc hoff)

theorem exec_laneSet_badState {p : List Byte} {l : LaneId} {c : LaneSettings} {s : State} (hfree : LinkFree s)
    (hlen : p.length = 19) (hl : u8 p 0 = l.val) (hc : laneSettingsAt p = some c) (hstate : s.lanes[l].state ≠ .off) (tag : Byte) :
    exec (.laneSet tag p) s = .next (replied s 0x90 tag [1, 2]) :=
  arrive_answer hfree (beq_iff_eq.mpr hlen) rfl (laneSet_badState (s := s.closeUnlock) hl hc hstate)

theorem exec_laneSet_badField {p : List Byte} {s : State} (hfree : LinkFree s) (hlen : p.length = 19)
    (h : 3 < u8 p 0 ∨ laneSettingsAt p = none) (tag : Byte) :
    exec (.laneSet tag p) s = .next (replied s 0x90 tag [1, 1]) :=
  arrive_answer hfree (beq_iff_eq.mpr hlen) rfl (laneSet_badField h s.closeUnlock)

/-- LANE_READ replies with the bytes of the lane and of its head, and leaves the lane as it was. -/
theorem exec_laneRead_bytes {b : Byte} {l : LaneId} {s : State} (hfree : LinkFree s) (hl : b.toNat = l.val) (tag : Byte) :
    exec (.laneRead tag [b]) s = .next (replied s 0x95 tag (0 :: 0 :: (s.laneBytes l ++ s.headBytes l))) :=
  arrive_answer hfree rfl rfl (laneRead_bytes (p := [b]) hl s.closeUnlock)

theorem exec_laneRead_badField {b : Byte} {s : State} (hfree : LinkFree s) (h : 3 < b.toNat) (tag : Byte) :
    exec (.laneRead tag [b]) s = .next (replied s 0x95 tag (1 :: 1 :: zeros 36)) :=
  arrive_answer hfree rfl rfl (laneRead_badField (p := [b]) h s.closeUnlock)

/-- Settles O30: LANE_SET by whether the payload carries settings and the lane is OFF, LANE_READ by the bytes of the lane followed
by those of its head, if there is one. -/
theorem laneSettingsAreWrittenAndRead : Obligations.LaneSettingsAreWrittenAndRead := by
  refine ⟨fun tag p s hfree hlen => ⟨?inRange, fun h => ?outOfRange⟩,
    fun tag b s hfree => ⟨fun l hl => ⟨fun hempty => ?empty, fun h rest sh hqueue hshot => ?head⟩,
      fun h => exec_laneRead_badField hfree h tag⟩⟩
  case inRange =>
    intro l src dir hl hsrc hdir hlead hhorizon hspan hspacing hquota hquotaMax
    have hc := laneSettingsAt_of_inRange hsrc hdir ⟨hlead, hhorizon, hspan, hspacing, hquota, hquotaMax⟩
    exact ⟨fun hoff => exec_laneSet_off hfree hlen hl hc hoff tag, fun hstate => exec_laneSet_badState hfree hlen hl hc hstate tag⟩
  case outOfRange =>
    have hsplit : 3 < u8 p 0 ∨ 3 < u8 p 1 ∨ 1 < u8 p 2 ∨ ¬ laneSpansInRange p := by
      unfold laneSpansInRange; omega
    exact exec_laneSet_badField hfree hlen (hsplit.imp_right laneSettingsAt_none) tag
  case empty =>
    rw [exec_laneRead_bytes hfree hl, State.headBytes_of_empty hempty]; rfl
  case head =>
    rw [exec_laneRead_bytes hfree hl, State.headBytes_of_head hqueue hshot, State.laneBytes]; rfl

end Sys2Proof.Machine

/-! SUPPORT. The admission of an entry (R41 to R44): what each of the seven checks looks at, and the answer once the checks before
it have passed. -/

namespace Sys2Proof.Machine

/-! ### What each check looks at -/

/-- Check 2: a DEFINED program is the one its number names. -/
theorem State.definedProgram_eq_some {s : State} {n : Nat} {i : ProgramId} (hn : n = i.val)
    (hactive : (s.programs[i].active).isSome = true) : s.definedProgram n = some i := by
  simp only [State.definedProgram, index?_eq i hn, hactive, if_true]

theorem State.definedProgram_eq_none {s : State} {n : Nat}
    (h : ∀ i : ProgramId, ¬ (n = i.val ∧ (s.programs[i].active).isSome = true)) : s.definedProgram n = none := by
  rcases Nat.lt_or_ge n 32 with hlt | hge
  · have hempty : ¬ (s.programs[(⟨n, hlt⟩ : ProgramId)].active).isSome = true := fun ha => h ⟨n, hlt⟩ ⟨rfl, ha⟩
    simp only [State.definedProgram, index?_eq ⟨n, hlt⟩ rfl, if_neg hempty]
  · simp only [State.definedProgram, index?_none hge]

/-- Check 3: the ranges of an entry's fields. -/
theorem Entry.badFields_iff (e : Entry) (rel : Bool) : e.badFields rel = true ↔
    (rel = true ∧ e.position = 0) ∨ 1 < e.flags ∨ (e.flags = 1 ∧ (e.burstCount = 0 ∨ 8 < e.burstCount)) := by
  simp [Entry.badFields, or_assoc]

/-- Check 4: an ahead-distance of 0, behind the mark or below the lead is too near. -/
theorem distanceCheck_near {c : LaneSettings} {d : Nat} (h : d = 0 ∨ 2 ^ 31 ≤ d ∨ d < c.lead) :
    distanceCheck c d = some .tooNear := if_pos h

theorem distanceCheck_far {c : LaneSettings} {d : Nat} (hnear : ¬ (d = 0 ∨ 2 ^ 31 ≤ d ∨ d < c.lead)) (hfar : c.horizon < d) :
    distanceCheck c d = some .tooFar := by
  rw [distanceCheck, if_neg hnear, if_pos hfar]

theorem distanceCheck_pass {c : LaneSettings} {d : Nat} (hnear : ¬ (d = 0 ∨ 2 ^ 31 ≤ d ∨ d < c.lead)) (hfar : ¬ c.horizon < d) :
    distanceCheck c d = none := by
  rw [distanceCheck, if_neg hnear, if_neg hfar]

/-- Check 5: some queued shot of the lane is less than the spacing away, on either side. -/
theorem State.tooClose_iff (s : State) (l : LaneId) (d : Nat) : s.tooClose l d = true ↔
    ∃ h ∈ s.lanes[l].queue, s.aheadOf l h < d + s.lanes[l].settings.spacing ∧ d < s.aheadOf l h + s.lanes[l].settings.spacing := by
  have gap (a sp : Nat) : (if a ≤ d then d - a else a - d) < sp ↔ a < d + sp ∧ d < a + sp := by
    split <;> omega
  simp only [State.tooClose, List.any_eq_true, decide_eq_true_eq, gap]

/-- Check 7: the lowest-numbered FREE slot. -/
theorem State.freeSlot_eq_some {s : State} {h : Handle} (hfree : s.slots[h].shot = none)
    (hlower : ∀ j : Handle, j.val < h.val → s.slots[j].shot ≠ none) : s.freeSlot = some h := by
  rw [State.freeSlot, List.find?_eq_some_iff_getElem]
  refine ⟨by rw [hfree]; rfl, h.val, by simp [allHandles], by simp [allHandles], fun j hj => ?_⟩
  have htaken := hlower ⟨j, hj.trans h.isLt⟩ hj
  simpa [allHandles, Option.isSome_iff_ne_none] using htaken

theorem State.freeSlot_eq_none {s : State} (h : ∀ j : Handle, s.slots[j].shot ≠ none) : s.freeSlot = none := by
  rw [State.freeSlot, List.find?_eq_none]
  intro j _
  simpa using h j

/-! ### The answer of each check, where those before it have passed -/

theorem State.checkEntry_badState {s : State} {l : LaneId} (h : s.lanes[l].state = .off) (rel : Bool) (e : Entry)
    (trigger : Position) : s.checkEntry l rel e trigger = .error .badState := if_pos h

section
variable {s : State} {l : LaneId} {rel : Bool} {e : Entry} {trigger : Position} (hstate : s.lanes[l].state ≠ .off)
include hstate

theorem State.checkEntry_noProgram (hnone : s.definedProgram e.program = none) :
    s.checkEntry l rel e trigger = .error .noProgram := by
  simp only [State.checkEntry, if_neg hstate, hnone]

variable {i : ProgramId} (hprogram : s.definedProgram e.program = some i)
include hprogram

theorem State.checkEntry_badField (hbad : e.badFields rel = true) : s.checkEntry l rel e trigger = .error .badField := by
  simp only [State.checkEntry, if_neg hstate, hprogram, if_pos hbad]

variable (hfields : ¬ e.badFields rel = true)
include hfields

theorem State.checkEntry_distance {r : Reason} (hr : distanceCheck s.lanes[l].settings (ahead s.lanes[l].mark trigger) = some r) :
    s.checkEntry l rel e trigger = .error r := by
  simp only [State.checkEntry, if_neg hstate, hprogram, if_neg hfields, hr]

variable (hdistance : distanceCheck s.lanes[l].settings (ahead s.lanes[l].mark trigger) = none)
include hdistance

theorem State.checkEntry_spacing (hclose : s.tooClose l (ahead s.lanes[l].mark trigger) = true) :
    s.checkEntry l rel e trigger = .error .spacing := by
  simp only [State.checkEntry, if_neg hstate, hprogram, if_neg hfields, hdistance, if_pos hclose]

variable (hspacing : ¬ s.tooClose l (ahead s.lanes[l].mark trigger) = true)
include hspacing

theorem State.checkEntry_queueFull (hfull : s.lanes[l].settings.quota ≤ s.lanes[l].queue.length) :
    s.checkEntry l rel e trigger = .error .queueFull := by
  simp only [State.checkEntry, if_neg hstate, hprogram, if_neg hfields, hdistance, if_neg hspacing, if_pos hfull]

variable (hquota : ¬ s.lanes[l].settings.quota ≤ s.lanes[l].queue.length)
include hquota

theorem State.checkEntry_poolFull (hnone : s.freeSlot = none) : s.checkEntry l rel e trigger = .error .poolFull := by
  simp only [State.checkEntry, if_neg hstate, hprogram, if_neg hfields, hdistance, if_neg hspacing, if_neg hquota, hnone]

theorem State.checkEntry_ok {h : Handle} (hfree : s.freeSlot = some h) : s.checkEntry l rel e trigger = .ok (i, h) := by
  simp only [State.checkEntry, if_neg hstate, hprogram, if_neg hfields, hdistance, if_neg hspacing, if_neg hquota, hfree]

end

/-- Settles O35: each check by what it looks at, in the order in which the answers of the checks are given. -/
theorem admissionChecksInOrder : Obligations.AdmissionChecksInOrder := by
  intro l rel e trigger s x d names bad near far close full
  refine ⟨fun hoff => State.checkEntry_badState hoff rel e trigger,
    fun hstate hno => State.checkEntry_noProgram hstate (State.definedProgram_eq_none hno), fun hstate i hi => ?_⟩
  have hprogram : s.definedProgram e.program = some i := State.definedProgram_eq_some hi.1 hi.2
  have hfields : ¬ bad → ¬ e.badFields rel = true := mt (e.badFields_iff rel).mp
  have hspacing : ¬ close → ¬ s.tooClose l d = true := mt (s.tooClose_iff l d).mp
  refine ⟨?badField, ?tooNear, ?tooFar, ?spacing, ?queueFull, ?poolFull, ?admitted⟩
  case badField =>
    exact fun hbad => State.checkEntry_badField hstate hprogram ((e.badFields_iff rel).mpr hbad)
  case tooNear =>
    exact fun hbad hnear => State.checkEntry_distance hstate hprogram (hfields hbad) (distanceCheck_near hnear)
  case tooFar =>
    exact fun hbad hnear hfar => State.checkEntry_distance hstate hprogram (hfields hbad) (distanceCheck_far hnear hfar)
  case spacing =>
    exact fun hbad hnear hfar hclose => State.checkEntry_spacing hstate hprogram (hfields hbad) (distanceCheck_pass hnear hfar)
      ((s.tooClose_iff l d).mpr hclose)
  case queueFull =>
    exact fun hbad hnear hfar hclose hfull => State.checkEntry_queueFull hstate hprogram (hfields hbad)
      (distanceCheck_pass hnear hfar) (hspacing hclose) hfull
  case poolFull =>
    exact fun hbad hnear hfar hclose hquota hpool => State.checkEntry_poolFull hstate hprogram (hfields hbad)
      (distanceCheck_pass hnear hfar) (hspacing hclose) hquota (State.freeSlot_eq_none hpool)
  case admitted =>
    exact fun h hbad hnear hfar hclose hquota hfree hlower => State.checkEntry_ok hstate hprogram (hfields hbad)
      (distanceCheck_pass hnear hfar) (hspacing hclose) hquota (State.freeSlot_eq_some hfree hlower)

end Sys2Proof.Machine

/-! SUPPORT. SUBMIT (R39, R40, R45, R46): the entries a payload carries, the place an admitted entry takes, the batch of its
entries, and the request taken on a free link. -/

namespace Sys2Proof.Machine

/-! ### The entries of a payload (Table 11-7) -/

theorem absEntryAt_eq (p : List Byte) (k : Nat) : absEntryAt p k =
    ⟨u32 p (3 + 13 * k), u8 p (7 + 13 * k), w32 p (8 + 13 * k), u8 p (12 + 13 * k), u8 p (13 + 13 * k), u16 p (14 + 13 * k)⟩ := by
  simp only [absEntryAt, Nat.add_right_comm 3, Nat.reduceAdd]

theorem relEntryAt_eq (p : List Byte) (k : Nat) : relEntryAt p k =
    ⟨u16 p (3 + 11 * k), u8 p (5 + 11 * k), w32 p (6 + 11 * k), u8 p (10 + 11 * k), u8 p (11 + 11 * k), u16 p (12 + 11 * k)⟩ := by
  simp only [relEntryAt, Nat.add_right_comm 3, Nat.reduceAdd]

/-- The entry at place `k` of a payload, in the width of its header. -/
def entryAt (p : List Byte) (rel : Bool) (k : Nat) : Entry := if rel then relEntryAt p k else absEntryAt p k

theorem entriesAt_getElem? {p : List Byte} {rel : Bool} {n k : Nat} (h : k < n) :
    (entriesAt p rel n)[k]? = some (entryAt p rel k) := by
  cases rel <;> simp [entriesAt, entryAt, h]

/-- A list whose entries are those of the payload, place by place, is the list the payload carries. -/
theorem entriesAt_eq {p : List Byte} {rel : Bool} {es : List Entry}
    (h : ∀ (k : Nat) (e : Entry), es[k]? = some e → e = entryAt p rel k) : entriesAt p rel es.length = es := by
  refine List.ext_getElem? fun k => ?_
  rcases Nat.lt_or_ge k es.length with hlt | hge
  · rw [entriesAt_getElem? hlt, List.getElem?_eq_getElem hlt, h k _ (List.getElem?_eq_getElem hlt)]
  · rw [List.getElem?_eq_none hge, List.getElem?_eq_none (by simpa [entriesAt] using hge)]

/-! ### The place of an admitted entry (R37, R45) -/

/-- A handle goes in behind every handle up to the first one of a greater distance. -/
theorem insertByDistance_split (dist : Handle → Nat) (h : Handle) (q : List Handle) : ∃ before after,
    q = before ++ after ∧ insertByDistance dist h q = before ++ h :: after ∧
    (∀ j ∈ before, dist j ≤ dist h) ∧ (∀ j, after.head? = some j → dist h < dist j) := by
  induction q with
  | nil => exact ⟨[], [], rfl, rfl, by simp, by simp⟩
  | cons x rest ih =>
    by_cases hx : dist h < dist x
    · exact ⟨[], x :: rest, rfl, if_pos hx, by simp, by simpa using hx⟩
    · obtain ⟨before, after, hq, hins, hbefore, hafter⟩ := ih
      refine ⟨x :: before, after, congrArg (x :: ·) hq, ?_, ?_, hafter⟩
      · rw [insertByDistance, if_neg hx, hins, List.cons_append]
      · exact List.forall_mem_cons.mpr ⟨Nat.le_of_not_lt hx, hbefore⟩

section
variable (s : State) (l : LaneId) (e : Entry) (trigger : Position) (i : ProgramId) (h : Handle)

@[simp] theorem State.admitEntry_slots : (s.admitEntry l e trigger i h).slots =
    s.slots.set h ⟨s.slots[h].generation + 1, some (e.shot l i trigger)⟩ := rfl

@[simp] theorem State.admitEntry_programs : (s.admitEntry l e trigger i h).programs =
    s.programs.set i { s.programs[i] with refCount := s.programs[i].refCount + 1 } := rfl

/-- The lane's mark stays as it is, so the place of the handle is the one its distance has after the admission. -/
theorem State.admitEntry_lanes : (s.admitEntry l e trigger i h).lanes = s.lanes.set l
    { s.lanes[l] with queue := insertByDistance ((s.admitEntry l e trigger i h).aheadOf l) h s.lanes[l].queue } := by
  have hdist : (s.admitEntry l e trigger i h).aheadOf l =
      (s.setSlot h ⟨s.slots[h].generation + 1, some (e.shot l i trigger)⟩).aheadOf l := by
    funext j
    simp [State.aheadOf, State.admitEntry, State.incRef]
  rw [hdist]; rfl

/-- The handle stands between those at most as far ahead and those farther ahead. -/
theorem State.admitEntry_placed : ∃ before after, s.lanes[l].queue = before ++ after ∧
    (s.admitEntry l e trigger i h).lanes = s.lanes.set l { s.lanes[l] with queue := before ++ h :: after } ∧
    (∀ j ∈ before, (s.admitEntry l e trigger i h).aheadOf l j ≤ (s.admitEntry l e trigger i h).aheadOf l h) ∧
    (∀ j, after.head? = some j → (s.admitEntry l e trigger i h).aheadOf l h < (s.admitEntry l e trigger i h).aheadOf l j) := by
  obtain ⟨before, after, hqueue, hinsert, hplace⟩ :=
    insertByDistance_split ((s.admitEntry l e trigger i h).aheadOf l) h s.lanes[l].queue
  exact ⟨before, after, hqueue, hinsert ▸ State.admitEntry_lanes s l e trigger i h, hplace⟩

/-- An admission writes the slot, the lane and the program, and nothing else. -/
theorem State.admitEntry_frame : s.admitEntry l e trigger i h = { s with
    slots := (s.admitEntry l e trigger i h).slots, lanes := (s.admitEntry l e trigger i h).lanes
    programs := (s.admitEntry l e trigger i h).programs } := rfl

end

/-! ### A batch of entries (R40, R46) -/

section
variable {s : State} {l : LaneId} {rel : Bool} {base : Position} {e : Entry} (rest : List Entry)

theorem State.admitAll_refused {r : Reason} (hr : s.checkEntry l rel e (e.trigger rel base) = .error r) :
    s.admitAll l rel base (e :: rest) = ⟨s, .refused r :: rest.map (fun _ => .notTaken), some r⟩ := by
  simp only [State.admitAll, hr]

/-- An admitted entry goes before the batch of the rest, which counts from its trigger. -/
theorem State.admitAll_admitted {i : ProgramId} {h : Handle} (hok : s.checkEntry l rel e (e.trigger rel base) = .ok (i, h)) :
    s.admitAll l rel base (e :: rest) =
      ⟨((s.admitEntry l e (e.trigger rel base) i h).admitAll l rel (e.trigger rel base) rest).state,
        .admitted h (s.slots[h].generation + 1)
          :: ((s.admitEntry l e (e.trigger rel base) i h).admitAll l rel (e.trigger rel base) rest).results,
        ((s.admitEntry l e (e.trigger rel base) i h).admitAll l rel (e.trigger rel base) rest).refusal⟩ := by
  simp only [State.admitAll, hok]

end

/-- There is one result for each entry. -/
theorem State.admitAll_results_length (l : LaneId) (rel : Bool) (es : List Entry) (base : Position) (s : State) :
    (s.admitAll l rel base es).results.length = es.length := by
  induction es generalizing base s with
  | nil => rfl
  | cons e rest ih =>
    cases hcheck : s.checkEntry l rel e (e.trigger rel base) with
    | error r => simp [State.admitAll_refused rest hcheck]
    | ok x => simp [State.admitAll_admitted rest hcheck, ih]

/-- The unlock flag is neither read nor written by a batch. -/
theorem State.admitAll_closeUnlock (l : LaneId) (rel : Bool) (es : List Entry) (base : Position) (s : State) :
    s.closeUnlock.admitAll l rel base es =
      { s.admitAll l rel base es with state := (s.admitAll l rel base es).state.closeUnlock } := by
  induction es generalizing base s with
  | nil => rfl
  | cons e rest ih =>
    have hsame : s.closeUnlock.checkEntry l rel e (e.trigger rel base) = s.checkEntry l rel e (e.trigger rel base) := rfl
    cases hcheck : s.checkEntry l rel e (e.trigger rel base) with
    | error r => rw [State.admitAll_refused rest hcheck, State.admitAll_refused rest (hsame.trans hcheck)]
    | ok x =>
      have hadmit : s.closeUnlock.admitEntry l e (e.trigger rel base) x.1 x.2 =
        (s.admitEntry l e (e.trigger rel base) x.1 x.2).closeUnlock := rfl
      rw [State.admitAll_admitted rest hcheck, State.admitAll_admitted rest (hsame.trans hcheck), hadmit, ih]
      rfl

/-! ### The rule of the request and its reply (R39, R46) -/

/-- The reply of a batch: status and reason by its refusal, then the fields. -/
def Batch.reply (b : Batch) : List Byte :=
  match b.refusal with
  | none => okReply b.fields
  | some r => refusedWith r b.fields

theorem bitOfCode_of_width {k : Nat} {rel : Bool} (h : k = if rel then 1 else 0) : bitOfCode k = some rel := by
  subst h; cases rel <;> rfl

/-- R39 with a good header: the batch of the payload's entries. -/
theorem submit_batch {p : List Byte} {l : LaneId} {rel : Bool} {es : List Entry} (hl : u8 p 0 = l.val)
    (hrel : u8 p 1 = if rel then 1 else 0) (hmin : 1 ≤ es.length) (hmax : es.length ≤ 16) (hn : u8 p 2 = es.length)
    (hes : ∀ (k : Nat) (e : Entry), es[k]? = some e → e = entryAt p rel k) (s : State) :
    submit p s = ⟨(s.admitAll l rel (s.relBase l) es).state, (s.admitAll l rel (s.relBase l) es).reply⟩ := by
  have hcount : ¬ (es.length = 0 ∨ 16 < es.length) := by omega
  simp only [submit, index?_eq l hl, bitOfCode_of_width hrel, hn, if_neg hcount, entriesAt_eq hes]
  rfl

/-- R39's refusal of a bad header, as a whole. -/
theorem submit_badField {p : List Byte} (h : 3 < u8 p 0 ∨ 1 < u8 p 1 ∨ u8 p 2 = 0 ∨ 16 < u8 p 2) (s : State) :
    submit p s = ⟨s, [1, 1, 1, 0]⟩ := by
  unfold submit
  split
  next l rel hl hrel =>
    have hlane : ¬ 3 < u8 p 0 := fun hlane => by rw [index?_none (k := 4) hlane] at hl; cases hl
    have hwidth : ¬ 1 < u8 p 1 := fun hwidth => by rw [bitOfCode_none hwidth] at hrel; cases hrel
    exact if_pos ((h.resolve_left hlane).resolve_left hwidth)
  next => rfl

/-- A batch's reply, byte by byte. -/
theorem Batch.reply_bytes (b : Batch) : b.reply = (match b.refusal with
    | none => [0, 0]
    | some r => [1, r.code]) ++ [0, BitVec.ofNat 8 b.results.length] ++ b.results.flatMap EntryResult.bytes := by
  unfold Batch.reply
  cases b.refusal <;> rfl

/-- The length of a SUBMIT by its width and count (R161). -/
theorem submitLengthOk_of {p : List Byte} (hmin : 3 ≤ p.length)
    (hlen : p.length = 3 + (if u8 p 1 = 0 then 13 else 11) * u8 p 2) : submitLengthOk p = true := by
  simp only [submitLengthOk, Bool.and_eq_true, decide_eq_true_eq, beq_iff_eq]
  exact ⟨hmin, hlen⟩

/-! ### The request on a free link -/

/-- SUBMIT takes the batch of its entries and replies with its results. -/
theorem exec_submit_batch {p : List Byte} {l : LaneId} {rel : Bool} {es : List Entry} {s : State} (hfree : LinkFree s)
    (hl : u8 p 0 = l.val) (hrel : u8 p 1 = if rel then 1 else 0) (hmin : 1 ≤ es.length) (hmax : es.length ≤ 16)
    (hn : u8 p 2 = es.length) (hlen : p.length = 3 + (if rel then 11 else 13) * es.length)
    (hes : ∀ (k : Nat) (e : Entry), es[k]? = some e → e = entryAt p rel k) (tag : Byte) : exec (.submit tag p) s =
      .next (replied (s.admitAll l rel (s.relBase l) es).state 0x98 tag (s.admitAll l rel (s.relBase l) es).reply) := by
  have hwidth : (if u8 p 1 = 0 then 13 else 11) = if rel then 11 else 13 := by rw [hrel]; cases rel <;> rfl
  have hok : submitLengthOk p = true := submitLengthOk_of (by omega) (by rw [hwidth, hn, hlen])
  refine arrive_answer hfree hok rfl ((submit_batch hl hrel hmin hmax hn hes s.closeUnlock).trans ?_)
  have hbase : s.closeUnlock.relBase l = s.relBase l := rfl
  rw [hbase, State.admitAll_closeUnlock]
  rfl

theorem exec_submit_badField {p : List Byte} {s : State} (hfree : LinkFree s) (hmin : 3 ≤ p.length)
    (hlen : p.length = 3 + (if u8 p 1 = 0 then 13 else 11) * u8 p 2)
    (h : 3 < u8 p 0 ∨ 1 < u8 p 1 ∨ u8 p 2 = 0 ∨ 16 < u8 p 2) (tag : Byte) :
    exec (.submit tag p) s = .next (replied s 0x98 tag [1, 1, 1, 0]) :=
  arrive_answer hfree (submitLengthOk_of hmin hlen) rfl (submit_badField h s.closeUnlock)

/-- Settles O36: the request by the batch of its entries, the batch by the check of its first entry, and an admission by the place
where its handle goes in. -/
theorem submitTakesItsEntriesInOrder : Obligations.SubmitTakesItsEntriesInOrder := by
  refine ⟨fun tag p s hfree hmin => ⟨?batch, fun hbad hlen => exec_submit_badField hfree hmin hlen hbad tag⟩,
    fun l rel base e rest s => ⟨rfl, fun r hr => State.admitAll_refused rest hr, fun i h hok => ?admitted⟩,
    fun h g r => ⟨rfl, rfl, rfl⟩⟩
  case batch =>
    intro l rel es hl hrel hcount hcountMax hn hlen hes
    have hentries : ∀ (k : Nat) (e : Entry), es[k]? = some e → e = entryAt p rel k := fun k e he => by
      rw [entryAt, relEntryAt_eq, absEntryAt_eq]; exact hes k e he
    have hexec := exec_submit_batch hfree hl hrel hcount hcountMax hn hlen hentries tag
    rw [Batch.reply_bytes, State.admitAll_results_length] at hexec
    exact hexec
  case admitted =>
    obtain ⟨before, after, hqueue, hlanes, hbefore, hafter⟩ := s.admitEntry_placed l e (e.trigger rel base) i h
    exact ⟨_, before, after, State.admitAll_admitted rest hok, State.admitEntry_slots .., hqueue, hlanes, hbefore, hafter,
      State.admitEntry_programs .., State.admitEntry_frame ..⟩

end Sys2Proof.Machine

/-! SUPPORT. AMEND and AMEND_PAIR (R52 to R60): the fields of an amend set, what each of the four checks looks at, the movement of
the reference counts, the state a successful amend leaves, and the two requests taken on a free link. -/

namespace Sys2Proof.Machine

/-! ### The fields of an amend set (Table 11-12) -/

theorem handleAt_eq {p : List Byte} {o : Nat} {h : Handle} (hh : u8 p o = h.val) : handleAt p o = h := Fin.ext hh

/-- The generation byte is the expected generation exactly when the two numbers agree. -/
theorem eq_generationAt_iff (p : List Byte) (o : Nat) (g : BitVec 8) : g = generationAt p o ↔ u8 p o = g.toNat := by
  rw [generationAt, ← BitVec.toNat_inj, BitVec.toNat_ofNat, Nat.mod_eq_of_lt (u8_lt p o), eq_comm]

/-- A set expects the generation of the slot it names. -/
theorem amendAt_generation_iff {p : List Byte} {o : Nat} {h : Handle} (hh : u8 p o = h.val) (s : State) :
    s.slots[(amendAt p o).handle].generation = (amendAt p o).generation ↔ u8 p (o + 1) = s.slots[h].generation.toNat := by
  obtain rfl : (amendAt p o).handle = h := handleAt_eq hh
  exact eq_generationAt_iff ..

/-- Bit 0 of the flags. -/
theorem AmendSet.hasProgram_eq (a : AmendSet) : a.hasProgram = decide (a.flags % 2 = 1) := Nat.testBit_zero a.flags

/-- Bit 1 of the flags, where no higher bit is set. -/
theorem AmendSet.hasLabel_eq {a : AmendSet} (hmax : a.flags ≤ 3) : a.hasLabel = decide (2 ≤ a.flags) := by
  rw [AmendSet.hasLabel, Nat.testBit_succ, Nat.testBit_zero]
  exact decide_eq_decide.mpr (by omega)

/-! ### What each check of an amend looks at (R52) -/

theorem State.queuedShot_eq_some {s : State} {h : Handle} {sh : Shot} (hw : s.waits h sh) : s.queuedShot h = some sh := by
  simp only [State.queuedShot, hw.1, if_pos hw.2]

theorem State.queuedShot_eq_none {s : State} {h : Handle} (hno : ¬ ∃ sh, s.waits h sh) : s.queuedShot h = none := by
  unfold State.queuedShot
  split
  next => rfl
  next sh hsh => exact if_neg fun hphase => hno ⟨sh, hsh, hphase⟩

theorem State.amendCheck_badField {s : State} {a : AmendSet} (h : a.flags = 0 ∨ 3 < a.flags) :
    s.amendCheck a = some .badField := if_pos h

section
variable {s : State} {a : AmendSet} (hflags : ¬ (a.flags = 0 ∨ 3 < a.flags))
include hflags

theorem State.amendCheck_gone (hno : s.queuedShot a.handle = none) : s.amendCheck a = some .gone := by
  simp only [State.amendCheck, if_neg hflags, hno]

variable {sh : Shot} (hqueued : s.queuedShot a.handle = some sh)
include hqueued

theorem State.amendCheck_mismatch (hgen : s.slots[a.handle].generation ≠ a.generation) : s.amendCheck a = some .mismatch := by
  simp only [State.amendCheck, if_neg hflags, hqueued, if_pos hgen]

variable (hgen : s.slots[a.handle].generation = a.generation)
include hgen

theorem State.amendCheck_noProgram (hset : a.hasProgram = true) (hno : s.definedProgram a.program = none) :
    s.amendCheck a = some .noProgram := by
  simp only [State.amendCheck, if_neg hflags, hqueued, if_neg (not_not_intro hgen), hset, hno]; rfl

theorem State.amendCheck_pass (h : a.hasProgram = true → (s.definedProgram a.program).isSome = true) : s.amendCheck a = none := by
  have hprogram : ¬ (a.hasProgram && (s.definedProgram a.program).isNone) = true := by
    simpa [Option.isSome_iff_ne_none] using h
  simp only [State.amendCheck, if_neg hflags, hqueued, if_neg (not_not_intro hgen), if_neg hprogram]

end

/-- A set that fails is refused with its reason. -/
theorem State.amendCheck_of_fails {s : State} {p : List Byte} {o : Nat} {h : Handle} {r : Reason} (hf : amendFails s p o h r) :
    s.amendCheck (amendAt p o) = some r := by
  obtain ⟨hh, hcase⟩ := hf
  have hhandle : (amendAt p o).handle = h := handleAt_eq hh
  have hqueued {sh : Shot} (hw : s.waits h sh) : s.queuedShot (amendAt p o).handle = some sh :=
    hhandle ▸ State.queuedShot_eq_some hw
  have hgeneration := amendAt_generation_iff hh s
  rcases hcase with ⟨rfl, hbad⟩ | ⟨rfl, hflags, hno⟩ | ⟨rfl, hflags, ⟨sh, hw⟩, hdiffer⟩ |
    ⟨rfl, hflags, ⟨sh, hw⟩, hsame, hset, hno⟩
  · exact State.amendCheck_badField hbad
  · exact State.amendCheck_gone hflags (hhandle ▸ State.queuedShot_eq_none hno)
  · exact State.amendCheck_mismatch hflags (hqueued hw) (hgeneration.not.mpr hdiffer)
  · have hnone : s.definedProgram (u8 p (o + 3)) = none :=
      State.definedProgram_eq_none fun i ⟨hi, hactive⟩ => Option.isSome_iff_ne_none.mp hactive (hno i hi)
    exact State.amendCheck_noProgram hflags (hqueued hw) (hgeneration.mpr hsame)
      ((AmendSet.hasProgram_eq _).trans (decide_eq_true hset)) hnone

/-! ### The reference counts (R54 step 1) -/

theorem State.moveRef_self (s : State) (i : ProgramId) : s.moveRef i i = s := if_pos rfl

/-- Between two programs the old count falls by one and the new one rises by one. -/
theorem State.moveRef_program {s : State} {old new : ProgramId} (hne : old ≠ new) (j : ProgramId) :
    (s.moveRef old new).programs[j] = { s.programs[j] with
      refCount := if j = new then s.programs[j].refCount + 1 else if j = old then s.programs[j].refCount - 1
        else s.programs[j].refCount } := by
  rw [State.moveRef, if_neg hne]
  by_cases hnew : j = new
  · subst hnew
    simp [State.incRef, State.decRef, Fin.val_inj, hne]
  · by_cases hold : j = old
    · subst hold
      simp [State.incRef, State.decRef, Fin.val_inj, hnew, Ne.symm hnew]
    · simp [State.incRef, State.decRef, Fin.val_inj, hnew, hold, Ne.symm hnew, Ne.symm hold]

/-- No version of a program moves with the counts. -/
theorem State.moveRef_active (s : State) (old new j : ProgramId) :
    (s.moveRef old new).programs[j].active = s.programs[j].active := by
  by_cases hne : old = new
  · rw [hne, State.moveRef_self]
  · rw [State.moveRef_program hne]

theorem State.moveRef_staged (s : State) (old new j : ProgramId) :
    (s.moveRef old new).programs[j].staged = s.programs[j].staged := by
  by_cases hne : old = new
  · rw [hne, State.moveRef_self]
  · rw [State.moveRef_program hne]

/-- The count of a program that is referred to moves without loss. -/
theorem State.moveRef_refCount {s : State} {old : ProgramId} (hpos : 0 < s.programs[old].refCount) (new j : ProgramId) :
    (s.moveRef old new).programs[j].refCount + (if old = j then 1 else 0) =
      s.programs[j].refCount + (if new = j then 1 else 0) := by
  by_cases hne : old = new
  · rw [hne, State.moveRef_self]
  · rw [State.moveRef_program hne]
    by_cases hnew : new = j
    · subst hnew; simp [hne]
    · by_cases hold : old = j
      · subst hold; simpa [Ne.symm hnew, hnew] using Nat.sub_add_cancel hpos
      · simp [hnew, hold, Ne.symm hnew, Ne.symm hold]

theorem State.moveRef_closeUnlock (s : State) (old new : ProgramId) :
    s.closeUnlock.moveRef old new = (s.moveRef old new).closeUnlock := by
  unfold State.moveRef; split <;> rfl

/-- A move writes the programs, and nothing else. -/
theorem State.moveRef_frame (s : State) (old new : ProgramId) :
    s.moveRef old new = { s with programs := (s.moveRef old new).programs } := by
  unfold State.moveRef; split <;> rfl

/-- Handles of waiting shots that name one program, each listed once, are no more than its reference count (R38). -/
theorem State.length_le_refCount {s : State} (hs : s.refsSound) {i : ProgramId} {handles : List Handle} (hnodup : handles.Nodup)
    (hwait : ∀ h ∈ handles, s.waitsFor i h = true) : handles.length ≤ s.programs[i].refCount := by
  rw [hs.1 i, List.countP_eq_length_filter]
  refine (List.Nodup.subperm hnodup fun h hh => ?_).length_le
  exact List.mem_filter.mpr ⟨List.mem_finRange h, hwait h hh⟩

theorem State.waitsFor_of_waits {s : State} {h : Handle} {sh : Shot} (hw : s.waits h sh) : s.waitsFor sh.program h = true := by
  obtain ⟨hshot, hphase⟩ := hw
  rw [State.waitsFor, hshot]
  simp [hphase]

/-- A waiting shot's program is referred to, by each of two shots that share it. -/
theorem State.refCount_ge_of_waits {s : State} (hs : s.refsSound) {h j : Handle} {sh sj : Shot} (hne : h ≠ j)
    (hw : s.waits h sh) (hwj : s.waits j sj) :
    1 + (if sh.program = sj.program then 1 else 0) ≤ s.programs[sj.program].refCount := by
  have hsecond := State.waitsFor_of_waits hwj
  split
  next hsame =>
    have hfirst : s.waitsFor sj.program h = true := hsame ▸ State.waitsFor_of_waits hw
    exact State.length_le_refCount hs (handles := [h, j]) (by simpa using hne) (by simpa using ⟨hfirst, hsecond⟩)
  next => exact State.length_le_refCount hs (handles := [j]) (by simp) (by simpa using hsecond)

/-! ### A successful amend (R54) -/

/-- `s` after the waiting shot `sh` of slot `h` was amended to the program and label given. -/
def State.withAmended (s : State) (h : Handle) (sh : Shot) (program : Option ProgramId) (label : Option (BitVec 32)) : State :=
  (s.moveRef sh.program (program.getD sh.program)).setSlot h (amendedSlot s.slots[h] sh program label)

section
variable (s : State) (h : Handle) (sh : Shot) (program : Option ProgramId) (label : Option (BitVec 32))

@[simp] theorem State.withAmended_slots :
    (s.withAmended h sh program label).slots = s.slots.set h (amendedSlot s.slots[h] sh program label) := by
  simp [State.withAmended]

@[simp] theorem State.withAmended_programs : (s.withAmended h sh program label).programs =
    (s.moveRef sh.program (program.getD sh.program)).programs := rfl

theorem State.withAmended_slot_same : (s.withAmended h sh program label).slots[h] = amendedSlot s.slots[h] sh program label := by
  simp

theorem State.withAmended_slot_other {j : Handle} (hne : h ≠ j) : (s.withAmended h sh program label).slots[j] = s.slots[j] := by
  simp [Fin.val_inj, hne]

theorem State.withAmended_closeUnlock :
    s.closeUnlock.withAmended h sh program label = (s.withAmended h sh program label).closeUnlock := by
  rw [State.withAmended, State.moveRef_closeUnlock]; rfl

/-- An amend writes the slot and the programs, and nothing else. -/
theorem State.withAmended_frame : s.withAmended h sh program label = { s with
    slots := (s.withAmended h sh program label).slots, programs := (s.withAmended h sh program label).programs } := by
  rw [State.withAmended_slots, State.withAmended_programs, State.withAmended, State.moveRef_frame]; rfl

end

/-- The counts after two amends move by the sum of the two changes: the second old program is still referred to once the first
shot has left it. -/
theorem State.withAmended_twice_refCount {s : State} (hs : s.refsSound) {h j : Handle} {sh sj : Shot} (hne : h ≠ j)
    (hw : s.waits h sh) (hwj : s.waits j sj) (ph pj : Option ProgramId) (lh lj : Option (BitVec 32)) (i : ProgramId) :
    ((s.withAmended h sh ph lh).withAmended j sj pj lj).programs[i].refCount
        + (if sh.program = i then 1 else 0) + (if sj.program = i then 1 else 0) =
      s.programs[i].refCount + (if ph.getD sh.program = i then 1 else 0) + (if pj.getD sj.program = i then 1 else 0) := by
  have hpos : 0 < s.programs[sh.program].refCount := (Nat.le_add_right ..).trans (State.refCount_ge_of_waits hs hne.symm hwj hw)
  have hfirst := State.moveRef_refCount hpos (ph.getD sh.program)
  have hposj : 0 < (s.withAmended h sh ph lh).programs[sj.program].refCount := by
    have hshared := State.refCount_ge_of_waits hs hne hw hwj
    have hmoved := hfirst sj.program
    rw [State.withAmended_programs]
    omega
  have hsecond := State.moveRef_refCount hposj (pj.getD sj.program) i
  have hmoved := hfirst i
  rw [State.withAmended_programs] at hsecond ⊢
  omega

/-- The reply's fields of a slot are its handle, generation and state. -/
theorem State.slotBytes_eq (s : State) (h : Handle) :
    s.slotBytes h = [BitVec.ofNat 8 h.val, s.slots[h].generation, s.slots[h].stateCode] := rfl

/-- The amended shot is still QUEUED. -/
theorem amendedSlot_stateCode {sh : Shot} (hphase : sh.phase = .queued) (x : Slot) (program : Option ProgramId)
    (label : Option (BitVec 32)) : (amendedSlot x sh program label).stateCode = 1 := by
  simp only [Slot.stateCode, amendedSlot, hphase, ShotPhase.code]

theorem State.withAmended_slotBytes {s : State} {h : Handle} {sh : Shot} (hw : s.waits h sh) (program : Option ProgramId)
    (label : Option (BitVec 32)) :
    (s.withAmended h sh program label).slotBytes h = [BitVec.ofNat 8 h.val, s.slots[h].generation + 1, 1] := by
  rw [State.slotBytes_eq, State.withAmended_slot_same, amendedSlot_stateCode hw.2]; rfl

/-- An amend of one slot leaves the reply's fields of another as they were. -/
theorem State.withAmended_slotBytes_other (s : State) {h j : Handle} (hne : h ≠ j) (sh : Shot) (program : Option ProgramId)
    (label : Option (BitVec 32)) : (s.withAmended h sh program label).slotBytes j = s.slotBytes j := by
  rw [State.slotBytes_eq, State.withAmended_slot_other s h sh program label hne, State.slotBytes_eq]

section
variable {s : State} {p : List Byte} {o : Nat} {h : Handle} {sh : Shot} {program : Option ProgramId} {label : Option (BitVec 32)}

theorem amendAt_handle_of_passes (hp : amendPasses s p o h sh program label) : (amendAt p o).handle = h := handleAt_eq hp.1

theorem State.waits_of_passes (hp : amendPasses s p o h sh program label) : s.waits h sh := by
  obtain ⟨-, -, -, hw, -⟩ := hp
  exact hw

/-- A passing set has PROGRAM set exactly when it names a program. -/
theorem amendAt_hasProgram_of_passes (hp : amendPasses s p o h sh program label) :
    (amendAt p o).hasProgram = program.isSome := by
  obtain ⟨-, -, -, -, -, hsome, hnone, -⟩ := hp
  have hbit : (amendAt p o).hasProgram = decide (u8 p (o + 2) % 2 = 1) := AmendSet.hasProgram_eq _
  cases program with
  | none => simp [hbit, hnone rfl]
  | some i => simp [hbit, (hsome i rfl).1]

/-- The program a passing set names is DEFINED. -/
theorem State.definedProgram_of_passes {i : ProgramId} (hp : amendPasses s p o h sh (some i) label) :
    s.definedProgram (amendAt p o).program = some i := by
  obtain ⟨-, -, -, -, -, hsome, -⟩ := hp
  obtain ⟨-, hi, hactive⟩ := hsome i rfl
  exact State.definedProgram_eq_some hi hactive

/-- R54 step 1: the program after the amend. -/
theorem amendAt_program_of_passes (hp : amendPasses s p o h sh program label) (old : ProgramId) :
    (if (amendAt p o).hasProgram then (s.definedProgram (amendAt p o).program).getD old else old) = program.getD old := by
  rw [amendAt_hasProgram_of_passes hp]
  cases program with
  | none => rfl
  | some i => rw [State.definedProgram_of_passes hp]; rfl

/-- R54 step 2: the label after the amend. -/
theorem amendAt_label_of_passes (hp : amendPasses s p o h sh program label) (old : BitVec 32) :
    (if (amendAt p o).hasLabel then (amendAt p o).label else old) = label.getD old := by
  obtain ⟨-, -, hmax, -, -, -, -, rfl⟩ := hp
  have hbit : (amendAt p o).hasLabel = decide (2 ≤ u8 p (o + 2)) := AmendSet.hasLabel_eq hmax
  rw [hbit, apply_ite (Option.getD · old)]
  simp only [decide_eq_true_eq, Option.getD_some, Option.getD_none]
  rfl

/-- A set that passes is not refused. -/
theorem State.amendCheck_of_passes (hp : amendPasses s p o h sh program label) : s.amendCheck (amendAt p o) = none := by
  have hhandle := amendAt_handle_of_passes hp
  have hset := amendAt_hasProgram_of_passes hp
  have hdefined (i : ProgramId) (hi : program = some i) := State.definedProgram_of_passes (hi ▸ hp)
  obtain ⟨hh, hmin, hmax, hw, hgen, -⟩ := hp
  refine State.amendCheck_pass (sh := sh) ?flags ?queued ?generation fun hflag => ?defined
  case flags => exact not_or.mpr ⟨Nat.ne_of_gt hmin, hmax.not_gt⟩
  case queued => exact hhandle ▸ State.queuedShot_eq_some hw
  case generation => exact (amendAt_generation_iff hh s).mpr hgen
  case defined =>
    obtain ⟨i, hi⟩ := Option.isSome_iff_exists.mp (hset.symm.trans hflag)
    rw [hdefined i hi]; rfl

/-- A set that passes amends its shot. -/
theorem State.amendShot_of_passes (hp : amendPasses s p o h sh program label) :
    s.amendShot (amendAt p o) = s.withAmended h sh program label := by
  have hshot : s.slots[h].shot = some sh := (State.waits_of_passes hp).1
  simp only [State.amendShot, amendAt_handle_of_passes hp, hshot, amendAt_program_of_passes hp, Shot.amendedBy,
    amendAt_label_of_passes hp]
  rfl

/-- A set that passes also passes where its slot and the active versions are the same. -/
theorem amendPasses_of_agree {t : State} (hslot : t.slots[h] = s.slots[h])
    (hactive : ∀ i : ProgramId, t.programs[i].active = s.programs[i].active) (hp : amendPasses s p o h sh program label) :
    amendPasses t p o h sh program label := by
  simpa only [amendPasses, State.waits, hslot, hactive] using hp

end

/-! ### The rules of the two requests -/

/-- R52: a set that fails leaves everything as it was. -/
theorem amend_refused {s : State} {p : List Byte} {h : Handle} {r : Reason} (hf : amendFails s p 0 h r) :
    amend p s = ⟨s, refusedWith r (s.slotBytes h)⟩ := by
  have hhandle : (amendAt p 0).handle = h := handleAt_eq hf.1
  simp only [amend, State.amendCheck_of_fails hf, hhandle]

/-- R54, R55: a set that passes. -/
theorem amend_passed {s : State} {p : List Byte} {h : Handle} {sh : Shot} {program : Option ProgramId}
    {label : Option (BitVec 32)} (hp : amendPasses s p 0 h sh program label) : amend p s =
      ⟨s.withAmended h sh program label, [0, 0, BitVec.ofNat 8 h.val, s.slots[h].generation + 1, 1]⟩ := by
  simp only [amend, State.amendCheck_of_passes hp, State.amendShot_of_passes hp, amendAt_handle_of_passes hp,
    State.withAmended_slotBytes (State.waits_of_passes hp), okReply]

section
variable {s : State} {p : List Byte} {h j : Handle} (hh : u8 p 0 = h.val) (hj : u8 p 8 = j.val)
include hh hj

/-- R58: what the pair's check refuses leaves everything as it was. -/
theorem amendPair_refused {which : Byte} {r : Reason} (hr : s.pairCheck (amendAt p 0) (amendAt p 8) = some (which, r)) :
    amendPair p s = ⟨s, refusedWith r ([which] ++ s.slotBytes h ++ s.slotBytes j)⟩ := by
  have hfirst : (amendAt p 0).handle = h := handleAt_eq hh
  have hsecond : (amendAt p 8).handle = j := handleAt_eq hj
  simp only [amendPair, hr, hfirst, hsecond]

/-- R58: equal handles fail before any set is looked at. -/
theorem amendPair_equal (heq : h = j) (s : State) :
    amendPair p s = ⟨s, refusedWith .badField ([0xFE] ++ s.slotBytes h ++ s.slotBytes j)⟩ :=
  amendPair_refused hh hj (if_pos ((handleAt_eq hh).trans (heq.trans (handleAt_eq hj).symm)))

variable (hne : h ≠ j)
include hne

/-- Two handles: set 0 is checked before set 1. -/
theorem State.pairCheck_distinct (s : State) : s.pairCheck (amendAt p 0) (amendAt p 8) =
    (s.amendCheck (amendAt p 0)).elim ((s.amendCheck (amendAt p 8)).map ((1, ·))) (fun r => some (0, r)) := by
  have hhandles : (amendAt p 0).handle ≠ (amendAt p 8).handle := fun heq =>
    hne ((handleAt_eq hh).symm.trans (heq.trans (handleAt_eq hj)))
  rw [State.pairCheck, if_neg hhandles]
  cases s.amendCheck (amendAt p 0) <;> rfl

theorem amendPair_firstFails {r : Reason} (hf : amendFails s p 0 h r) :
    amendPair p s = ⟨s, refusedWith r ([0] ++ s.slotBytes h ++ s.slotBytes j)⟩ := by
  refine amendPair_refused hh hj ?_
  rw [State.pairCheck_distinct hh hj hne, State.amendCheck_of_fails hf]; rfl

variable {sh sj : Shot} {ph pj : Option ProgramId} {lh lj : Option (BitVec 32)} (hp : amendPasses s p 0 h sh ph lh)
include hp

theorem amendPair_secondFails {r : Reason} (hf : amendFails s p 8 j r) :
    amendPair p s = ⟨s, refusedWith r ([1] ++ s.slotBytes h ++ s.slotBytes j)⟩ := by
  refine amendPair_refused hh hj ?_
  rw [State.pairCheck_distinct hh hj hne, State.amendCheck_of_passes hp, State.amendCheck_of_fails hf]; rfl

/-- R59, R60: set 1 still passes once set 0 is applied, so both amends are those of their own sets. -/
theorem amendPair_passed (hpj : amendPasses s p 8 j sj pj lj) : amendPair p s =
    ⟨(s.withAmended h sh ph lh).withAmended j sj pj lj, [0, 0, 0xFF, BitVec.ofNat 8 h.val, s.slots[h].generation + 1, 1,
      BitVec.ofNat 8 j.val, s.slots[j].generation + 1, 1]⟩ := by
  have hcheck : s.pairCheck (amendAt p 0) (amendAt p 8) = none := by
    rw [State.pairCheck_distinct hh hj hne, State.amendCheck_of_passes hp, State.amendCheck_of_passes hpj]; rfl
  have hslot := s.withAmended_slot_other h sh ph lh hne
  have hthen : amendPasses (s.withAmended h sh ph lh) p 8 j sj pj lj :=
    amendPasses_of_agree hslot (s.moveRef_active _ _) hpj
  simp only [amendPair, hcheck, State.amendShot_of_passes hp, State.amendShot_of_passes hthen, amendAt_handle_of_passes hp,
    amendAt_handle_of_passes hpj, State.withAmended_slotBytes_other _ hne.symm,
    State.withAmended_slotBytes (State.waits_of_passes hp), State.withAmended_slotBytes (State.waits_of_passes hthen), hslot]
  rfl

end

/-! ### The requests on a free link -/

section
variable {s : State} {p : List Byte} {h : Handle} (hfree : LinkFree s) (hlen : p.length = 8) (tag : Byte)
include hfree hlen

/-- AMEND of a set that passes amends its shot and replies OK. -/
theorem exec_amend_passed {sh : Shot} {program : Option ProgramId} {label : Option (BitVec 32)}
    (hp : amendPasses s p 0 h sh program label) : exec (.amend tag p) s =
      .next (replied (s.withAmended h sh program label) 0x9B tag [0, 0, BitVec.ofNat 8 h.val, s.slots[h].generation + 1, 1]) :=
  arrive_answer hfree (beq_iff_eq.mpr hlen) rfl
    ((amend_passed (s := s.closeUnlock) hp).trans (by rw [State.withAmended_closeUnlock]; rfl))

theorem exec_amend_refused {r : Reason} (hf : amendFails s p 0 h r) : exec (.amend tag p) s =
    .next (replied s 0x9B tag [1, r.code, BitVec.ofNat 8 h.val, s.slots[h].generation, s.slots[h].stateCode]) :=
  arrive_answer hfree (beq_iff_eq.mpr hlen) rfl (amend_refused (s := s.closeUnlock) hf)

end

/-- AMEND_PAIR answers as its rule does with the unlock flag closed. -/
theorem exec_amendPair {s u : State} {p reply : List Byte} (hfree : LinkFree s) (hlen : p.length = 16) (tag : Byte)
    (hrule : amendPair p s.closeUnlock = ⟨u.closeUnlock, reply⟩) :
    exec (.amendPair tag p) s = .next (replied u 0x9C tag reply) :=
  arrive_answer hfree (beq_iff_eq.mpr hlen) rfl hrule

/-- Settles O38: a set that passes by the state it leaves, whose counts move between the two programs; one that fails by its
refusal. -/
theorem amendChangesAWaitingShot : Obligations.AmendChangesAWaitingShot := by
  refine fun tag p h s hfree hlen => ⟨fun sh program label hp => ?passed, fun r hf => exec_amend_refused hfree hlen tag hf⟩
  refine ⟨s.withAmended h sh program label, exec_amend_passed hfree hlen tag hp, State.withAmended_slots .., ?same, ?moved,
    State.withAmended_frame ..⟩
  case same =>
    intro hprogram
    have hkept : program.getD sh.program = sh.program := by rcases hprogram with rfl | rfl <;> rfl
    rw [State.withAmended_programs, hkept, State.moveRef_self]
  case moved =>
    rintro i rfl hne j
    exact State.moveRef_program hne.symm j

/-- Settles O39: the refusals by the pair's check, and where both sets pass, set 1 applied to the state that set 0 leaves. -/
theorem amendPairAmendsBothOrNeither : Obligations.AmendPairAmendsBothOrNeither := by
  intro tag p h j s hfree hlen hh hj slot
  refine ⟨fun sh sj ph pj lh lj hne hs hp hpj => ?passed, fun heq => ?equal, fun r hne hf => ?first,
    fun r sh ph lh hne hp hf => ?second⟩
  case passed =>
    refine ⟨(s.withAmended h sh ph lh).withAmended j sj pj lj, ?reply, ?slots, fun i => ⟨?active, ?staged, ?counts⟩, ?frame⟩
    case reply =>
      refine exec_amendPair hfree hlen tag ((amendPair_passed (s := s.closeUnlock) hh hj hne hp hpj).trans ?_)
      rw [State.withAmended_closeUnlock, State.withAmended_closeUnlock]; rfl
    case slots =>
      rw [State.withAmended_slots, State.withAmended_slot_other _ _ _ _ _ hne, State.withAmended_slots]
    case active => exact (State.moveRef_active ..).trans (State.moveRef_active ..)
    case staged => exact (State.moveRef_staged ..).trans (State.moveRef_staged ..)
    case counts =>
      exact State.withAmended_twice_refCount hs hne (State.waits_of_passes hp) (State.waits_of_passes hpj) ph pj lh lj i
    case frame => rw [State.withAmended_frame _ j, State.withAmended_frame s h]
  case equal => exact exec_amendPair hfree hlen tag (amendPair_equal hh hj heq s.closeUnlock)
  case first => exact exec_amendPair hfree hlen tag (amendPair_firstFails (s := s.closeUnlock) hh hj hne hf)
  case second => exact exec_amendPair hfree hlen tag (amendPair_secondFails (s := s.closeUnlock) hh hj hne hp hf)

end Sys2Proof.Machine

/-! SUPPORT. PROGRAM_WRITE (R67 to R72): the interval of a pulse and the overlap of two, the pulses a payload carries, the first
overlapping pair and the program end of a list of pulses, the outcome of the checks, and the request taken on a free link. -/

namespace Sys2Proof.Machine

/-! ### The interval of a pulse and the overlap of two (R67, R69) -/

theorem Pulse.ends_of_coarse {x : Pulse} (h : x.fine = false) : x.ends = 2 * (x.start + x.width) := by
  simp [Pulse.ends, h]

/-- The fine flag makes the interval half a tick longer. -/
theorem Pulse.ends_of_fine {x : Pulse} (h : x.fine = true) : x.ends = 2 * (x.start + x.width) + 1 := by
  simp [Pulse.ends, h]

theorem Pulse.overlaps_iff (x y : Pulse) :
    x.overlaps y = true ↔ x.output = y.output ∧ x.begins < y.ends ∧ y.begins < x.ends := by
  simp [Pulse.overlaps, and_assoc]

/-- Settles O40: the interval by the two values of the fine flag, the overlap by the three comparisons it is made of. -/
theorem pulseIntervalsAndTheirOverlap : Obligations.PulseIntervalsAndTheirOverlap :=
  fun x y => ⟨rfl, Pulse.ends_of_coarse, Pulse.ends_of_fine, Pulse.overlaps_iff x y⟩

/-! ### The pulses of a payload (R70 check 2) -/

/-- A pulse is refused exactly when one of its fields is out of range. -/
theorem pulseAt_eq_none_iff (p : List Byte) (k : Nat) : pulseAt p k = none ↔ badPulse p k := by
  rcases Nat.lt_or_ge (u8 p (2 + 6 * k)) 12 with hlt | hge
  · simp only [pulseAt, index?_eq ⟨_, hlt⟩ rfl, ite_eq_right_iff, reduceCtorEq, imp_false, badPulse]
    omega
  · simp only [pulseAt, index?_none hge, badPulse, true_iff]
    omega

theorem pulseAt_eq_some {p : List Byte} {k : Nat} {x : Pulse} (hcarries : carriesPulse p k x) (hgood : ¬ badPulse p k) :
    pulseAt p k = some x := by
  obtain ⟨houtput, hstart, hwidth, hfine⟩ := hcarries
  have hranges : u16 p (3 + 6 * k) ≤ 65534 ∧ 1 ≤ u16 p (5 + 6 * k) ∧ u16 p (3 + 6 * k) + u16 p (5 + 6 * k) ≤ 65535 ∧
      u8 p (7 + 6 * k) ≤ 1 := by
    unfold badPulse at hgood; omega
  have hflag : (u8 p (7 + 6 * k) == 1) = x.fine := by rw [hfine]; cases x.fine <;> rfl
  simp only [pulseAt, index?_eq x.output houtput]
  rw [if_pos hranges, hflag, hstart, hwidth]

/-- Pulses that are all good are taken in written order. -/
theorem pulsesAt_eq_ok {p : List Byte} {xs : List Pulse} {k : Nat}
    (h : ∀ (i : Nat) (x : Pulse), xs[i]? = some x → pulseAt p (k + i) = some x) : pulsesAt p k xs.length = .ok xs := by
  induction xs generalizing k with
  | nil => rfl
  | cons x rest ih =>
    have hfirst : pulseAt p k = some x := h 0 x rfl
    have hrest : pulsesAt p (k + 1) rest.length = .ok rest := ih fun i y hy => by
      rw [Nat.add_right_comm]; exact h (i + 1) y hy
    simp only [List.length_cons, pulsesAt, hfirst, hrest]

/-- The index reported is that of the first pulse that fails. -/
theorem pulsesAt_eq_error {p : List Byte} {j k m : Nat} (hj : j < m) (hbad : pulseAt p (k + j) = none)
    (hgood : ∀ i, i < j → pulseAt p (k + i) ≠ none) : pulsesAt p k m = .error (k + j) := by
  induction m generalizing j k with
  | zero => exact absurd hj j.not_lt_zero
  | succ m ih =>
    cases j with
    | zero =>
      have hfirst : pulseAt p k = none := hbad
      rw [pulsesAt, hfirst]; rfl
    | succ j =>
      obtain ⟨x, hfirst⟩ : ∃ x, pulseAt p k = some x := Option.ne_none_iff_exists'.mp (hgood 0 j.succ_pos)
      have hshift (i : Nat) : k + 1 + i = k + (i + 1) := by omega
      have hrest : pulsesAt p (k + 1) m = .error (k + 1 + j) :=
        ih (Nat.lt_of_succ_lt_succ hj) (hshift j ▸ hbad) fun i hi => hshift i ▸ hgood (i + 1) (Nat.succ_lt_succ hi)
      rw [pulsesAt, hfirst, hrest, hshift]

/-- The payload carries the pulses of a list, each with its fields in range. -/
def carriesPulses (p : List Byte) (xs : List Pulse) : Prop :=
  ∀ (k : Nat) (x : Pulse), xs[k]? = some x → carriesPulse p k x ∧ ¬ badPulse p k

theorem pulsesAt_of_carriesPulses {p : List Byte} {xs : List Pulse} (h : carriesPulses p xs) :
    pulsesAt p 0 xs.length = .ok xs := by
  refine pulsesAt_eq_ok fun k x hx => ?_
  obtain ⟨hcarries, hgood⟩ := h k x hx
  rw [Nat.zero_add]
  exact pulseAt_eq_some hcarries hgood

theorem pulsesAt_of_badPulse {p : List Byte} {k n : Nat} (hk : k < n) (hbad : badPulse p k)
    (hgood : ∀ j, j < k → ¬ badPulse p j) : pulsesAt p 0 n = .error k := by
  have herror := pulsesAt_eq_error (p := p) (k := 0) hk
  simp only [Nat.zero_add, Ne, pulseAt_eq_none_iff] at herror
  exact herror hbad hgood

/-! ### The first overlapping pair (R70 check 3) -/

theorem overlapBefore_eq_none {before : List Pulse} {x : Pulse} (h : ∀ y ∈ before, y.overlaps x = false) (j : Nat) :
    overlapBefore before x j = none := by
  rw [overlapBefore, List.findIdx?_eq_none_iff.mpr h]; rfl

/-- Pulses of which no two overlap are passed over. -/
theorem firstOverlap_append {before xs : List Pulse} (h : (before ++ xs).Pairwise (fun x y => x.overlaps y = false))
    (rest : List Pulse) : firstOverlap before (xs ++ rest) = firstOverlap (before ++ xs) rest := by
  induction xs generalizing before with
  | nil => rw [List.append_nil]; rfl
  | cons x xs ih =>
    have hx : ∀ y ∈ before, y.overlaps x = false := fun y hy => (List.pairwise_append.mp h).2.2 y hy x List.mem_cons_self
    rw [List.append_cons] at h
    rw [List.cons_append, firstOverlap, overlapBefore_eq_none hx, List.append_cons before x xs]
    exact ih h

theorem firstOverlap_eq_none {xs : List Pulse} (h : xs.Pairwise (fun x y => x.overlaps y = false)) :
    firstOverlap [] xs = none := by
  have hall := firstOverlap_append (before := []) h []
  rwa [List.append_nil] at hall

/-- The pair reported is the overlapping pair with the smallest later index, and among those the smallest earlier one. -/
theorem firstOverlap_eq_some {xs : List Pulse} {a b : Nat} {x y : Pulse} (hab : a < b) (hx : xs[a]? = some x)
    (hy : xs[b]? = some y) (hxy : x.overlaps y = true)
    (hfirst : ∀ a' b' x' y', a' < b' → xs[a']? = some x' → xs[b']? = some y' → x'.overlaps y' = true →
      b < b' ∨ (b = b' ∧ a ≤ a')) : firstOverlap [] xs = some (a, b) := by
  obtain ⟨hb, rfl⟩ := List.getElem?_eq_some_iff.mp hy
  obtain ⟨ha, rfl⟩ := List.getElem?_eq_some_iff.mp hx
  have hlen : (xs.take b).length = b := List.length_take_of_le hb.le
  have hapart : (xs.take b).Pairwise (fun x y => x.overlaps y = false) := by
    refine List.pairwise_iff_getElem.mpr fun i j hi hj hij => Bool.eq_false_iff.mpr fun hov => ?_
    rw [List.getElem_take, List.getElem_take] at hov
    have := hfirst i j _ _ hij (List.getElem?_eq_getElem _) (List.getElem?_eq_getElem _) hov
    omega
  have hearliest : (xs.take b).findIdx? (fun z => z.overlaps xs[b]) = some a := by
    refine List.findIdx?_eq_some_iff_getElem.mpr ⟨by omega, ?_, fun i hi hov => ?_⟩
    · rwa [List.getElem_take]
    · rw [List.getElem_take] at hov
      have := hfirst i b _ _ (hi.trans hab) (List.getElem?_eq_getElem _) (List.getElem?_eq_getElem _) hov
      omega
  have hpair : overlapBefore (xs.take b) xs[b] (xs.take b).length = some (a, b) := by
    rw [overlapBefore, hearliest, hlen]; rfl
  calc firstOverlap [] xs
      = firstOverlap [] (xs.take b ++ xs.drop b) := by rw [List.take_append_drop]
    _ = firstOverlap (xs.take b) (xs[b] :: xs.drop (b + 1)) := by
        rw [firstOverlap_append (before := []) hapart, List.drop_eq_getElem_cons hb]; rfl
    _ = some (a, b) := by rw [firstOverlap, hpair]

/-! ### The program end (R68) -/

theorem programEndOf_le_iff (xs : List Pulse) (e : Nat) : programEndOf xs ≤ e ↔ ∀ x ∈ xs, x.ends ≤ e := by
  have hfold (acc : Nat) : xs.foldl (fun e x => max e x.ends) acc ≤ e ↔ acc ≤ e ∧ ∀ x ∈ xs, x.ends ≤ e := by
    induction xs generalizing acc with
    | nil => simp
    | cons x rest ih => simp [ih, and_assoc]
  rw [programEndOf, hfold]
  exact and_iff_right e.zero_le

/-- The program end is the interval end that no other exceeds. -/
theorem programEndOf_eq {xs : List Pulse} {e : Nat} (hmem : ∃ x ∈ xs, e = x.ends) (hmax : ∀ x ∈ xs, x.ends ≤ e) :
    programEndOf xs = e := by
  obtain ⟨x, hx, rfl⟩ := hmem
  exact ((programEndOf_le_iff xs _).mpr hmax).antisymm ((programEndOf_le_iff xs _).mp le_rfl x hx)

/-! ### The outcome of the checks (R70) -/

/-- Check 1: the header. -/
theorem writeCheck_header {p : List Byte} (h : 31 < u8 p 0 ∨ u8 p 1 = 0 ∨ 8 < u8 p 1) :
    writeCheck p = .error (.badField, 0xFE, 0xFE) := by
  unfold writeCheck
  split
  next => rfl
  next i hi =>
    have hprogram : ¬ 31 < u8 p 0 := fun hout => by rw [index?_none (k := 32) hout] at hi; cases hi
    exact if_pos (h.resolve_left hprogram)

section
variable {p : List Byte} {i : ProgramId} (hi : u8 p 0 = i.val) (hcount : ¬ (u8 p 1 = 0 ∨ 8 < u8 p 1))
include hi hcount

/-- Check 2: the pulses. -/
theorem writeCheck_pulse {k : Nat} (hpulse : pulsesAt p 0 (u8 p 1) = .error k) :
    writeCheck p = .error (.badField, BitVec.ofNat 8 k, 0xFF) := by
  simp only [writeCheck, index?_eq i hi, if_neg hcount, hpulse]

variable {xs : List Pulse} (hpulses : pulsesAt p 0 (u8 p 1) = .ok xs)
include hpulses

/-- Check 3: the pairs. -/
theorem writeCheck_overlap {a b : Nat} (hpair : firstOverlap [] xs = some (a, b)) :
    writeCheck p = .error (.overlap, BitVec.ofNat 8 a, BitVec.ofNat 8 b) := by
  simp only [writeCheck, index?_eq i hi, if_neg hcount, hpulses, hpair]

theorem writeCheck_ok (hapart : firstOverlap [] xs = none) : writeCheck p = .ok (i, ⟨xs, programEndOf xs⟩) := by
  simp only [writeCheck, index?_eq i hi, if_neg hcount, hpulses, hapart]

end

/-! ### The version stored (R71, R72) -/

theorem State.storeVersion_closed {s : State} (h : s.updateHold = .closed) (i : ProgramId) (v : Version) :
    s.storeVersion i v = s.setProgram i { s.programs[i] with active := some v } := by
  simp only [State.storeVersion, h]

theorem State.storeVersion_opened {s : State} (h : s.updateHold = .opened) (i : ProgramId) (v : Version) :
    s.storeVersion i v = s.setProgram i { s.programs[i] with staged := some v } := by
  simp only [State.storeVersion, h]

/-- The unlock flag is neither read nor written by a store. -/
theorem State.storeVersion_closeUnlock (s : State) (i : ProgramId) (v : Version) :
    s.closeUnlock.storeVersion i v = (s.storeVersion i v).closeUnlock := by
  cases hold : s.updateHold with
  | closed => rw [State.storeVersion_closed hold, State.storeVersion_closed (s := s.closeUnlock) hold]; rfl
  | opened => rw [State.storeVersion_opened hold, State.storeVersion_opened (s := s.closeUnlock) hold]; rfl

/-! ### The request on a free link -/

/-- The length of a PROGRAM_WRITE by its pulse count (R161). -/
theorem programWriteLengthOk_of {p : List Byte} (hmin : 2 ≤ p.length) (hlen : p.length = 2 + 6 * u8 p 1) :
    programWriteLengthOk p = true := by
  simp only [programWriteLengthOk, Bool.and_eq_true, decide_eq_true_eq, beq_iff_eq]
  exact ⟨hmin, hlen⟩

section
variable {s : State} {p : List Byte} (hfree : LinkFree s) (hmin : 2 ≤ p.length) (hlen : p.length = 2 + 6 * u8 p 1) (tag : Byte)
include hfree hmin hlen

/-- A PROGRAM_WRITE that a check refuses changes nothing and names the failing item. -/
theorem exec_programWrite_refused {r : Reason} {a b : Byte} (h : writeCheck p = .error (r, a, b)) :
    exec (.programWrite tag p) s = .next (replied s 0xA0 tag [1, r.code, 0, 0, 0, 0, 0, 0, 0, a, b]) := by
  refine arrive_answer hfree (programWriteLengthOk_of hmin hlen) rfl ?_
  simp only [programWrite, h]
  rfl

/-- A PROGRAM_WRITE that passes the checks stores its version and names where it went. -/
theorem exec_programWrite_stored {i : ProgramId} {v : Version} (h : writeCheck p = .ok (i, v)) :
    exec (.programWrite tag p) s = .next (replied (s.storeVersion i v) 0xA0 tag
      (([0, 0, BitVec.ofNat 8 i.val, s.updateHold.code, BitVec.ofNat 8 v.pulses.length] : List Byte)
        ++ le4 v.programEnd ++ [0xFF, 0xFF])) := by
  refine arrive_answer hfree (programWriteLengthOk_of hmin hlen) rfl ?_
  simp only [programWrite, h, State.storeVersion_closeUnlock]
  rfl

end

/-- Settles O41: the stored version and each refusal by what the checks come to, in the order of the checks. -/
theorem programWriteStoresACheckedVersion : Obligations.ProgramWriteStoresACheckedVersion := by
  intro tag p s hfree hmin hlen
  refine ⟨fun i xs e hi hn hcount hcountMax hcarries hapart hend hmax => ?stored,
    fun h => exec_programWrite_refused hfree hmin hlen tag (writeCheck_header h),
    fun k hi hcountMax hk hbad hgood => ?pulse,
    fun xs a b x y hi hn hcountMax hcarries hab hx hy hxy hfirst => ?overlap⟩
  case stored =>
    have hcheck := writeCheck_ok hi (by omega) (hn ▸ pulsesAt_of_carriesPulses hcarries) (firstOverlap_eq_none hapart)
    rw [programEndOf_eq hend hmax] at hcheck
    have hexec := exec_programWrite_stored hfree hmin hlen tag hcheck
    refine ⟨fun hold => ?_, fun hold => ?_⟩
    · rw [State.storeVersion_closed hold, hold] at hexec; exact hexec
    · rw [State.storeVersion_opened hold, hold] at hexec; exact hexec
  case pulse =>
    exact exec_programWrite_refused hfree hmin hlen tag
      (writeCheck_pulse (i := ⟨u8 p 0, Nat.lt_succ_of_le hi⟩) rfl (by omega) (pulsesAt_of_badPulse hk hbad hgood))
  case overlap =>
    have hb : b < xs.length := (List.getElem?_eq_some_iff.mp hy).1
    exact exec_programWrite_refused hfree hmin hlen tag
      (writeCheck_overlap (i := ⟨u8 p 0, Nat.lt_succ_of_le hi⟩) rfl (by omega)
        (hn ▸ pulsesAt_of_carriesPulses hcarries) (firstOverlap_eq_some hab hx hy hxy hfirst))

end Sys2Proof.Machine

/-! SUPPORT. The fire attempt (R84 to R88): what the held check and the camera check look at, the starts a new run has at once,
the state a fire leaves, and the outcome of the attempt at each check. -/

namespace Sys2Proof.Machine

/-! ### The held check (R85) -/

theorem State.noneHeld_iff (s : State) (pulses : List Pulse) : s.noneHeld pulses = true ↔
    ¬ ∃ x ∈ pulses, ∃ n : SafeId, s.safes[n].hold = true ∧ s.safes[n].group.getLsbD x.output.val = true := by
  simp only [State.noneHeld, List.all_eq_true, Bool.not_eq_true', ← Bool.not_eq_true, State.outputHeld_iff, not_exists, not_and]

/-! ### The camera check (R87, R122) -/

/-- A camera has a smallest start exactly when a pulse names its output. -/
theorem firstStart_eq_none_iff (pulses : List Pulse) (c : CameraId) : firstStart pulses c = none ↔ trgPulses pulses c = [] := by
  rw [firstStart, List.min?_eq_none_iff, List.map_eq_nil_iff]

/-- The smallest start is far enough on when every start is. -/
theorem le_add_firstStart_iff {pulses : List Pulse} {c : CameraId} {first : Nat} (h : firstStart pulses c = some first)
    (interval elapsed : Nat) :
    interval ≤ elapsed + first ↔ ∀ y ∈ trgPulses pulses c, interval ≤ elapsed + y.start := by
  simp only [← Nat.sub_le_iff_le_add', List.le_min?_iff h, List.forall_mem_map]

/-- R122, over all the pulses on the camera's output: settled, no pulse within the retrigger interval, places for the demand. -/
def State.readyFor (s : State) (c : CameraId) (pulses : List Pulse) (burstCount : Nat) : Prop :=
  s.cameras[c].settle = 0 ∧
  (s.cameras[c].lastTrigger = none ∨
    ∀ y ∈ trgPulses pulses c, s.cameras[c].settings.minInterval ≤ s.cameras[c].elapsed + y.start) ∧
  (s.cameras[c].settings.confirm = false ∨
    (trgPulses pulses c).length * burstCount ≤ 8 - s.cameras[c].queue.length - s.reservedOn c)

theorem State.cameraReady_iff (s : State) {c : CameraId} {pulses : List Pulse} {first : Nat}
    (h : firstStart pulses c = some first) (burstCount : Nat) :
    s.cameraReady c (demandOn pulses burstCount c) first = true ↔ s.readyFor c pulses burstCount := by
  simp only [State.cameraReady, State.readyFor, Bool.and_eq_true, Bool.or_eq_true, beq_iff_eq, Option.isNone_iff_eq_none,
    decide_eq_true_eq, Bool.not_eq_true', le_add_firstStart_iff h, and_assoc]
  rfl

theorem State.camerasReady_iff (s : State) (pulses : List Pulse) (burstCount : Nat) :
    s.camerasReady pulses burstCount = true ↔
      ∀ c : CameraId, trgPulses pulses c ≠ [] → s.readyFor c pulses burstCount := by
  simp only [State.camerasReady, allCameras, List.all_eq_true, List.mem_finRange, true_imp_iff]
  refine forall_congr' fun c => ?_
  split
  next hnone => exact iff_of_true rfl fun htrg => absurd ((firstStart_eq_none_iff pulses c).mp hnone) htrg
  next first hfirst =>
    have htrg : trgPulses pulses c ≠ [] := fun hempty => by
      rw [(firstStart_eq_none_iff pulses c).mpr hempty] at hfirst; cases hfirst
    rw [s.cameraReady_iff hfirst]
    exact (imp_iff_right htrg).symm

/-! ### The fire (R88) -/

theorem Shot.burstCount_eq (sh : Shot) : sh.burstCount = match sh.burst with
    | some b => b.count
    | none => 1 := by
  unfold Shot.burstCount
  cases sh.burst <;> rfl

theorem Shot.burstGap_eq (sh : Shot) : sh.burstGap = match sh.burst with
    | some b => b.gap
    | none => 0 := by
  unfold Shot.burstGap
  cases sh.burst <;> rfl

/-- A fire reserves the demand on each confirming camera. -/
theorem State.reservations_getElem (s : State) (pulses : List Pulse) (burstCount : Nat) (c : CameraId) :
    (s.reservations pulses burstCount)[c] =
      if s.cameras[c].settings.confirm then (trgPulses pulses c).length * burstCount else 0 :=
  Vector.getElem_ofFn c.isLt

/-- At its fire a run starts the pulses of start 0. -/
theorem State.newRun_starting (s : State) (h : Handle) (sh : Shot) (v : Version) :
    (s.newRun h sh v).starting = v.pulses.zipIdx.filter (fun x => x.1.start = 0) := by
  refine List.filter_congr fun x _ => ?_
  have hstart : 0 = 0 * (v.programEnd + 2 * sh.burstGap) + 2 * x.1.start ↔ x.1.start = 0 := by omega
  exact decide_eq_decide.mpr hstart

/-- A fire fills the run slot, makes the shot FIRING and then starts the pulses of start 0. -/
theorem State.fire_eq {s : State} {h : Handle} {sh : Shot} (hshot : s.slots[h].shot = some sh) (k : RunSlotId) (v : Version) :
    s.fire k h sh v = (v.pulses.zipIdx.filter (fun x => x.1.start = 0)).foldl (State.startPulse k) { s with
      runs := s.runs.set k (some (s.newRun h sh v))
      slots := s.slots.set h ⟨s.slots[h].generation, some { sh with phase := .firing, fireTime := some s.timestamp,
                                                                    runSlot := some k }⟩ } := by
  rw [← s.newRun_starting h sh v]
  simp only [State.fire, State.mapShot, State.setRun_slots, hshot]
  rfl

/-! ### The outcome of the attempt at each check (R84) -/

theorem State.activeVersion_eq {s : State} {i : ProgramId} {v : Version} (h : s.programs[i].active = some v) :
    s.activeVersion i = v := by
  simp only [State.activeVersion, h, Option.getD_some]

section
variable {s : State} {h : Handle} {sh : Shot} {v : Version} (hshot : s.slots[h].shot = some sh)
  (hactive : s.programs[sh.program].active = some v)
include hshot hactive

theorem State.fireAttempt_blocked (hheld : ¬ s.noneHeld v.pulses = true) : s.fireAttempt h = s.endShot h .blocked := by
  simp only [State.fireAttempt, hshot, State.activeVersion_eq hactive, Bool.eq_false_of_not_eq_true hheld,
    Bool.not_false, if_true]

variable (hnone : s.noneHeld v.pulses = true)
include hnone

theorem State.fireAttempt_noEngine (hbusy : s.freeRunSlot = none) : s.fireAttempt h = s.endShot h .noEngine := by
  simp only [State.fireAttempt, hshot, State.activeVersion_eq hactive, hnone, Bool.not_true, Bool.false_eq_true, if_false, hbusy]

/-- With no output held and a run slot FREE, the cameras decide. -/
theorem State.fireAttempt_free {k : RunSlotId} (hfree : s.freeRunSlot = some k) : s.fireAttempt h =
    if s.camerasReady v.pulses sh.burstCount then s.fire k h sh v else s.endShot h .cameraBusy := by
  simp only [State.fireAttempt, hshot, State.activeVersion_eq hactive, hnone, Bool.not_true, Bool.false_eq_true, if_false, hfree]

end

/-- Settles O43: the outcome of the attempt by what each check looks at, in the order of the checks. -/
theorem fireAttemptChecksThenFires : Obligations.FireAttemptChecksThenFires := by
  intro h sh v s hshot hactive count gap held trg demand ready allReady
  have hcount : sh.burstCount = count := sh.burstCount_eq
  have hgap : sh.burstGap = gap := sh.burstGap_eq
  have hheld : s.noneHeld v.pulses = true ↔ ¬ held := s.noneHeld_iff v.pulses
  have hready : s.camerasReady v.pulses sh.burstCount = true ↔ allReady := hcount ▸ s.camerasReady_iff v.pulses sh.burstCount
  refine ⟨fun hblocked => ?blocked, fun hnone hbusy => ?noEngine, fun hnone k hfree hlower => ?slotFree⟩
  case blocked => exact State.fireAttempt_blocked hshot hactive fun hno => hheld.mp hno hblocked
  case noEngine => exact State.fireAttempt_noEngine hshot hactive (hheld.mpr hnone) (s.freeRunSlot_eq_none hbusy)
  case slotFree =>
    rw [State.fireAttempt_free hshot hactive (hheld.mpr hnone) (s.freeRunSlot_eq_some k hfree hlower)]
    refine ⟨fun hnot => if_neg (mt hready.mp hnot), fun hall => ?fires⟩
    rw [if_pos (hready.mpr hall), State.fire_eq hshot, State.newRun, hcount, hgap]
    exact ⟨s.reservations v.pulses count, s.reservations_getElem v.pulses count, rfl⟩

end Sys2Proof.Machine

/-! SUPPORT. An occurrence of an alarm's cause (R150) by the alarm's two flags and the places of the report queue (R163), and the
three requests on the alarm set (R151 to R153). -/

namespace Sys2Proof.Machine

/-! ### An occurrence of an alarm's cause -/

section
variable {s : State} {a : Alarm}

theorem State.latch_of_latched (h : s.alarms.isLatched a = true) : s.latch a = s := if_pos h

/-- With its report disabled a clear alarm latches and the link stands. -/
theorem State.latch_of_disabled (hclear : s.alarms.isLatched a = false) (hoff : s.alarms.isEnabled a = false) :
    s.latch a = s.setAlarms ⟨s.alarms.latched ||| a.mask, s.alarms.enabled⟩ := by
  simp only [State.latch, hclear, hoff, Bool.false_eq_true, if_false]

/-- In service the ALARM report of a clear alarm goes to the report queue. -/
theorem State.latch_of_enabled (hclear : s.alarms.isLatched a = false) (hon : s.alarms.isEnabled a = true)
    (hrun : s.phase = .running) :
    s.latch a = (s.setAlarms ⟨s.alarms.latched ||| a.mask, s.alarms.enabled⟩).setLink
      (s.link.queueReport (.alarm a (s.alarms.latched ||| a.mask))) := by
  simp only [State.latch, hclear, hon, Bool.false_eq_true, if_false, if_true, State.queueReport, State.setAlarms_phase, hrun]
  rfl

end

theorem Link.queueReport_of_room {x : Link} (h : x.reports.length < 8) (r : Report) :
    x.queueReport r = { x with reports := x.reports ++ [r] } := if_pos h

theorem Link.queueReport_of_full {x : Link} (h : 8 ≤ x.reports.length) (r : Report) : x.queueReport r = x :=
  if_neg (Nat.not_lt.mpr h)

/-- Settles O17: what the latched set becomes holds whatever the report does; the report by its flag and the room in the queue. -/
theorem alarmLatchesAndReports : Obligations.AlarmLatchesAndReports := by
  refine fun a s => ⟨State.latch_of_latched, fun hclear => ⟨?latches, fun b hne => ?others, State.latch_enabled s a,
    fun hoff => ?disabled, fun hon hrun => ?enabled⟩⟩
  case latches => simp only [State.latch_isLatched, decide_true, Bool.or_true]
  case others => simp only [State.latch_isLatched, hne.symm, decide_false, Bool.or_false]
  case disabled =>
    rw [State.latch_alarms_eq]
    exact State.latch_of_disabled hclear hoff
  case enabled =>
    rw [State.latch_alarms_eq, State.latch_of_enabled hclear hon hrun]
    refine ⟨fun hroom => ?queued, fun hfull => ?dropped⟩
    case queued => rw [Link.queueReport_of_room hroom]; rfl
    case dropped => rw [Link.queueReport_of_full hfull]; rfl

/-! ### The requests on the alarm set -/

/-- The two bytes of an alarm set field make a number of 16 bits. -/
theorem u16_lt (p : List Byte) (i : Nat) : u16 p i < 2 ^ 16 := by
  have hlow := u8_lt p i
  have hhigh := u8_lt p (i + 1)
  rw [u16]
  omega

/-- R152: an alarm is latched after a clear where it was latched and either was not named or is held. -/
theorem State.clearAlarms_isLatched_iff (s : State) (n : Nat) (a : Alarm) :
    (s.clearAlarms (BitVec.ofNat 16 n)).alarms.isLatched a = true ↔ s.alarms.isLatched a = true ∧
      (n.testBit a.number = false ∨ ∃ i : SafeId, a = .safe i ∧ s.safes[i].hold = true) := by
  have hbit := a.number_lt
  simp only [State.clearAlarms, State.setAlarms_alarms, AlarmSet.isLatched, BitVec.getLsbD_and, BitVec.getLsbD_or, BitVec.getLsbD_not,
    BitVec.getLsbD_ofNat, hbit, decide_true, Bool.true_and, Bool.and_eq_true, Bool.or_eq_true, Bool.not_eq_true',
    State.heldAlarms_bit]

/-- R153: what ALARM_REPORT_SET leaves and replies, its set written as the number of its field. -/
theorem alarmReportSet_eq (p : List Byte) (s : State) : alarmReportSet p s =
    ⟨s.setAlarms ⟨s.alarms.latched, BitVec.ofNat 16 (u16 p 0)⟩, okReply (le2 (u16 p 0) ++ le2 s.alarms.latched.toNat)⟩ := by
  simp only [alarmReportSet, State.setAlarms_alarms, BitVec.toNat_ofNat, Nat.mod_eq_of_lt (u16_lt p 0)]

section
variable {s : State} {p : List Byte} (hfree : LinkFree s) (tag : Byte)
include hfree

/-- ALARM_READ replies with both sets (R151). -/
theorem exec_alarmRead : exec (.alarmRead tag []) s =
    .next (replied s 0xC1 tag (okReply (le2 s.alarms.latched.toNat ++ le2 s.alarms.enabled.toNat))) :=
  arrive_answer hfree rfl rfl rfl

variable (hlen : p.length = 2)
include hlen

/-- ALARM_CLEAR clears what it may and replies with what stays latched (R152). -/
theorem exec_alarmClear : exec (.alarmClear tag p) s =
    .next (replied (s.clearAlarms (BitVec.ofNat 16 (u16 p 0))) 0xC2 tag
      (okReply (le2 (s.clearAlarms (BitVec.ofNat 16 (u16 p 0))).alarms.latched.toNat))) :=
  arrive_answer hfree (beq_iff_eq.mpr hlen) rfl rfl

/-- ALARM_REPORT_SET replaces the report-enabled set and replies with both sets (R153). -/
theorem exec_alarmReportSet : exec (.alarmReportSet tag p) s =
    .next (replied (s.setAlarms ⟨s.alarms.latched, BitVec.ofNat 16 (u16 p 0)⟩) 0xC3 tag
      (okReply (le2 (u16 p 0) ++ le2 s.alarms.latched.toNat))) :=
  arrive_answer hfree (beq_iff_eq.mpr hlen) rfl (alarmReportSet_eq p s.closeUnlock)

end

/-- Settles O18: ALARM_CLEAR by the set it leaves, of which each alarm is told by its bit; the two others by their answers. -/
theorem alarmRequests : Obligations.AlarmRequests :=
  ⟨fun tag _ hfree => exec_alarmRead hfree tag, fun tag p s hfree hlen =>
    ⟨⟨(s.clearAlarms (BitVec.ofNat 16 (u16 p 0))).alarms.latched, exec_alarmClear hfree tag hlen,
      s.clearAlarms_isLatched_iff (u16 p 0)⟩, exec_alarmReportSet hfree tag hlen⟩⟩

end Sys2Proof.Machine

/-! SUPPORT. STATUS and IDENT (R156, R168): the vectors of the state written out by their indices, as the statements count and list
them, and the two requests taken on a free link. -/

namespace Sys2Proof.Machine

/-! ### The vectors that STATUS reads, by index -/

/-- A vector's entries are what stands at each index, in order. -/
theorem vector_toList_eq_map_finRange {α : Type} {n : Nat} (v : Vector α n) : v.toList = (List.finRange n).map (v[·]) :=
  List.ext_getElem (by simp) (by simp)

/-- The entries of a vector that meet a condition are as many as the indices where one stands. -/
theorem vector_countP_toList {α : Type} {n : Nat} (v : Vector α n) (cond : α → Bool) :
    v.toList.countP cond = (List.finRange n).countP (fun i => cond v[i]) := by
  rw [vector_toList_eq_map_finRange, List.countP_map]; rfl

theorem State.freeSlots_eq (s : State) : s.freeSlots = allHandles.countP (fun h => (s.slots[h].shot).isNone) :=
  vector_countP_toList s.slots _

theorem State.busyRuns_eq (s : State) : s.busyRuns = allRunSlots.countP (fun k => (s.runs[k]).isSome) :=
  vector_countP_toList s.runs _

theorem State.laneCodes_eq (s : State) : s.lanes.toList.map (fun x => x.state.code) =
    [s.lanes[0].state.code, s.lanes[1].state.code, s.lanes[2].state.code, s.lanes[3].state.code] := by
  rw [vector_toList_eq_map_finRange]; rfl

/-! ### The two requests on a free link -/

/-- What STATUS replies after the status and reason bytes (R156). -/
def State.statusBytes (s : State) : List Byte :=
  [s.lanes[0].state.code, s.lanes[1].state.code, s.lanes[2].state.code, s.lanes[3].state.code]
    ++ le2 (allHandles.countP (fun h => (s.slots[h].shot).isNone)) ++ le1 (allRunSlots.countP (fun k => (s.runs[k]).isSome))
    ++ le1 s.outcomes.length ++ le2 s.alarms.latched.toNat ++ [s.updateHold.code]

/-- R156. -/
theorem status_eq (s : State) : status s = ⟨s, okReply s.statusBytes⟩ := by
  rw [status, State.laneCodes_eq, State.freeSlots_eq, State.busyRuns_eq, State.statusBytes]

section
variable {s : State} (hfree : LinkFree s) (tag : Byte)
include hfree

theorem exec_status : exec (.status tag []) s = .next (replied s 0x82 tag (okReply s.statusBytes)) :=
  arrive_answer hfree rfl rfl (status_eq s.closeUnlock)

theorem exec_ident : exec (.ident tag []) s = .next (replied s 0x81 tag (okReply identBytes)) :=
  arrive_answer hfree rfl rfl rfl

end

/-- Settles O21: each request by its answer, which leaves the state it is given; the model's walk over the vectors of the state and
the statement's walk over the indices meet in `status_eq`. -/
theorem statusAndIdentReply : Obligations.StatusAndIdentReply :=
  fun tag _ hfree => ⟨exec_status hfree tag, exec_ident hfree tag⟩

end Sys2Proof.Machine

/-! SUPPORT. Reading one unit of the state after one of its kind has been written. -/

namespace Sys2Proof.Machine

theorem vector_getElem_set {α : Type} {n : Nat} (v : Vector α n) (i j : Fin n) (x : α) :
    (v.set i x)[j] = if i = j then x else v[j] := by
  simp only [Fin.getElem_fin, Vector.getElem_set, Fin.val_inj]

theorem State.setEncoder_at (s : State) (n m : EncoderId) (x : Encoder) :
    (s.setEncoder n x).encoders[m] = if n = m then x else s.encoders[m] := vector_getElem_set ..

theorem State.setPacer_at (s : State) (n m : PacerId) (x : Pacer) :
    (s.setPacer n x).pacers[m] = if n = m then x else s.pacers[m] := vector_getElem_set ..

theorem State.setLane_at (s : State) (l m : LaneId) (x : Lane) :
    (s.setLane l x).lanes[m] = if l = m then x else s.lanes[m] := vector_getElem_set ..

theorem State.setSlot_at (s : State) (h j : Handle) (x : Slot) :
    (s.setSlot h x).slots[j] = if h = j then x else s.slots[j] := vector_getElem_set ..

theorem State.setProgram_at (s : State) (i j : ProgramId) (x : Program) :
    (s.setProgram i x).programs[j] = if i = j then x else s.programs[j] := vector_getElem_set ..

theorem State.setRun_at (s : State) (k j : RunSlotId) (x : Option Run) :
    (s.setRun k x).runs[j] = if k = j then x else s.runs[j] := vector_getElem_set ..

theorem State.setOutput_at (s : State) (o p : OutputId) (x : Output) :
    (s.setOutput o x).outputs[p] = if o = p then x else s.outputs[p] := vector_getElem_set ..

theorem State.setCamera_at (s : State) (c d : CameraId) (x : Camera) :
    (s.setCamera c x).cameras[d] = if c = d then x else s.cameras[d] := vector_getElem_set ..

theorem State.setSafe_at (s : State) (n m : SafeId) (x : SafeInput) :
    (s.setSafe n x).safes[m] = if n = m then x else s.safes[m] := vector_getElem_set ..

/-- The shot of a slot after a change of one shot. -/
theorem State.mapShot_at (s : State) (h j : Handle) (f : Shot → Shot) :
    (s.mapShot h f).slots[j].shot = if h = j then s.slots[j].shot.map f else s.slots[j].shot := by
  rw [State.mapShot, State.setSlot_at]
  split
  · rename_i hj; subst hj; rfl
  · rfl

/-- A shot that ends frees its slot and no other; a FREE slot stays so. -/
theorem State.endShot_at (s : State) (h j : Handle) (code : OutcomeCode) :
    (s.endShot h code).slots[j].shot = if h = j then none else s.slots[j].shot := by
  unfold State.endShot
  split
  · rename_i hfree
    split
    · rename_i hj; subst hj; exact hfree
    · rfl
  · rw [State.appendOutcome_slots, State.setSlot_at]
    split <;> rfl

end Sys2Proof.Machine

/-! SUPPORT. What a step can do, said once: a request command is the arrival of its frame; the rule of a request makes a few moves
(RequestMove) and queues one reply, but for an accepted RESET; and a property that these moves and the part's own events keep
(OwnKept, Kept) is kept by every step. The statements on what every step keeps are settled with it. -/

namespace Sys2Proof.Machine

/-! ### A request command is the arrival of its frame -/

/-- The command of a request and the KIND of its frame choose the same rule (Table 11-12). -/
theorem exec_request {i : Instr} {f : Frame} (h : requestFrame i = some f) (s : State) : exec i s = arrive f (takeFrame f) s := by
  cases i <;> simp only [requestFrame, fixedRequest, Option.map_some, Option.map_none, Option.some.injEq, reduceCtorEq] at h <;>
    subst h <;> rfl

/-! ### The moves of the requests' rules -/

/-- What a lane request does to lane `l`, which becomes `x`: the queue stays; outside OFF mark and settings stay, and in OFF the
settings stay in range; no lane enters OFF (LANE_DISARM apart); and a held lane that is stopped stays so (R19, R26 to R28). -/
structure LaneMove (s : State) (l : LaneId) (x : Lane) : Prop where
  queue : x.queue = s.lanes[l].queue
  waiting : s.lanes[l].state ≠ .off → x.settings = s.lanes[l].settings ∧ x.mark = s.lanes[l].mark
  ranges : x.settings = s.lanes[l].settings ∨ x.settings.inRange
  off : x.state = .off → s.lanes[l].state = .off
  held : s.laneHeld l = true → s.lanes[l].state = .off ∨ s.lanes[l].state = .halted → x.state = .off ∨ x.state = .halted

/-- What a camera request does to camera `c`, which becomes `x`: the queue stays, and settings are written only while it is empty,
with the window in its range (R130, R131). -/
structure CameraMove (s : State) (c : CameraId) (x : Camera) : Prop where
  queue : x.queue = s.cameras[c].queue
  settings : x.settings = s.cameras[c].settings ∨
    s.cameras[c].queue = [] ∧ 1 ≤ x.settings.window ∧ x.settings.window ≤ 16777216

/-- One move of a request's rule: what it can do to the blocks, with what its checks have shown. -/
inductive RequestMove (s : State) : State → Prop
  | unlocked : RequestMove s { s with unlock := true }
  | encoder (n : EncoderId) (x : Encoder) : RequestMove s (s.setEncoder n x)
  | pacerWritten (n : PacerId) (interval : Nat) (preset : Option Position) (h : 1 ≤ interval) :
      RequestMove s (s.setPacer n (s.pacers[n].written interval preset))
  | pacerCommanded (n : PacerId) (run : Bool) : RequestMove s (s.setPacer n (s.pacers[n].command run s.timestamp))
  | lane (l : LaneId) (x : Lane) (h : LaneMove s l x) : RequestMove s (s.setLane l x)
  | disarmed (l : LaneId) : RequestMove s (s.disarm l)
  | admitted {l : LaneId} {rel : Bool} {e : Entry} {trigger : Position} {i : ProgramId} {h : Handle}
      (ok : s.checkEntry l rel e trigger = .ok (i, h)) : RequestMove s (s.admitEntry l e trigger i h)
  | cancelled {h : Handle} {sh : Shot} (waits : s.queuedShot h = some sh) : RequestMove s (s.cancelShot h sh)
  | amended {a : AmendSet} (passes : s.amendCheck a = none) : RequestMove s (s.amendShot a)
  | stored (i : ProgramId) {v : Version} (sound : v.sound) : RequestMove s (s.storeVersion i v)
  | cleared {i : ProgramId} (unused : s.programs[i].refCount = 0) :
      RequestMove s (s.setProgram i { s.programs[i] with active := none })
  | holdOpened : RequestMove s { s with updateHold := .opened }
  | holdReleased : RequestMove s { s with programs := s.programs.map Program.released, updateHold := .closed }
  | holdDiscarded : RequestMove s { s with programs := s.programs.map Program.discarded, updateHold := .closed }
  | outputWritten (o : OutputId) (pol : Polarity) (mode : OutputMode) : RequestMove s (s.writeOutput o pol mode)
  | outputDriven {o : OutputId} {level : DriveLevel} (static : s.outputs[o].mode ≠ .pulseMode)
      (free : level = .active → s.outputHeld o = false) : RequestMove s (s.setOutput o { s.outputs[o] with level := level })
  | outputsProtected (set : Nat) (flag : Bool) : RequestMove s (s.protectOutputs set flag)
  | camera {c : CameraId} {x : Camera} (h : CameraMove s c x) : RequestMove s (s.setCamera c x)
  | safeInstalled (n : SafeId) (d : Detection) (g : BitVec 12) (b : BitVec 4) : RequestMove s (s.installSafe n d g b)
  | safeReleased (n : SafeId) : RequestMove s (s.setSafe n { s.safes[n] with hold := false })
  | outcomesFetched (n : Nat) : RequestMove s (s.setOutcomes (s.outcomes.drop n))
  | alarmsCleared (set : BitVec 16) : RequestMove s (s.clearAlarms set)
  | reportsEnabled (set : BitVec 16) : RequestMove s (s.setAlarms { s.alarms with enabled := set })

/-- The moves of a request's rule, one after another. -/
abbrev RequestMoves : State → State → Prop := Relation.ReflTransGen RequestMove

theorem RequestMoves.none (s : State) : RequestMoves s s := .refl

theorem RequestMove.moves {s t : State} (h : RequestMove s t) : RequestMoves s t := .single h

/-- No rule of a request but RESET's leaves service. -/
theorem RequestMove.phase_eq {s t : State} (h : RequestMove s t) : t.phase = s.phase := by
  cases h with
  | _ => simp

/-- No rule of a request looks at the replies that wait. -/
theorem RequestMove.replies_eq {s t : State} (h : RequestMove s t) : t.link.replies = s.link.replies := by
  cases h with
  | _ => simp

/-! ### Which moves each rule makes -/

theorem encoderSet_moves (p : List Byte) (s : State) : RequestMoves s (encoderSet p s).state := by
  unfold encoderSet
  split
  · split
    · exact .none s
    · exact (RequestMove.encoder _ _).moves
  · exact .none s

theorem encoderRead_moves (p : List Byte) (s : State) : RequestMoves s (encoderRead p s).state := by
  unfold encoderRead
  split
  · exact .none s
  · dsimp only
    split
    · exact (RequestMove.encoder _ _).moves
    · exact .none s

theorem pacerSet_moves (p : List Byte) (s : State) : RequestMoves s (pacerSet p s).state := by
  unfold pacerSet
  split
  · exact .none s
  · dsimp only
    split
    · exact .none s
    · split
      · exact .none s
      · exact (RequestMove.pacerWritten _ _ _ (by omega)).moves

theorem pacerRun_moves (p : List Byte) (s : State) : RequestMoves s (pacerRun p s).state := by
  unfold pacerRun
  split
  · exact (RequestMove.pacerCommanded _ _).moves
  · exact .none s

theorem pacerRead_moves (p : List Byte) (s : State) : RequestMoves s (pacerRead p s).state := by
  unfold pacerRead
  split <;> exact .none s

/-- The settings a LANE_SET carries are in their ranges (Table 2-1). -/
theorem laneSettingsAt_inRange {p : List Byte} {c : LaneSettings} (h : laneSettingsAt p = some c) : c.inRange := by
  unfold laneSettingsAt at h
  split at h
  · dsimp only at h
    split at h
    · obtain rfl := Option.some.inj h
      rename_i hrange
      exact hrange
    · exact absurd h (by simp)
  · exact absurd h (by simp)

theorem laneSet_moves (p : List Byte) (s : State) : RequestMoves s (laneSet p s).state := by
  unfold laneSet
  split
  · rename_i l c _ hc
    split
    · rename_i hoff
      exact (RequestMove.lane l { s.lanes[l] with settings := c }
        ⟨rfl, fun h => absurd hoff h, .inr (laneSettingsAt_inRange hc), id, fun _ => id⟩).moves
    · exact .none s
  · exact .none s

theorem laneBecomes_moves {s : State} {l : LaneId} {x : Lane} (h : LaneMove s l x) : RequestMoves s (laneBecomes s l x).state :=
  (RequestMove.lane l x h).moves

/-- An ARMED or PAUSED lane is not stopped, so a hold on it binds nothing. -/
theorem not_stopped {x : LaneState} (h : x = .armed ∨ x = .paused) : ¬ (x = .off ∨ x = .halted) := by
  rcases h with rfl | rfl <;> simp

theorem laneArm_moves (p : List Byte) (s : State) : RequestMoves s (laneArm p s).state := by
  unfold laneArm
  split
  · exact .none s
  · dsimp only
    split
    · rename_i hoff
      split
      · exact .none s
      · rename_i hfree
        exact laneBecomes_moves ⟨rfl, fun h => absurd hoff h, .inl rfl, nofun, fun h => absurd h hfree⟩
    · rename_i hpaused
      exact laneBecomes_moves ⟨rfl, fun _ => ⟨rfl, rfl⟩, .inl rfl, nofun, fun _ h => absurd h (not_stopped (.inr hpaused))⟩
    · exact laneBecomes_moves ⟨rfl, fun _ => ⟨rfl, rfl⟩, .inl rfl, id, fun _ => id⟩
    · exact .none s

theorem lanePause_moves (p : List Byte) (s : State) : RequestMoves s (lanePause p s).state := by
  unfold lanePause
  split
  · exact .none s
  · dsimp only
    split
    · rename_i harmed
      exact laneBecomes_moves ⟨rfl, fun _ => ⟨rfl, rfl⟩, .inl rfl, nofun, fun _ h => absurd h (not_stopped (.inl harmed))⟩
    · exact laneBecomes_moves ⟨rfl, fun _ => ⟨rfl, rfl⟩, .inl rfl, id, fun _ => id⟩
    · exact .none s
    · exact .none s

theorem laneResume_moves (p : List Byte) (s : State) : RequestMoves s (laneResume p s).state := by
  unfold laneResume
  split
  · exact .none s
  · dsimp only
    split
    · split
      · exact .none s
      · rename_i hfree
        exact laneBecomes_moves ⟨rfl, fun _ => ⟨rfl, rfl⟩, .inl rfl, nofun, fun h => absurd h hfree⟩
    all_goals exact .none s

theorem laneDisarm_moves (p : List Byte) (s : State) : RequestMoves s (laneDisarm p s).state := by
  unfold laneDisarm
  split
  · exact .none s
  · exact (RequestMove.disarmed _).moves

theorem laneRead_moves (p : List Byte) (s : State) : RequestMoves s (laneRead p s).state := by
  unfold laneRead
  split <;> exact .none s

/-- The entries of a batch are admitted one at a time (R40). -/
theorem State.admitAll_moves (l : LaneId) (rel : Bool) (es : List Entry) (base : Position) (s : State) :
    RequestMoves s (s.admitAll l rel base es).state := by
  induction es generalizing base s with
  | nil => exact .none s
  | cons e rest ih =>
    cases hcheck : s.checkEntry l rel e (e.trigger rel base) with
    | error r => rw [State.admitAll_refused rest hcheck]
    | ok x => rw [State.admitAll_admitted rest hcheck]; exact .head (.admitted hcheck) (ih _ _)

theorem submit_moves (p : List Byte) (s : State) : RequestMoves s (submit p s).state := by
  unfold submit
  dsimp only
  split
  · split
    · exact .none s
    · exact State.admitAll_moves _ _ _ _ s
  · exact .none s

theorem cancel_moves (p : List Byte) (s : State) : RequestMoves s (cancel p s).state := by
  unfold cancel
  dsimp only
  split
  · exact .none s
  · rename_i hwaits
    split
    · exact (RequestMove.cancelled hwaits).moves
    · exact .none s

theorem amend_moves (p : List Byte) (s : State) : RequestMoves s (amend p s).state := by
  unfold amend
  dsimp only
  split
  · exact .none s
  · exact (RequestMove.amended ‹_›).moves

/-- The checks of an amend look at its own slot and at which programs are DEFINED, which the amend of another slot leaves alone. -/
theorem State.amendCheck_amendShot {s : State} {a b : AmendSet} (h : a.handle ≠ b.handle) :
    (s.amendShot a).amendCheck b = s.amendCheck b := by
  have hslot : (s.amendShot a).slots[b.handle] = s.slots[b.handle] := by
    unfold State.amendShot
    split
    · rfl
    · simp [State.setSlot, Fin.val_inj, h, State.moveRef_slots]
  have hdefined : (s.amendShot a).definedProgram b.program = s.definedProgram b.program := by
    have hactive (i : ProgramId) : (s.amendShot a).programs[i].active = s.programs[i].active := by
      unfold State.amendShot
      split
      · rfl
      · exact State.moveRef_active ..
    simp only [State.definedProgram, hactive]
  simp only [State.amendCheck, State.queuedShot, hslot, hdefined]

theorem amendPair_moves (p : List Byte) (s : State) : RequestMoves s (amendPair p s).state := by
  unfold amendPair
  dsimp only
  split
  · exact .none s
  · rename_i hpair
    unfold State.pairCheck at hpair
    split at hpair
    · exact absurd hpair (by simp)
    · rename_i hdistinct
      split at hpair
      · exact absurd hpair (by simp)
      · rename_i hfirst
        have hsecond := Option.map_eq_none_iff.mp hpair
        exact .head (.amended hfirst) (RequestMove.amended (by rwa [State.amendCheck_amendShot hdistinct])).moves

/-- A stored version has passed the checks (R68 to R70). -/
theorem pulseAt_inRange {p : List Byte} {k : Nat} {x : Pulse} (h : pulseAt p k = some x) :
    x.start ≤ 65534 ∧ 1 ≤ x.width ∧ x.start + x.width ≤ 65535 := by
  unfold pulseAt at h
  dsimp only at h
  split at h
  · exact absurd h (by simp)
  · split at h
    · obtain rfl := Option.some.inj h
      rename_i hranges
      exact ⟨hranges.1, hranges.2.1, hranges.2.2.1⟩
    · exact absurd h (by simp)

theorem pulsesAt_inRange {p : List Byte} {k m : Nat} {xs : List Pulse} (h : pulsesAt p k m = .ok xs) :
    xs.length = m ∧ ∀ x ∈ xs, x.start ≤ 65534 ∧ 1 ≤ x.width ∧ x.start + x.width ≤ 65535 := by
  induction m generalizing k xs with
  | zero => cases h; exact ⟨rfl, nofun⟩
  | succ m ih =>
    rw [pulsesAt] at h
    split at h
    · cases h
    · split at h
      · cases h
      · cases h
        obtain ⟨hlength, hrest⟩ := ih ‹_›
        exact ⟨congrArg (· + 1) hlength, List.forall_mem_cons.mpr ⟨pulseAt_inRange ‹_›, hrest⟩⟩

/-- Where no overlapping pair is found, no two pulses overlap (R69). -/
theorem pairwise_of_firstOverlap {before xs : List Pulse} (hbefore : before.Pairwise (fun x y => x.overlaps y = false))
    (h : firstOverlap before xs = none) : (before ++ xs).Pairwise (fun x y => x.overlaps y = false) := by
  induction xs generalizing before with
  | nil => rwa [List.append_nil]
  | cons x rest ih =>
    rw [firstOverlap] at h
    split at h
    · cases h
    · rename_i hnone
      rw [overlapBefore, Option.map_eq_none_iff, List.findIdx?_eq_none_iff] at hnone
      rw [List.append_cons]
      refine ih (List.pairwise_append.mpr ⟨hbefore, List.pairwise_singleton _ _, fun y hy z hz => ?_⟩) h
      rw [List.mem_singleton.mp hz]
      exact hnone y hy

/-- The program end is the end of one of the pulses (R68). -/
theorem programEndOf_mem {xs : List Pulse} (h : xs ≠ []) : ∃ x ∈ xs, programEndOf xs = x.ends := by
  obtain ⟨x, hx, hmax⟩ := xs.toFinset.exists_max_image Pulse.ends (List.toFinset_nonempty_iff xs |>.mpr h)
  have hmem := List.mem_toFinset.mp hx
  exact ⟨x, hmem, programEndOf_eq ⟨x, hmem, rfl⟩ fun y hy => hmax y (List.mem_toFinset.mpr hy)⟩

theorem writeCheck_sound {p : List Byte} {i : ProgramId} {v : Version} (h : writeCheck p = .ok (i, v)) : v.sound := by
  unfold writeCheck at h
  dsimp only at h
  split at h
  · cases h
  · split at h
    · cases h
    · rename_i hcount
      split at h
      · cases h
      · rename_i xs hpulses
        split at h
        · cases h
        · rename_i hapart
          cases h
          obtain ⟨hlength, hranges⟩ := pulsesAt_inRange hpulses
          refine ⟨by dsimp only; omega, by dsimp only; omega, hranges, pairwise_of_firstOverlap .nil hapart, programEndOf_mem ?_,
            (programEndOf_le_iff xs _).mp le_rfl⟩
          rintro rfl
          exact hcount (.inl hlength.symm)

theorem programWrite_moves (p : List Byte) (s : State) : RequestMoves s (programWrite p s).state := by
  unfold programWrite
  split
  · exact .none s
  · rename_i hok
    exact (RequestMove.stored _ (writeCheck_sound hok)).moves

theorem programRead_moves (p : List Byte) (s : State) : RequestMoves s (programRead p s).state := by
  unfold programRead
  split <;> exact .none s

theorem programClear_moves (p : List Byte) (s : State) : RequestMoves s (programClear p s).state := by
  unfold programClear
  split
  · exact .none s
  · dsimp only
    split
    · exact .none s
    · split
      · exact .none s
      · exact (RequestMove.cleared (by omega)).moves

theorem holdOpen_moves (s : State) : RequestMoves s (holdOpen s).state := by
  unfold holdOpen
  split
  · exact RequestMove.holdOpened.moves
  · exact .none s

theorem holdRelease_moves (s : State) : RequestMoves s (holdRelease s).state := by
  unfold holdRelease
  split
  · exact .none s
  · exact RequestMove.holdReleased.moves

theorem holdDiscard_moves (s : State) : RequestMoves s (holdDiscard s).state := by
  unfold holdDiscard
  split
  · exact .none s
  · exact RequestMove.holdDiscarded.moves

theorem outputSet_moves (p : List Byte) (s : State) : RequestMoves s (outputSet p s).state := by
  unfold outputSet
  split
  · split
    · exact .none s
    · exact (RequestMove.outputWritten _ _ _).moves
  · exact .none s

theorem outputDrive_moves (p : List Byte) (s : State) : RequestMoves s (outputDrive p s).state := by
  unfold outputDrive
  split
  · dsimp only
    split
    · exact .none s
    · split
      · exact .none s
      · split
        · exact .none s
        · rename_i hstatic hfree
          refine (RequestMove.outputDriven hstatic fun hactive => ?_).moves
          simpa [hactive] using hfree
  · exact .none s

theorem outputProtect_moves (p : List Byte) (s : State) : RequestMoves s (outputProtect p s).state := by
  unfold outputProtect
  dsimp only
  split
  · exact .none s
  · split
    · exact .none s
    · exact (RequestMove.outputsProtected _ _).moves

/-- The window a CAMERA_SET carries is in its range (Table 8-1). -/
theorem cameraSettingsAt_window {p : List Byte} {x : CameraSettings} (h : cameraSettingsAt p = some x) :
    1 ≤ x.window ∧ x.window ≤ 16777216 := by
  unfold cameraSettingsAt at h
  dsimp only at h
  split at h
  · split at h
    · cases h
    · split at h
      · cases h
      · rename_i hrange _
        cases h
        simp only [Config.longSpan, not_or] at hrange
        dsimp only
        omega
  · cases h

theorem cameraSet_moves (p : List Byte) (s : State) : RequestMoves s (cameraSet p s).state := by
  unfold cameraSet
  split
  · rename_i c x _ hx
    split
    · exact .none s
    · rename_i hpending
      have hempty : s.cameras[c].queue = [] := by
        simp only [State.cameraPending, Bool.or_eq_true, not_or] at hpending
        simpa using hpending.1
      exact (RequestMove.camera (x := { s.cameras[c] with settings := x })
        ⟨rfl, .inr ⟨hempty, cameraSettingsAt_window hx⟩⟩).moves
  · exact .none s

theorem cameraSettle_moves (p : List Byte) (s : State) : RequestMoves s (cameraSettle p s).state := by
  unfold cameraSettle
  split
  · exact .none s
  · rename_i c _
    dsimp only
    split
    · exact .none s
    · split
      · exact .none s
      · exact (RequestMove.camera (x := { s.cameras[c] with settle := u8 p 1 }) ⟨rfl, .inl rfl⟩).moves

theorem cameraRead_moves (p : List Byte) (s : State) : RequestMoves s (cameraRead p s).state := by
  unfold cameraRead
  split <;> exact .none s

theorem safeSet_moves (noted : Bool) (p : List Byte) (s : State) : RequestMoves s (safeSet noted p s).state := by
  unfold safeSet
  split
  · split
    · exact (RequestMove.safeInstalled _ _ _ _).moves
    · exact .none s
  · exact .none s

theorem safeRelease_moves (p : List Byte) (s : State) : RequestMoves s (safeRelease p s).state := by
  unfold safeRelease
  split
  · exact .none s
  · dsimp only
    split
    · exact .none s
    · exact (RequestMove.safeReleased _).moves

theorem outcomeFetch_moves (p : List Byte) (s : State) : RequestMoves s (outcomeFetch p s).state := by
  unfold outcomeFetch
  dsimp only
  split
  · exact .none s
  · exact (RequestMove.outcomesFetched _).moves

/-! ### The taking of a frame -/

/-- A request of a known KIND ends with the moves of its rule and one reply, refused BAD_LENGTH without a move. -/
theorem takeRequest_moves {body : Bool → State → Answer} (h : ∀ noted t, RequestMoves t (body noted t).state) (kind tag : Byte)
    (lengthOk : Bool) (s : State) :
    ∃ u r, RequestMoves s.closeUnlock u ∧ takeRequest kind tag lengthOk body s = u.queueReply kind tag r := by
  unfold takeRequest
  dsimp only
  split
  · exact ⟨_, _, h _ _, rfl⟩
  · exact ⟨_, _, .none _, rfl⟩

/-- What the taking of a frame comes to: the warm reset, or the moves of a request's rule and one reply. -/
theorem takeFrame_moves (f : Frame) (s : State) :
    takeFrame f s = s.closeUnlock.warmReset ∨
      ∃ u kind r, RequestMoves s.closeUnlock u ∧ takeFrame f s = u.queueReply kind f.tag r := by
  have rule {kind : Byte} {lengthOk : Bool} {body : Bool → State → Answer} (h : ∀ noted t, RequestMoves t (body noted t).state) :
      takeRequest kind f.tag lengthOk body s = s.closeUnlock.warmReset ∨
        ∃ u k r, RequestMoves s.closeUnlock u ∧ takeRequest kind f.tag lengthOk body s = u.queueReply k f.tag r := by
    obtain ⟨u, r, hmoves, heq⟩ := takeRequest_moves h kind f.tag lengthOk s
    exact .inr ⟨u, kind, r, hmoves, heq⟩
  unfold takeFrame
  split
  · exact rule fun _ t => .none t
  · exact rule fun _ t => .none t
  · unfold takeReset
    split
    · exact .inl rfl
    · exact .inr ⟨_, _, _, .none _, rfl⟩
  · exact rule fun _ => encoderSet_moves _
  · exact rule fun _ => encoderRead_moves _
  · exact rule fun _ => pacerSet_moves _
  · exact rule fun _ => pacerRun_moves _
  · exact rule fun _ => pacerRead_moves _
  · exact rule fun _ => laneSet_moves _
  · exact rule fun _ => laneArm_moves _
  · exact rule fun _ => lanePause_moves _
  · exact rule fun _ => laneResume_moves _
  · exact rule fun _ => laneDisarm_moves _
  · exact rule fun _ => laneRead_moves _
  · exact rule fun _ => submit_moves _
  · exact rule fun _ => cancel_moves _
  · exact rule fun _ t => .none t
  · exact rule fun _ => amend_moves _
  · exact rule fun _ => amendPair_moves _
  · exact rule fun _ => programWrite_moves _
  · exact rule fun _ => programRead_moves _
  · exact rule fun _ => programClear_moves _
  · exact rule fun _ => holdOpen_moves
  · exact rule fun _ => holdRelease_moves
  · exact rule fun _ => holdDiscard_moves
  · exact rule fun _ => outputSet_moves _
  · exact rule fun _ => outputDrive_moves _
  · exact rule fun _ => outputProtect_moves _
  · exact rule fun _ t => .none t
  · exact rule fun _ => cameraSet_moves _
  · exact rule fun _ => cameraSettle_moves _
  · exact rule fun _ => cameraRead_moves _
  · exact rule fun _ t => RequestMove.unlocked.moves
  · exact rule fun noted => safeSet_moves noted _
  · exact rule fun _ => safeRelease_moves _
  · exact rule fun _ t => .none t
  · exact rule fun _ => outcomeFetch_moves _
  · exact rule fun _ t => .none t
  · exact rule fun _ t => (RequestMove.alarmsCleared _).moves
  · exact rule fun _ t => (RequestMove.reportsEnabled _).moves
  · exact .inr ⟨_, _, _, .none _, rfl⟩

end Sys2Proof.Machine

namespace Sys2Proof.Machine

/-! ### A property that every step keeps -/

/-- The two states differ at most in what no property of the blocks looks at: the link, the outcomes, the encoders, the unlock flag,
the timers of a reset, the model's own fields; and no SAFE alarm is lost whose hold is ON. -/
structure SameBlocks (s t : State) : Prop where
  phase : t.phase = .coldReset → s.phase = .coldReset
  timestamp : t.timestamp = s.timestamp
  halfTick : t.halfTick = s.halfTick
  pacers : t.pacers = s.pacers
  lanes : t.lanes = s.lanes
  slots : t.slots = s.slots
  programs : t.programs = s.programs
  updateHold : t.updateHold = s.updateHold
  runs : t.runs = s.runs
  outputs : t.outputs = s.outputs
  cameras : t.cameras = s.cameras
  safes : t.safes = s.safes
  alarms : ∀ n : SafeId, s.safes[n].hold = true → s.alarms.isLatched (.safe n) = true → t.alarms.isLatched (.safe n) = true

/-- A move beside the blocks: of the link, of the alarm set, of an encoder, of the unlock flag, or of the model's own fields. -/
inductive AsideMove (s : State) : State → Prop
  | receiver {x : Link} (buffer : x.rxBuffer = s.link.rxBuffer) (replies : x.replies = s.link.replies)
      (reports : x.reports = s.link.reports) : AsideMove s (s.setLink x)
  | transmitter : AsideMove s s.beginTx
  | reply {kind tag : Byte} {r : List Byte} (room : s.link.replies.length < 4) : AsideMove s (s.queueReply kind tag r)
  | buffered {f : Frame} (room : s.link.rxBuffer.length < 4) :
      AsideMove s (s.setLink { s.link with rxBuffer := s.link.rxBuffer ++ [f] })
  | taken {f : Frame} {rest : List Frame} (oldest : s.link.rxBuffer = f :: rest) :
      AsideMove s (s.setLink { s.link with rxBuffer := rest })
  | latched {a : Alarm} : AsideMove s (s.latch a)
  | encoder {n : EncoderId} {x : Encoder} : AsideMove s (s.setEncoder n x)
  | started {c : StartCause} : AsideMove s (s.begun c)
  | closed : AsideMove s s.closeUnlock
  | chosen {n : Nat} : AsideMove s (s.chosen n)
  | pending {rest : List Instr} : AsideMove s { s with pending := rest }

theorem AsideMove.same {s t : State} (h : AsideMove s t) : SameBlocks s t := by
  cases h with
  | started => exact ⟨nofun, rfl, rfl, rfl, rfl, rfl, rfl, rfl, rfl, rfl, rfl, rfl, fun _ _ => id⟩
  | latched => constructor <;> simp +contextual
  | chosen => unfold State.chosen; split <;> exact ⟨id, rfl, rfl, rfl, rfl, rfl, rfl, rfl, rfl, rfl, rfl, rfl, fun _ _ => id⟩
  | _ => exact ⟨id, rfl, rfl, rfl, rfl, rfl, rfl, rfl, rfl, rfl, rfl, rfl, fun _ _ => id⟩

/-- What the part's own events and the requests keep: the moves of the requests' rules, the events of chapters 1, 6, 8 and 9, the
passing of half a tick, and the warm reset. -/
structure OwnKept (P : State → Prop) : Prop where
  aside {s t : State} (move : AsideMove s t) : P s → P t
  request {s t : State} (running : s.phase = .running) (move : RequestMove s t) : P s → P t
  count {s : State} (src : Source) (up : Bool) (whole : s.halfTick = false) (awake : s.phase ≠ .coldReset) :
    P s → P (s.handCount src up)
  pacerExpiry {s : State} {n : PacerId} (due : s.pacers[n].expiryDue s.timestamp = true) :
    P s → P ((s.setPacer n (s.pacers[n].expired s.timestamp)).handCount (pacerSource n) true)
  runEvent {s : State} (k : RunSlotId) : P s → P (s.runEvent k)
  frameLevel {s : State} (c : CameraId) (level : Level) : P s → P (s.setCamera c { s.cameras[c] with fs := level })
  frameStart {s : State} (c : CameraId) (running : s.phase = .running) : P s → P (s.frameStarted c)
  expectationLost {s : State} (c : CameraId) : P s → P (s.expireOldest c)
  safeLevel {s : State} (n : SafeId) (level : Level) : P s → P (s.setSafe n { s.safes[n] with pin := level })
  onset {s : State} (n : SafeId) : P s → P (s.onset n)
  halfTick {s : State} (awake : s.phase ≠ .coldReset) (now : s.halfTick = true ∨ s.dueEvents = []) : P s → P s.halfTickPasses
  warmReset {s : State} : P s → P s.warmReset

/-- What every step keeps: the two ends of the cold reset are added. -/
structure Kept (P : State → Prop) : Prop extends OwnKept P where
  coldReset {s : State} : P s → P s.coldValues
  rise {s : State} (straps : BitVec 2) (cold : s.phase = .coldReset) : P s → P (s.rise straps)

/-- The outcome, where it is a next state, has the property. -/
def Leads (P : State → Prop) (o : Host.Outcome State Fault Refusal) : Prop := ∀ t, o = .next t → P t

theorem leads_next {P : State → Prop} {s : State} (h : P s) : Leads P (.next s) := by
  rintro _ ⟨⟩
  exact h

section
variable {P : State → Prop} (K : OwnKept P) {s : State}
include K

theorem OwnKept.receiver {x : Link} (h : P s) (buffer : x.rxBuffer = s.link.rxBuffer) (replies : x.replies = s.link.replies)
    (reports : x.reports = s.link.reports) : P (s.setLink x) := K.aside (.receiver buffer replies reports) h

theorem OwnKept.leads_done (h : P s) : Leads P (done s) := leads_next (K.aside .transmitter h)

theorem OwnKept.encoder (n : EncoderId) (x : Encoder) (h : P s) : P (s.setEncoder n x) := K.aside .encoder h

theorem OwnKept.latch (a : Alarm) (h : P s) : P (s.latch a) := K.aside .latched h

/-! #### Requests -/

theorem OwnKept.requests {t : State} (hrun : s.phase = .running) (hmoves : RequestMoves s t) (h : P s) :
    P t ∧ t.link.replies = s.link.replies := by
  have all : P t ∧ t.phase = .running ∧ t.link.replies = s.link.replies := by
    induction hmoves with
    | refl => exact ⟨h, hrun, rfl⟩
    | tail _ hmove ih =>
      obtain ⟨hP, hphase, hreplies⟩ := ih
      exact ⟨K.request hphase hmove hP, hmove.phase_eq.trans hphase, hmove.replies_eq.trans hreplies⟩
  exact ⟨all.1, all.2.2⟩

theorem OwnKept.takeFrame (f : Frame) (hrun : s.phase = .running) (room : s.link.replies.length < 4) (h : P s) :
    P (takeFrame f s) := by
  have hclosed : P s.closeUnlock := K.aside .closed h
  rcases takeFrame_moves f s with heq | ⟨u, kind, r, hmoves, heq⟩ <;> rw [heq]
  · exact K.warmReset hclosed
  · obtain ⟨hu, hreplies⟩ := K.requests (s := s.closeUnlock) hrun hmoves hclosed
    exact K.aside (.reply (by rw [hreplies]; exact room)) hu

theorem OwnKept.joinReceiveBuffer (f : Frame) (h : P s) : P (s.joinReceiveBuffer f) := by
  unfold State.joinReceiveBuffer
  split
  · exact K.aside (.buffered ‹_›) h
  · exact K.latch _ h

theorem OwnKept.arrive (f : Frame) (h : P s) : Leads P (arrive f (Machine.takeFrame f) s) := by
  unfold Machine.arrive
  split
  · split
    · rename_i hfree
      have room : s.link.replies.length < 4 := of_decide_eq_true (Bool.and_eq_true_iff.mp hfree).2
      exact K.leads_done (K.takeFrame f ‹_› room h)
    · exact K.leads_done (K.joinReceiveBuffer f h)
  · exact leads_next h

theorem OwnKept.takeOldest (h : P s) : Leads P (execTakeOldest s) := by
  unfold execTakeOldest
  split
  · rename_i hdue
    simp only [State.takeDue, Bool.and_eq_true, beq_iff_eq, decide_eq_true_eq] at hdue
    obtain ⟨⟨hrun, -⟩, room⟩ := hdue
    refine K.leads_done ?_
    unfold State.takeOldest
    split
    · exact h
    · rename_i holdest
      exact K.takeFrame _ hrun room (K.aside (.taken holdest) h)
  · exact leads_next h

/-! #### Events -/

theorem OwnKept.filteredTo (n : EncoderId) (z : EncoderPins) (whole : s.halfTick = false) (awake : s.phase ≠ .coldReset)
    (h : P s) : P (s.filteredTo n z) := by
  unfold State.filteredTo
  dsimp only
  refine K.encoder _ _ ?_
  split
  · exact h
  · exact K.latch _ h
  · exact K.count _ _ whole awake (K.encoder _ _ h)

theorem OwnKept.encoderPins (n : EncoderId) (z : EncoderPins) (whole : s.halfTick = false) (awake : s.phase ≠ .coldReset)
    (h : P s) : P (s.encoderPins n z) := by
  unfold State.encoderPins
  dsimp only
  split
  · split
    · exact K.encoder _ _ h
    · exact K.filteredTo n _ whole awake (K.encoder _ _ h)
  · exact K.encoder _ _ h

theorem OwnKept.filteredChange (n : EncoderId) (h : P s) : Leads P (execFilteredChange n s) := by
  unfold execFilteredChange
  split
  · rename_i hready
    obtain ⟨awake, hready⟩ := hready
    have whole : s.halfTick = false := by
      simp only [State.changeReady, Bool.and_eq_true, Bool.not_eq_true'] at hready
      exact hready.1
    exact K.leads_done (K.filteredTo n _ whole awake (K.encoder _ _ h))
  · exact leads_next h

theorem OwnKept.execPacerExpiry (n : PacerId) (h : P s) : Leads P (execPacerExpiry n s) := by
  unfold Machine.execPacerExpiry
  split
  · exact K.leads_done (K.pacerExpiry ‹_› h)
  · exact leads_next h

theorem OwnKept.pulseStart (k : RunSlotId) (h : P s) : Leads P (execPulseStart k s) := by
  unfold execPulseStart
  split
  · exact leads_next h
  · split
    · exact K.leads_done (K.runEvent k h)
    · exact leads_next h

theorem OwnKept.pulseEnd (k : RunSlotId) (h : P s) : Leads P (execPulseEnd k s) := by
  unfold execPulseEnd
  split
  · exact leads_next h
  · split
    · exact K.leads_done (K.runEvent k h)
    · exact leads_next h

theorem OwnKept.runCompletion (k : RunSlotId) (h : P s) : Leads P (execRunCompletion k s) := by
  unfold execRunCompletion
  split
  · exact leads_next h
  · split
    · exact K.leads_done (K.runEvent k h)
    · exact leads_next h

theorem OwnKept.execFrameStart (c : CameraId) (level : Level) (h : P s) : Leads P (execFrameStart c level s) := by
  unfold Machine.execFrameStart
  dsimp only
  split
  · exact leads_next h
  · have hlevel := K.frameLevel c level h
    split
    · split
      · exact K.leads_done (K.frameStart c ‹_› hlevel)
      · exact leads_next hlevel
    · exact leads_next hlevel

theorem OwnKept.deadlineExpiry (c : CameraId) (h : P s) : Leads P (execDeadlineExpiry c s) := by
  unfold execDeadlineExpiry
  split
  · exact K.leads_done (K.expectationLost c h)
  · exact leads_next h

theorem OwnKept.safePinChange (n : SafeId) (level : Level) (h : P s) : Leads P (execSafePinChange n level s) := by
  unfold execSafePinChange
  dsimp only
  split
  · exact leads_next h
  · have hlevel := K.safeLevel n level h
    split
    · exact leads_next hlevel
    · refine K.leads_done ?_
      unfold State.safePin
      dsimp only
      split
      · exact K.onset n hlevel
      · exact hlevel

theorem OwnKept.rxGo (x : RxState) (h : P s) : P (s.rxGo x) := K.receiver h rfl rfl rfl

theorem OwnKept.takeByte (b : Byte) (h : P s) : P (s.takeByte b) := by
  unfold State.takeByte
  split
  · split
    · exact K.rxGo _ h
    · exact h
  · split
    · exact K.rxGo _ h
    · exact K.latch _ (K.rxGo _ h)
  · exact K.rxGo _ h
  · split <;> exact K.rxGo _ h
  · split <;> exact K.rxGo _ h
  · exact K.rxGo _ h
  · unfold State.frameComplete
    split
    · exact K.joinReceiveBuffer _ (K.rxGo _ h)
    · exact K.latch _ (K.rxGo _ h)

theorem OwnKept.rxByte (b : Byte) (m : RxdMoment) (h : P s) : Leads P (execRxByte b m s) := by
  unfold execRxByte
  split
  · unfold startBitComes
    split
    · split
      · exact leads_next h
      · exact leads_next (K.receiver h rfl rfl rfl)
    · exact leads_next h
  · unfold byteTaken
    split
    · exact leads_next h
    · split
      · exact leads_next h
      · exact leads_next (K.receiver h rfl rfl rfl)
    · split
      · exact leads_next h
      · exact K.leads_done (K.takeByte b (K.receiver h rfl rfl rfl))

theorem OwnKept.gapTimeout (h : P s) : Leads P (execGapTimeout s) := by
  unfold execGapTimeout
  split
  · exact K.leads_done (K.latch _ (K.rxGo _ h))
  · exact leads_next h

theorem OwnKept.transmitFrameEnd (h : P s) : Leads P (execTransmitFrameEnd s) := by
  unfold execTransmitFrameEnd
  split
  · exact K.leads_done (K.receiver h rfl rfl rfl)
  · exact leads_next h

theorem OwnKept.start (h : P s) : Leads P (execStart s) := by
  unfold execStart
  split
  · exact K.leads_done (K.aside .started h)
  · exact leads_next h

/-! #### The part's own events and the passing of time -/

/-- The event due in a run slot is one of the three of a run. -/
theorem OwnKept.runDue {k : RunSlotId} {u : State} {e : Act} (he : e ∈ u.runDue k) (h : P s) : Leads P (e s) := by
  unfold State.runDue at he
  split at he
  · cases he
  · split at he
    · rw [List.mem_singleton.mp he]; exact K.runCompletion k h
    · split at he
      · rw [List.mem_singleton.mp he]; exact K.pulseStart k h
      · split at he
        · rw [List.mem_singleton.mp he]; exact K.pulseEnd k h
        · cases he

theorem OwnKept.dueEvent {u : State} {e : Act} (he : e ∈ u.dueEvents) (h : P s) : Leads P (e s) := by
  have only {b : Bool} {x : Act} (hx : e ∈ if b = true then [x] else []) : e = x := by
    cases b
    · cases hx
    · exact List.mem_singleton.mp hx
  simp only [State.dueEvents, List.mem_append, List.mem_map, List.mem_flatMap] at he
  rcases he with ((((((⟨n, _, rfl⟩ | ⟨n, _, rfl⟩) | ⟨k, _, hk⟩) | ⟨c, _, rfl⟩) | hgap) | htx) | hstart) | htake
  · exact K.filteredChange n h
  · exact K.execPacerExpiry n h
  · exact K.runDue hk h
  · exact K.deadlineExpiry c h
  · rw [only hgap]; exact K.gapTimeout h
  · rw [only htx]; exact K.transmitFrameEnd h
  · rw [only hstart]; exact K.start h
  · rw [only htake]; exact K.takeOldest h

theorem OwnKept.idle (h : P s) : Leads P (idle s) := by
  unfold Machine.idle
  split
  · exact leads_next h
  · rename_i awake
    have horder := anyOrder_perm s.arbiter s.dueEvents
    split
    · rename_i hnone
      rw [hnone] at horder
      exact leads_next (K.halfTick awake (.inr horder.symm.eq_nil) h)
    · rename_i e rest hsome
      rw [hsome] at horder
      exact K.dueEvent (horder.mem_iff.mp List.mem_cons_self) (K.aside .chosen h)

end

/-- RSTN stays high through the part's own events and the requests. -/
theorem ownKept_awake : OwnKept (fun s => s.phase ≠ .coldReset) where
  aside move h hcold := h (move.same.phase hcold)
  request _ move h := by rwa [move.phase_eq]
  count _ _ _ _ h := by simpa using h
  pacerExpiry _ h := by simpa using h
  runEvent _ h := by simpa using h
  frameLevel _ _ h := h
  frameStart _ _ h := by simpa using h
  expectationLost _ h := by simpa using h
  safeLevel _ _ h := h
  onset _ h := by simpa using h
  halfTick _ _ h := h
  warmReset _ := nofun

/-- ENCODER_PIN_CHANGE ends the tick first, so its count events fall on a whole tick (log entry 20). -/
theorem OwnKept.encoderPinChange {P : State → Prop} (K : OwnKept P) {s : State} (n : EncoderId) (z : EncoderPins) (h : P s) :
    Leads P (execEncoderPinChange n z s) := by
  unfold execEncoderPinChange
  split
  · exact leads_next (K.encoder _ _ h)
  · rename_i awake
    have both : P s.wholeTick ∧ s.wholeTick.phase ≠ .coldReset :=
      wholeTick_keeps (fun t => P t ∧ t.phase ≠ .coldReset)
        (fun _ u hu hidle => ⟨K.idle hu.1 u hidle, ownKept_awake.idle hu.2 u hidle⟩)
        (fun _ hu half => ⟨K.halfTick hu.2 (.inl half) hu.1, hu.2⟩) s ⟨h, awake⟩
    exact K.leads_done (K.encoderPins n z (wholeTick_halfTick s) both.2 both.1)

/-- The packaged induction: a request arrives as its frame, and every event has its lemma above. -/
theorem Kept.exec {P : State → Prop} (K : Kept P) {s : State} (i : Instr) (h : P s) : Leads P (exec i s) := by
  have O := K.toOwnKept
  cases hframe : requestFrame i with
  | some f => rw [exec_request hframe]; exact O.arrive f h
  | none =>
    cases i with
    | encoderPinChange n z => exact O.encoderPinChange n z h
    | filteredChange n => exact O.filteredChange n h
    | pacerExpiry n => exact O.execPacerExpiry n h
    | pulseStart k => exact O.pulseStart k h
    | pulseEnd k => exact O.pulseEnd k h
    | runCompletion k => exact O.runCompletion k h
    | frameStart c level => exact O.execFrameStart c level h
    | deadlineExpiry c => exact O.deadlineExpiry c h
    | safePinChange n level => exact O.safePinChange n level h
    | rxByte b m => exact O.rxByte b m h
    | gapTimeout => exact O.gapTimeout h
    | transmitFrameEnd => exact O.transmitFrameEnd h
    | coldReset => exact leads_next (K.coldReset h)
    | rstnRise straps =>
      show Leads P (execRstnRise straps s)
      unfold execRstnRise
      split
      · exact leads_next (K.rise straps ‹_› h)
      · exact leads_next h
    | start => exact O.start h
    | rxdReturnHigh => exact leads_next (O.receiver h rfl rfl rfl)
    | _ => cases hframe

theorem Kept.step {P : State → Prop} (K : Kept P) {s t : State} (h : P s) (hstep : step s = .next t) : P t := by
  revert t
  show Leads P (Machine.step s)
  unfold Machine.step
  split
  · exact K.toOwnKept.idle h
  · exact K.exec _ (K.toOwnKept.aside .pending h)

end Sys2Proof.Machine

/-! SUPPORT. The program store (R66 to R77) through a step: no operation but those of Chapter 5 touches a version, and each of those
keeps the store sound. -/

namespace Sys2Proof.Machine

/-! ### Operations that leave every version alone -/

/-- The two versions of a program. -/
def State.versions (s : State) (i : ProgramId) : Option Version × Option Version := (s.programs[i].active, s.programs[i].staged)

theorem State.versions_of_programs {s t : State} (h : t.programs = s.programs) : t.versions = s.versions := by
  funext i
  simp only [State.versions, h]

/-- Writing back a program with another reference count. -/
theorem State.setProgram_refCount_versions (s : State) (i : ProgramId) (n : Nat) :
    (s.setProgram i { s.programs[i] with refCount := n }).versions = s.versions := by
  funext j
  by_cases hij : i = j
  · subst hij; simp [State.versions, State.setProgram]
  · simp [State.versions, State.setProgram, Fin.val_inj, hij]

@[simp] theorem State.incRef_versions (s : State) (i : ProgramId) : (s.incRef i).versions = s.versions :=
  s.setProgram_refCount_versions i _

@[simp] theorem State.decRef_versions (s : State) (i : ProgramId) : (s.decRef i).versions = s.versions :=
  s.setProgram_refCount_versions i _

@[simp] theorem State.dropRef_versions (s : State) (h : Handle) : (s.dropRef h).versions = s.versions := by
  unfold State.dropRef
  split
  · rfl
  · exact s.decRef_versions _

@[simp] theorem State.moveRef_versions (s : State) (old new : ProgramId) : (s.moveRef old new).versions = s.versions := by
  unfold State.moveRef
  split
  · rfl
  · rw [State.incRef_versions, State.decRef_versions]

@[simp] theorem State.setLane_versions (s : State) (l : LaneId) (x : Lane) : (s.setLane l x).versions = s.versions := rfl

@[simp] theorem State.setSlot_versions (s : State) (h : Handle) (x : Slot) : (s.setSlot h x).versions = s.versions := rfl

@[simp] theorem State.latch_versions (s : State) (a : Alarm) : (s.latch a).versions = s.versions :=
  State.versions_of_programs (by simp)

@[simp] theorem State.endShot_versions (s : State) (h : Handle) (c : OutcomeCode) : (s.endShot h c).versions = s.versions :=
  State.versions_of_programs (by simp)

@[simp] theorem State.fireAttempt_versions (s : State) (h : Handle) : (s.fireAttempt h).versions = s.versions :=
  State.versions_of_programs (by simp)

@[simp] theorem State.reach_versions (s : State) (l : LaneId) (h : Handle) : (s.reach l h).versions = s.versions := by
  unfold State.reach
  dsimp only
  split <;> simp

@[simp] theorem State.checkHead_versions (s : State) (l : LaneId) : (s.checkHead l).versions = s.versions := by
  unfold State.checkHead
  split
  · rfl
  · split
    · rfl
    · split
      · exact s.reach_versions l _
      · rfl

@[simp] theorem State.laneCount_versions (up : Bool) (s : State) (l : LaneId) : (s.laneCount up l).versions = s.versions := by
  unfold State.laneCount
  dsimp only
  split
  · rfl
  · split
    · split
      · rw [State.checkHead_versions, State.setLane_versions]
      · rfl
    · exact State.versions_of_programs (by simp)

@[simp] theorem State.handCount_versions (s : State) (src : Source) (up : Bool) : (s.handCount src up).versions = s.versions := by
  unfold State.handCount
  refine (foldl_keeps State.versions _ (fun t l => t.laneCount_versions up l) _ _).trans ?_
  split <;> rfl

@[simp] theorem State.disarm_versions (s : State) (l : LaneId) : (s.disarm l).versions = s.versions :=
  foldl_keeps State.versions _ (fun t h => by simp [State.flushShot]) _ _

/-! ### The store through a step -/

theorem storeSound_of {s t : State} (hold : t.updateHold = s.updateHold) (hversions : t.versions = s.versions)
    (h : s.storeSound) : t.storeSound := by
  have hversion (i : ProgramId) := Prod.ext_iff.mp (congrFun hversions i)
  have hactive (i : ProgramId) : t.programs[i].active = s.programs[i].active := (hversion i).1
  have hstaged (i : ProgramId) : t.programs[i].staged = s.programs[i].staged := (hversion i).2
  simpa only [State.storeSound, hold, hactive, hstaged] using h

/-- An operation that touches neither the programs nor the hold. -/
theorem storeSound_of_programs {s t : State} (hold : t.updateHold = s.updateHold) (hprograms : t.programs = s.programs)
    (h : s.storeSound) : t.storeSound := storeSound_of hold (State.versions_of_programs hprograms) h

/-- Writing one program: its versions must be sound, and staged only while the hold is OPEN. -/
theorem storeSound_setProgram {s : State} (h : s.storeSound) (i : ProgramId) (x : Program)
    (hclosed : s.updateHold = .closed → x.staged = none)
    (hactive : ∀ v, x.active = some v → v.sound) (hstaged : ∀ v, x.staged = some v → v.sound) : (s.setProgram i x).storeSound := by
  obtain ⟨hnone, hall⟩ := h
  have hother {j : ProgramId} (hij : i ≠ j) : (s.setProgram i x).programs[j] = s.programs[j] := by
    simp [State.setProgram, Fin.val_inj, hij]
  have hself : (s.setProgram i x).programs[i] = x := by simp [State.setProgram]
  refine ⟨fun hold j => ?_, fun j v hv => ?_⟩
  · rcases eq_or_ne i j with rfl | hij
    · rw [hself]; exact hclosed hold
    · rw [hother hij]; exact hnone hold j
  · rcases eq_or_ne i j with rfl | hij
    · rw [hself] at hv; exact hv.elim (hactive v) (hstaged v)
    · rw [hother hij] at hv; exact hall j v hv

/-- Every program at once loses its staged version, which may have become the active one; the hold closes (R76, R77, R82). -/
theorem storeSound_map {s t : State} (h : s.storeSound) (f : Program → Program) (hprograms : t.programs = s.programs.map f)
    (hstaged : ∀ x, (f x).staged = none) (hactive : ∀ x, (f x).active = x.active ∨ (f x).active = x.staged) : t.storeSound := by
  have hprogram (i : ProgramId) : t.programs[i] = f s.programs[i] := by simp [hprograms]
  refine ⟨fun _ i => by rw [hprogram]; exact hstaged _, fun i v hv => ?_⟩
  rw [hprogram, hstaged] at hv
  rcases hv with hv | hv
  · rcases hactive s.programs[i] with heq | heq <;> rw [heq] at hv
    · exact h.2 i v (.inl hv)
    · exact h.2 i v (.inr hv)
  · cases hv

theorem storeVersion_storeSound {s : State} (h : s.storeSound) (i : ProgramId) {v : Version} (hv : v.sound) :
    (s.storeVersion i v).storeSound := by
  cases hold : s.updateHold with
  | closed =>
    rw [State.storeVersion_closed hold]
    exact storeSound_setProgram h i _ (fun hc => h.1 hc i) (fun _ hw => Option.some.inj hw ▸ hv) (fun w hw => h.2 i w (.inr hw))
  | opened =>
    rw [State.storeVersion_opened hold]
    exact storeSound_setProgram h i _ (fun hc => by simp [hold] at hc) (fun w hw => h.2 i w (.inl hw)) (fun _ hw => Option.some.inj hw ▸ hv)

theorem request_storeSound {s t : State} (hmove : RequestMove s t) (h : s.storeSound) : t.storeSound := by
  cases hmove with
  | stored i hv => exact storeVersion_storeSound h i hv
  | cleared =>
    exact storeSound_setProgram h _ _ (fun hc => h.1 hc _) nofun (fun w hw => h.2 _ w (.inr hw))
  | holdOpened => exact ⟨nofun, h.2⟩
  | holdReleased =>
    refine storeSound_map h Program.released rfl (fun _ => rfl) fun x => ?_
    unfold Program.released
    dsimp only
    split
    · exact .inr rfl
    · exact .inl rfl
  | holdDiscarded => exact storeSound_map h Program.discarded rfl (fun _ => rfl) fun _ => .inl rfl
  | disarmed l => exact storeSound_of (by simp) (s.disarm_versions l) h
  | admitted => exact storeSound_of (s := s) (by simp) (by simp [State.admitEntry]) h
  | cancelled => exact storeSound_of (by simp) (by simp [State.cancelShot]) h
  | amended =>
    refine storeSound_of (by simp) ?_ h
    unfold State.amendShot
    split
    · rfl
    · rw [State.setSlot_versions, State.moveRef_versions]
  | _ => exact storeSound_of_programs (by simp) (by simp) h

theorem ownKept_storeSound : OwnKept State.storeSound where
  aside move h := storeSound_of_programs move.same.updateHold move.same.programs h
  request _ move h := request_storeSound move h
  count src up _ _ h := storeSound_of (by simp) (by simp) h
  pacerExpiry _ h := storeSound_of (by simp) (by rw [State.handCount_versions]; rfl) h
  runEvent k h := storeSound_of_programs (by simp) (by simp) h
  frameLevel _ _ h := storeSound_of_programs rfl rfl h
  frameStart _ _ h := storeSound_of_programs (by simp) (by simp) h
  expectationLost _ h := storeSound_of_programs (by simp) (by simp) h
  safeLevel _ _ h := storeSound_of_programs rfl rfl h
  onset _ h := storeSound_of_programs (by simp) (by simp) h
  halfTick _ _ h := storeSound_of_programs rfl rfl h
  warmReset h := storeSound_map h Program.warm rfl (fun _ => rfl) fun _ => .inl rfl

theorem kept_storeSound : Kept State.storeSound where
  toOwnKept := ownKept_storeSound
  coldReset _ := by simp [State.storeSound, State.coldValues, State.cold, Program.cold]
  rise _ _ h := storeSound_of_programs rfl rfl h

end Sys2Proof.Machine

/-! SUPPORT. The capacities (R145, R160, R163) through a step: the outcome queue grows only by State.appendOutcome, the report queue
only by Link.queueReport, and a frame or a reply joins its buffer only where a place is free. -/

namespace Sys2Proof.Machine

/-! ### The outcome queue stays within its 64 places -/

/-- R145: the outcome queue holds no more than 64 records. -/
def State.outcomesFit (s : State) : Prop := s.outcomes.length ≤ 64

theorem outcomesFit_of {s t : State} (h : t.outcomes = s.outcomes) (hs : s.outcomesFit) : t.outcomesFit := by
  rwa [State.outcomesFit, h]

section
variable {s : State} (hs : s.outcomesFit)
include hs

theorem appendOutcome_fits (r : OutcomeRecord) : (s.appendOutcome r).outcomesFit := by
  unfold State.appendOutcome
  dsimp only
  split
  · rename_i room
    have hfits : (s.setOutcomes (s.outcomes ++ [r])).outcomesFit := by
      simp only [Config.outcomeDepth] at room
      simp only [State.outcomesFit, State.setOutcomes, List.length_append, List.length_singleton]
      omega
    split
    · exact outcomesFit_of (by simp) hfits
    · exact hfits
  · exact outcomesFit_of (by simp) hs

theorem endShot_fits (h : Handle) (c : OutcomeCode) : (s.endShot h c).outcomesFit := by
  unfold State.endShot
  split
  · exact hs
  · refine appendOutcome_fits ?_ _
    exact hs

theorem leaveFiring_fits (h : Handle) : (s.leaveFiring h).outcomesFit := by
  unfold State.leaveFiring
  split
  · exact hs
  · split
    · exact endShot_fits hs h _
    · exact outcomesFit_of (by simp) hs

theorem completeRun_fits (k : RunSlotId) (r : Run) : (s.completeRun k r).outcomesFit :=
  leaveFiring_fits (outcomesFit_of (by simp) hs) _

theorem abortRun_fits (k : RunSlotId) : (s.abortRun k).outcomesFit := by
  unfold State.abortRun
  split
  · exact hs
  · exact leaveFiring_fits (outcomesFit_of (by simp) hs) _

theorem holdOutputs_fits (g : BitVec 12) : (s.holdOutputs g).outcomesFit :=
  foldl_holds State.outcomesFit State.abortRun (fun _ k ht => abortRun_fits ht k) _ _ (outcomesFit_of (by simp) hs)

theorem onset_fits (n : SafeId) : (s.onset n).outcomesFit := by
  have hheld := holdOutputs_fits (s := s.setSafe n { s.safes[n] with hold := true }) hs s.safes[n].group
  simpa [State.onset, State.outcomesFit] using hheld

theorem installSafe_fits (n : SafeId) (d : Detection) (g : BitVec 12) (b : BitVec 4) : (s.installSafe n d g b).outcomesFit := by
  unfold State.installSafe
  dsimp only
  split
  · refine outcomesFit_of (State.haltLanes_outcomes _ _) (holdOutputs_fits ?_ _)
    exact hs
  · split
    · refine onset_fits ?_ n
      exact hs
    · exact hs

theorem runEvent_fits (k : RunSlotId) : (s.runEvent k).outcomesFit := by
  unfold State.runEvent
  split
  · exact hs
  · dsimp only
    split
    · refine completeRun_fits ?_ _ _
      exact hs
    · exact outcomesFit_of (by simp) hs

theorem fireAttempt_fits (h : Handle) : (s.fireAttempt h).outcomesFit := by
  unfold State.fireAttempt
  split
  · exact hs
  · dsimp only
    split
    · exact endShot_fits hs h _
    · split
      · exact endShot_fits hs h _
      · split
        · exact outcomesFit_of (by simp) hs
        · exact endShot_fits hs h _

theorem reach_fits (l : LaneId) (h : Handle) : (s.reach l h).outcomesFit := by
  have hleft (x : Lane) : ((s.setLane l x).dropRef h).outcomesFit := outcomesFit_of (by simp) hs
  unfold State.reach
  dsimp only
  split
  · exact fireAttempt_fits (hleft _) h
  · exact endShot_fits (hleft _) h _
  · exact endShot_fits (hleft _) h _
  · exact hleft _

theorem checkHead_fits (l : LaneId) : (s.checkHead l).outcomesFit := by
  unfold State.checkHead
  split
  · exact hs
  · split
    · exact hs
    · split
      · exact reach_fits hs l _
      · exact hs

theorem laneCount_fits (up : Bool) (l : LaneId) : (s.laneCount up l).outcomesFit := by
  unfold State.laneCount
  dsimp only
  split
  · exact hs
  · split
    · split
      · refine checkHead_fits ?_ l
        exact hs
      · exact hs
    · exact outcomesFit_of (by simp) hs

theorem handCount_fits (src : Source) (up : Bool) : (s.handCount src up).outcomesFit := by
  unfold State.handCount
  refine foldl_holds State.outcomesFit _ (fun _ l ht => laneCount_fits ht up l) _ _ ?_
  split <;> exact hs

theorem disarm_fits (l : LaneId) : (s.disarm l).outcomesFit :=
  foldl_holds State.outcomesFit State.flushShot (fun _ h ht => endShot_fits (outcomesFit_of (by simp) ht) h _) _ _
    (outcomesFit_of rfl hs)

theorem cancelShot_fits (h : Handle) (sh : Shot) : (s.cancelShot h sh).outcomesFit :=
  endShot_fits (outcomesFit_of (by simp) hs) h _

theorem endIfResolved_fits (h : Handle) : (s.endIfResolved h).outcomesFit := by
  unfold State.endIfResolved
  split
  · exact hs
  · split
    · exact endShot_fits hs h _
    · exact hs

theorem frameStarted_fits (c : CameraId) : (s.frameStarted c).outcomesFit := by
  unfold State.frameStarted
  dsimp only
  split
  · exact hs
  · split
    · split
      · exact outcomesFit_of (by simp) hs
      · exact endIfResolved_fits (outcomesFit_of (by simp) hs) _
    · exact hs

theorem expireOldest_fits (c : CameraId) : (s.expireOldest c).outcomesFit := by
  unfold State.expireOldest
  dsimp only
  split
  · exact hs
  · exact endIfResolved_fits (outcomesFit_of (by simp) hs) _

end

/-! ### The capacities through a step -/

/-- An operation that leaves the two frame buffers alone and fits its outcomes and its reports. -/
theorem withinCapacity_of {s t : State} (h : s.withinCapacity) (buffer : t.link.rxBuffer = s.link.rxBuffer)
    (replies : t.link.replies = s.link.replies) (outcomes : s.outcomesFit → t.outcomesFit)
    (reports : s.link.reports.length ≤ 8 → t.link.reports.length ≤ 8) : t.withinCapacity := by
  obtain ⟨houtcomes, hbuffer, hreplies, hreports⟩ := h
  exact ⟨outcomes houtcomes, buffer ▸ hbuffer, replies ▸ hreplies, reports hreports⟩

/-- An operation that does not touch the link. -/
theorem withinCapacity_of_link {s t : State} (h : s.withinCapacity) (link : t.link = s.link)
    (outcomes : s.outcomesFit → t.outcomesFit) : t.withinCapacity :=
  withinCapacity_of h (by rw [link]) (by rw [link]) outcomes (by rw [link]; exact id)

/-- The transmitter only takes frames away. -/
theorem Link.begin_lengths (x : Link) :
    x.begin.replies.length ≤ x.replies.length ∧ x.begin.reports.length ≤ x.reports.length := by
  have hreport : x.beginReport.replies = x.replies ∧ x.beginReport.reports.length ≤ x.reports.length := by
    unfold Link.beginReport
    split
    · rename_i hr; exact ⟨rfl, by simp [hr]⟩
    · exact ⟨rfl, le_rfl⟩
  unfold Link.begin
  split
  · exact ⟨le_rfl, le_rfl⟩
  · split
    · exact ⟨hreport.1 ▸ le_rfl, hreport.2⟩
    · split
      · rename_i hr; exact ⟨by simp [hr], le_rfl⟩
      · exact ⟨hreport.1 ▸ le_rfl, hreport.2⟩

theorem queueReports_length (rs : List Report) {x : Link} (h : x.reports.length ≤ 8) :
    (rs.foldl Link.queueReport x).reports.length ≤ 8 := by
  induction rs generalizing x with
  | nil => exact h
  | cons r rest ih => exact ih (x.queueReport_length r h)

@[simp] theorem Link.queueReport_rxBuffer (x : Link) (r : Report) : (x.queueReport r).rxBuffer = x.rxBuffer := by
  unfold Link.queueReport; split <;> rfl

@[simp] theorem Link.queueReport_replies (x : Link) (r : Report) : (x.queueReport r).replies = x.replies := by
  unfold Link.queueReport; split <;> rfl

theorem queueReports_buffers (rs : List Report) (x : Link) :
    (rs.foldl Link.queueReport x).rxBuffer = x.rxBuffer ∧ (rs.foldl Link.queueReport x).replies = x.replies := by
  induction rs generalizing x with
  | nil => exact ⟨rfl, rfl⟩
  | cons r rest ih => simpa using ih (x.queueReport r)

theorem aside_withinCapacity {s t : State} (hmove : AsideMove s t) (h : s.withinCapacity) : t.withinCapacity := by
  cases hmove with
  | receiver buffer replies reports => exact withinCapacity_of h buffer replies id (by simp [State.setLink, reports])
  | transmitter =>
    obtain ⟨houtcomes, hbuffer, hreplies, hreports⟩ := h
    obtain ⟨lreplies, lreports⟩ := s.link.begin_lengths
    exact ⟨houtcomes, by simpa [State.beginTx] using hbuffer, lreplies.trans hreplies, lreports.trans hreports⟩
  | reply room =>
    obtain ⟨houtcomes, hbuffer, -, hreports⟩ := h
    exact ⟨houtcomes, hbuffer, by simpa [State.queueReply, State.setLink] using room, hreports⟩
  | buffered room =>
    obtain ⟨houtcomes, -, hreplies, hreports⟩ := h
    exact ⟨houtcomes, by simpa [State.setLink] using room, hreplies, hreports⟩
  | taken oldest =>
    obtain ⟨houtcomes, hbuffer, hreplies, hreports⟩ := h
    rw [oldest, List.length_cons] at hbuffer
    exact ⟨houtcomes, (Nat.le_succ _).trans hbuffer, hreplies, hreports⟩
  | latched => exact withinCapacity_of h (by simp) (by simp) (outcomesFit_of (by simp)) (State.latch_reports s _)
  | started =>
    obtain ⟨houtcomes, hbuffer, hreplies, hreports⟩ := h
    obtain ⟨ebuffer, ereplies⟩ := queueReports_buffers s.link.deferred
      ({ s.link with rx := .hunt, gapTimer := 0, deferred := [] }.queueReport (.start _ s.link.baud))
    exact ⟨houtcomes, by rw [State.begun, ebuffer, Link.queueReport_rxBuffer]; exact hbuffer,
      by rw [State.begun, ereplies, Link.queueReport_replies]; exact hreplies,
      queueReports_length _ (Link.queueReport_length _ _ hreports)⟩
  | chosen => unfold State.chosen; split <;> exact h
  | encoder | closed | pending => exact withinCapacity_of_link h rfl id

theorem request_withinCapacity {s t : State} (hmove : RequestMove s t) (h : s.withinCapacity) : t.withinCapacity := by
  cases hmove with
  | disarmed l => exact withinCapacity_of h (by simp) (by simp) (disarm_fits · l) (State.disarm_reports s l)
  | cancelled => exact withinCapacity_of h (by simp) (by simp) (cancelShot_fits · _ _) (State.cancelShot_reports s _ _)
  | safeInstalled n d g b =>
    exact withinCapacity_of h (by simp) (by simp) (installSafe_fits · n d g b) (State.installSafe_reports s n d g b)
  | outcomesFetched n =>
    exact withinCapacity_of_link h rfl fun hfits => (List.drop_sublist n s.outcomes).length_le.trans hfits
  | _ => exact withinCapacity_of_link h (by simp) (outcomesFit_of (by simp))

theorem ownKept_withinCapacity : OwnKept State.withinCapacity where
  aside move h := aside_withinCapacity move h
  request _ move h := request_withinCapacity move h
  count src up _ _ h := withinCapacity_of h (by simp) (by simp) (handCount_fits · src up) (State.handCount_reports _ src up)
  pacerExpiry {s n} _ h := withinCapacity_of h (by simp) (by simp) (fun hfits => handCount_fits (s := s.setPacer n _) hfits _ _)
    (State.handCount_reports (s.setPacer n _) (pacerSource n) true)
  runEvent k h := withinCapacity_of h (by simp) (by simp) (runEvent_fits · k) (State.runEvent_reports _ k)
  frameLevel _ _ h := h
  frameStart c _ h := withinCapacity_of h (by simp) (by simp) (frameStarted_fits · c) (State.frameStarted_reports _ c)
  expectationLost c h := withinCapacity_of h (by simp) (by simp) (expireOldest_fits · c) (State.expireOldest_reports _ c)
  safeLevel _ _ h := h
  onset n h := withinCapacity_of h (by simp) (by simp) (onset_fits · n) (State.onset_reports _ n)
  halfTick _ _ h := h
  warmReset _ := ⟨Nat.zero_le _, Nat.zero_le _, Nat.zero_le _, Nat.zero_le _⟩

theorem kept_withinCapacity : Kept State.withinCapacity where
  toOwnKept := ownKept_withinCapacity
  coldReset _ := ⟨Nat.zero_le _, Nat.zero_le _, Nat.zero_le _, Nat.zero_le _⟩
  rise _ _ h := h

/-- Settles O54: the two properties each kept by every move of a request's rule, every event of the part and the resets. -/
theorem stepKeepsCapacitiesAndTheStore : Obligations.StepKeepsCapacitiesAndTheStore :=
  ⟨fun _ _ => kept_withinCapacity.step, fun _ _ => kept_storeSound.step⟩

end Sys2Proof.Machine

/-! SUPPORT. The places of the cameras (R90, R120, R122) through a step: a pulse start turns a reserved place into an expectation, a
fire reserves no more places than are free, and every other operation only gives places back. -/

namespace Sys2Proof.Machine

/-! ### What is claimed on a camera -/

/-- The places a run slot reserves on a camera. -/
def placesOf (r : Option Run) (c : CameraId) : Nat :=
  match r with
  | some x => x.reserved[c]
  | none => 0

@[simp] theorem placesOf_none (c : CameraId) : placesOf none c = 0 := rfl

@[simp] theorem placesOf_some (r : Run) (c : CameraId) : placesOf (some r) c = r.reserved[c] := rfl

theorem State.reservedOn_eq (s : State) (c : CameraId) : s.reservedOn c = ∑ k : RunSlotId, placesOf s.runs[k] c := by
  rw [State.reservedOn, vector_toList_eq_map_finRange, List.map_map, Fin.sum_univ_def]
  rfl

/-- The expectations and the reserved places of a camera together (R90). -/
def State.claimed (s : State) (c : CameraId) : Nat := s.cameras[c].queue.length + s.reservedOn c

/-- Writing one run slot changes the reserved places by the difference. -/
theorem State.setRun_reservedOn (s : State) (k : RunSlotId) (x : Option Run) (c : CameraId) :
    (s.setRun k x).reservedOn c + placesOf s.runs[k] c = s.reservedOn c + placesOf x c := by
  have hrest : ∑ j ∈ Finset.univ.erase k, placesOf (s.setRun k x).runs[j] c = ∑ j ∈ Finset.univ.erase k, placesOf s.runs[j] c :=
    Finset.sum_congr rfl fun j hj => by rw [State.setRun_at, if_neg (Finset.ne_of_mem_erase hj).symm]
  rw [State.reservedOn_eq, State.reservedOn_eq, ← Finset.add_sum_erase _ _ (Finset.mem_univ k),
    ← Finset.add_sum_erase (a := k) _ _ (Finset.mem_univ k), hrest, State.setRun_at, if_pos rfl]
  omega

/-- An operation that lengthens no queue and reserves no place. -/
theorem State.claimed_le {s t : State} {c : CameraId} (hqueue : t.cameras[c].queue.length ≤ s.cameras[c].queue.length)
    (hruns : ∀ k : RunSlotId, placesOf t.runs[k] c ≤ placesOf s.runs[k] c) : t.claimed c ≤ s.claimed c := by
  rw [State.claimed, State.claimed, State.reservedOn_eq, State.reservedOn_eq]
  exact Nat.add_le_add hqueue (Finset.sum_le_sum fun k _ => hruns k)

/-- An operation that touches neither the cameras nor the runs. -/
theorem State.claimed_of_eq {s t : State} (hcameras : t.cameras = s.cameras) (hruns : t.runs = s.runs) : t.claimed = s.claimed := by
  funext c
  simp only [State.claimed, State.reservedOn, hcameras, hruns]

/-- Writing a run slot with no more places than before. -/
theorem State.setRun_claimed_le (s : State) {k : RunSlotId} {x : Option Run} {c : CameraId}
    (h : placesOf x c ≤ placesOf s.runs[k] c) : (s.setRun k x).claimed c ≤ s.claimed c := by
  have := s.setRun_reservedOn k x c
  rw [State.claimed, State.claimed, State.setRun_cameras]
  omega

/-! ### Operations that claim nothing new -/

theorem Run.giveUp_places (r : Run) (c d : CameraId) :
    (r.giveUp c).reserved[d] = if c = d then r.reserved[c] - 1 else r.reserved[d] := vector_getElem_set ..

theorem Run.giveUp_places_le (r : Run) (c d : CameraId) : (r.giveUp c).reserved[d] ≤ r.reserved[d] := by
  rw [Run.giveUp_places]
  split
  · rename_i hcd; subst hcd; exact Nat.sub_le _ _
  · exact le_rfl

theorem Run.skipPulse_places_le (r : Run) (o : OutputId) (i : Nat) (d : CameraId) : (r.skipPulse o i).reserved[d] ≤ r.reserved[d] := by
  unfold Run.skipPulse
  dsimp only
  split
  · exact le_rfl
  · exact Run.giveUp_places_le _ _ d

@[simp] theorem Run.release_reserved (r : Run) : r.release.reserved = r.reserved := rfl

@[simp] theorem Run.turnBurst_reserved (r : Run) : r.turnBurst.reserved = r.reserved := by
  unfold Run.turnBurst; split <;> rfl

/-- A trigger turns a reserved place into an expectation, and without one claims nothing. -/
theorem State.handTrigger_claimed {s : State} {k : RunSlotId} {r : Run} (hrun : s.runs[k] = some r) (c d : CameraId) :
    (s.handTrigger k r c).claimed d = s.claimed d := by
  unfold State.handTrigger
  dsimp only
  split
  · rw [State.claimed, State.claimed, State.setCamera_at]
    split
    · rename_i hcd; subst hcd; rfl
    · rfl
  · rename_i hreserved
    have hplaces := s.setRun_reservedOn k (some (r.giveUp c)) d
    rw [hrun, placesOf_some, placesOf_some, Run.giveUp_places] at hplaces
    have hclaimed (x : Camera) (f : Shot → Shot) : (((s.setRun k (some (r.giveUp c))).setCamera c x).mapShot r.handle f).claimed d
        = (if c = d then x else s.cameras[d]).queue.length + (s.setRun k (some (r.giveUp c))).reservedOn d := by
      rw [State.claimed, State.mapShot_cameras, State.setCamera_at]
      rfl
    rw [hclaimed, State.claimed]
    split at hplaces
    · rename_i hcd
      subst hcd
      simp only [if_true, Camera.push, Camera.triggered, List.length_append, List.length_singleton]
      omega
    · rename_i hcd
      rw [if_neg hcd]
      omega

theorem State.startPulse_claimed_le (k : RunSlotId) (s : State) (x : Pulse × Nat) (c : CameraId) :
    (State.startPulse k s x).claimed c ≤ s.claimed c := by
  unfold State.startPulse
  split
  · exact le_rfl
  · rename_i r hrun
    dsimp only
    split
    · exact s.setRun_claimed_le (by rw [hrun]; exact r.skipPulse_places_le _ _ c)
    · have hheld (t : State) (ht : t.cameras = s.cameras ∧ t.runs = s.runs) :
          (t.setRun k (some { r with held := r.held ||| outputBit x.1.output })).claimed c ≤ s.claimed c := by
        rw [← State.claimed_of_eq ht.1 ht.2]
        exact t.setRun_claimed_le (by rw [ht.2, hrun]; exact le_rfl)
      have hmarked : (if ((s.holders x.1.output).filter (fun j => j != k)).isEmpty then s
          else s.markCollision k ((s.holders x.1.output).filter (fun j => j != k))).cameras = s.cameras ∧
          (if ((s.holders x.1.output).filter (fun j => j != k)).isEmpty then s
          else s.markCollision k ((s.holders x.1.output).filter (fun j => j != k))).runs = s.runs := by
        split <;> simp
      split
      · exact hheld _ hmarked
      · rw [State.handTrigger_claimed (by rw [State.setRun_at, if_pos rfl])]
        exact hheld _ hmarked

theorem State.startPulses_claimed_le (k : RunSlotId) (xs : List (Pulse × Nat)) (s : State) (c : CameraId) :
    (xs.foldl (State.startPulse k) s).claimed c ≤ s.claimed c :=
  foldl_holds (fun t => t.claimed c ≤ s.claimed c) _ (fun t x ht => (t.startPulse_claimed_le k x c).trans ht) xs s le_rfl

theorem State.completeRun_claimed_le (s : State) (k : RunSlotId) (r : Run) (c : CameraId) :
    (s.completeRun k r).claimed c ≤ s.claimed c := by
  have heq : (s.completeRun k r).claimed = (s.setRun k none).claimed := State.claimed_of_eq (by simp) (by simp [State.completeRun])
  rw [heq]
  exact s.setRun_claimed_le (Nat.zero_le _)

theorem State.abortRun_claimed_le (s : State) (k : RunSlotId) (c : CameraId) : (s.abortRun k).claimed c ≤ s.claimed c := by
  unfold State.abortRun
  split
  · exact le_rfl
  · rename_i r _
    refine (State.claimed_of_eq (t := _) (s := s.setRun k none) ?_ ?_ ▸ le_rfl : _ ≤ (s.setRun k none).claimed c).trans
      (s.setRun_claimed_le (Nat.zero_le _))
    all_goals simp

theorem State.holdOutputs_claimed_le (s : State) (g : BitVec 12) (c : CameraId) : (s.holdOutputs g).claimed c ≤ s.claimed c :=
  foldl_holds (fun t => t.claimed c ≤ s.claimed c) State.abortRun (fun t k ht => (t.abortRun_claimed_le k c).trans ht) _ _
    (congrFun (State.claimed_of_eq (s := s) (t := s.forceInactive g) (by simp) (by simp)) c).le

theorem State.onset_claimed_le (s : State) (n : SafeId) (c : CameraId) : (s.onset n).claimed c ≤ s.claimed c := by
  have hheld := (s.setSafe n { s.safes[n] with hold := true }).holdOutputs_claimed_le s.safes[n].group c
  have heq : (s.onset n).claimed = ((s.setSafe n { s.safes[n] with hold := true }).holdOutputs s.safes[n].group).claimed :=
    State.claimed_of_eq (by simp [State.onset]) (by simp [State.onset])
  rw [heq]
  exact hheld

theorem State.installSafe_claimed_le (s : State) (n : SafeId) (d : Detection) (g : BitVec 12) (b : BitVec 4) (c : CameraId) :
    (s.installSafe n d g b).claimed c ≤ s.claimed c := by
  unfold State.installSafe
  dsimp only
  split
  · rw [State.claimed_of_eq (State.haltLanes_cameras _ _) (State.haltLanes_runs _ _)]
    exact State.holdOutputs_claimed_le _ _ c
  · split
    · exact State.onset_claimed_le _ n c
    · exact le_rfl

theorem State.runEvent_claimed_le (s : State) (k : RunSlotId) (c : CameraId) : (s.runEvent k).claimed c ≤ s.claimed c := by
  unfold State.runEvent
  split
  · exact le_rfl
  · rename_i r hrun
    have hwritten : (s.setRun k (some { r.release.turnBurst with eventDone := true })).claimed c ≤ s.claimed c :=
      s.setRun_claimed_le (by simp [hrun])
    dsimp only
    split
    · exact (State.completeRun_claimed_le _ _ _ c).trans hwritten
    · exact (State.startPulses_claimed_le _ _ _ c).trans hwritten

/-! ### The places through a step -/

theorem placesSound_iff (s : State) : s.placesSound ↔ ∀ c, s.claimed c ≤ 8 := Iff.rfl

theorem placesSound_of_le {s t : State} (hle : ∀ c, t.claimed c ≤ s.claimed c) (h : s.placesSound) : t.placesSound :=
  fun c => (hle c).trans (h c)

theorem placesSound_of {s t : State} (hcameras : t.cameras = s.cameras) (hruns : t.runs = s.runs) (h : s.placesSound) :
    t.placesSound := placesSound_of_le (fun c => (congrFun (State.claimed_of_eq hcameras hruns) c).le) h

/-- A fire reserves no more than the free places (R87, R88). -/
theorem State.reservations_le {s : State} {pulses : List Pulse} {burstCount : Nat}
    (hready : s.camerasReady pulses burstCount = true) (c : CameraId) :
    (s.reservations pulses burstCount)[c] ≤ s.freePlaces c := by
  rw [State.reservations_getElem]
  split
  · rename_i hconfirm
    by_cases htrg : trgPulses pulses c = []
    · simp [htrg]
    · obtain ⟨-, -, hroom⟩ := (s.camerasReady_iff pulses burstCount).mp hready c htrg
      rcases hroom with hoff | hroom
      · rw [hconfirm] at hoff; cases hoff
      · exact hroom
  · exact Nat.zero_le _

theorem fire_placesSound {s : State} (hs : s.placesSound) {k : RunSlotId} (hfree : s.runs[k] = none) {v : Version} {sh : Shot}
    (hready : s.camerasReady v.pulses sh.burstCount = true) (h : Handle) : (s.fire k h sh v).placesSound := by
  refine fun c => (State.startPulses_claimed_le k _ _ c).trans ?_
  have hroom : (s.newRun h sh v).reserved[c] ≤ 8 - s.cameras[c].queue.length - s.reservedOn c := s.reservations_le hready c
  have hbefore := hs c
  have hplaces := s.setRun_reservedOn k (some (s.newRun h sh v)) c
  rw [hfree, placesOf_none, placesOf_some] at hplaces
  have heq : ((s.setRun k (some (s.newRun h sh v))).mapShot h (fun x =>
      { x with phase := .firing, fireTime := some s.timestamp, runSlot := some k })).claimed c
      = s.cameras[c].queue.length + (s.setRun k (some (s.newRun h sh v))).reservedOn c := rfl
  rw [heq]
  omega

theorem fireAttempt_placesSound {s : State} (hs : s.placesSound) (h : Handle) : (s.fireAttempt h).placesSound := by
  unfold State.fireAttempt
  split
  · exact hs
  · dsimp only
    split
    · exact placesSound_of (by simp) (by simp) hs
    · split
      · exact placesSound_of (by simp) (by simp) hs
      · rename_i k hk
        split
        · have hfree := List.find?_some hk
          exact fire_placesSound hs (Option.isNone_iff_eq_none.mp hfree) ‹_› h
        · exact placesSound_of (by simp) (by simp) hs

theorem laneCount_placesSound {s : State} (hs : s.placesSound) (up : Bool) (l : LaneId) : (s.laneCount up l).placesSound := by
  unfold State.laneCount
  dsimp only
  split
  · exact hs
  · split
    · split
      · unfold State.checkHead
        split
        · exact hs
        · split
          · exact hs
          · split
            · unfold State.reach
              dsimp only
              split
              · exact fireAttempt_placesSound (placesSound_of (by simp) (by simp) hs) _
              · exact placesSound_of (by simp) (by simp) hs
              · exact placesSound_of (by simp) (by simp) hs
              · exact placesSound_of (by simp) (by simp) hs
            · exact hs
      · exact hs
    · exact placesSound_of (by simp) (by simp) hs

theorem handCount_placesSound {s : State} (hs : s.placesSound) (src : Source) (up : Bool) : (s.handCount src up).placesSound := by
  unfold State.handCount
  refine foldl_holds State.placesSound _ (fun _ l ht => laneCount_placesSound ht up l) _ _ ?_
  split <;> exact hs

/-- A camera that takes no new entry. -/
theorem setCamera_placesSound {s : State} (hs : s.placesSound) {c : CameraId} {x : Camera}
    (hqueue : x.queue.length ≤ s.cameras[c].queue.length) : (s.setCamera c x).placesSound := by
  refine placesSound_of_le (s := s) (fun d => State.claimed_le ?_ fun _ => le_rfl) hs
  rw [State.setCamera_at]
  split
  · rename_i hcd; subst hcd; exact hqueue
  · exact le_rfl

theorem frameStarted_placesSound {s : State} (hs : s.placesSound) (c : CameraId) : (s.frameStarted c).placesSound := by
  unfold State.frameStarted
  dsimp only
  split
  · exact setCamera_placesSound hs le_rfl
  · split
    · split
      · refine placesSound_of (State.latch_cameras _ _) (State.latch_runs _ _) (setCamera_placesSound hs le_rfl)
      · rename_i e rest hqueue
        have hpop := setCamera_placesSound hs (c := c)
          (x := { s.cameras[c] with counter := s.cameras[c].counter + 1, queue := rest }) (by rw [hqueue]; exact Nat.le_succ _)
        exact placesSound_of (by simp) (by simp) hpop
    · exact setCamera_placesSound hs le_rfl

theorem expireOldest_placesSound {s : State} (hs : s.placesSound) (c : CameraId) : (s.expireOldest c).placesSound := by
  unfold State.expireOldest
  dsimp only
  split
  · exact hs
  · rename_i e rest hqueue
    have hpop := setCamera_placesSound hs (c := c) (x := { s.cameras[c] with queue := rest }) (by rw [hqueue]; exact Nat.le_succ _)
    exact placesSound_of (by simp) (by simp) hpop

theorem request_placesSound {s t : State} (hmove : RequestMove s t) (hs : s.placesSound) : t.placesSound := by
  cases hmove with
  | camera hcamera => exact setCamera_placesSound hs (by rw [hcamera.queue])
  | outputWritten o pol mode =>
    have hdrop (u : State) : (u.dropHolds o).placesSound ↔ u.placesSound := by
      have hplaces (k : RunSlotId) (c : CameraId) : placesOf (u.dropHolds o).runs[k] c = placesOf u.runs[k] c := by
        simp only [State.dropHolds, Fin.getElem_fin, Vector.getElem_map]
        cases u.runs[k.val] <;> rfl
      simp only [placesSound_iff, State.claimed, State.reservedOn_eq, hplaces, State.dropHolds_cameras]
    unfold State.writeOutput
    dsimp only
    split
    · exact hs
    · split
      · rw [hdrop]; exact hs
      · exact hs
  | safeInstalled n d g b => exact placesSound_of_le (s.installSafe_claimed_le n d g b) hs
  | _ => exact placesSound_of (by simp) (by simp) hs

/-- No expectation waits and no run is in flight. -/
theorem placesSound_of_none {s : State} (hqueues : ∀ c : CameraId, s.cameras[c].queue = [])
    (hruns : ∀ k : RunSlotId, s.runs[k] = none) : s.placesSound := by
  intro c
  rw [hqueues c, State.reservedOn_eq]
  simp [hruns]

theorem ownKept_placesSound : OwnKept State.placesSound where
  aside move h := placesSound_of move.same.cameras move.same.runs h
  request _ move h := request_placesSound move h
  count src up _ _ h := handCount_placesSound h src up
  pacerExpiry {s n} _ h := handCount_placesSound (s := s.setPacer n _) h _ _
  runEvent {s} k h := placesSound_of_le (s.runEvent_claimed_le k) h
  frameLevel c _ h := setCamera_placesSound h le_rfl
  frameStart c _ h := frameStarted_placesSound h c
  expectationLost c h := expireOldest_placesSound h c
  safeLevel _ _ h := h
  onset {s} n h := placesSound_of_le (s.onset_claimed_le n) h
  halfTick {s} _ _ h := by
    refine placesSound_of_le (fun c => State.claimed_le ?_ fun k => ?_) h
    · have htick (x : Camera) : x.tick.queue = x.queue := by unfold Camera.tick; split <;> rfl
      simp only [State.halfTickPasses, Fin.getElem_fin]
      split <;> simp [htick]
    · simp only [State.halfTickPasses, Fin.getElem_fin, Vector.getElem_map]
      cases s.runs[k.val] <;> exact le_rfl
  warmReset _ := placesSound_of_none (by simp [State.warmReset, Camera.warm]) (by simp [State.warmReset])

theorem kept_placesSound : Kept State.placesSound where
  toOwnKept := ownKept_placesSound
  coldReset _ := placesSound_of_none (by simp [State.coldValues, State.cold, Camera.cold]) (by simp [State.coldValues, State.cold])
  rise _ _ h := h

end Sys2Proof.Machine

/-! SUPPORT. Safe holds (R134 to R143) through a step: what a hold takes when it begins or widens, and why nothing else gives a held
lane, output or run back. -/

namespace Sys2Proof.Machine

/-! ### What the effects of a hold do -/

/-- A lane that is OFF or HALTED. -/
def LaneState.stopped (x : LaneState) : Prop := x = .off ∨ x = .halted

theorem LaneState.stopped_or_running (x : LaneState) : x.stopped ∨ x = .armed ∨ x = .paused := by
  cases x <;> simp [LaneState.stopped]

/-- R29: an ARMED or PAUSED lane enters HALTED. -/
theorem State.haltLane_at (s : State) (l m : LaneId) : (s.haltLane l).lanes[m] = { s.lanes[m] with
    state := if l = m ∧ (s.lanes[m].state = .armed ∨ s.lanes[m].state = .paused) then .halted else s.lanes[m].state } := by
  rcases s.lanes[l].state.stopped_or_running with hstop | hrun
  · have hsame : s.haltLane l = s := by rcases hstop with hstate | hstate <;> simp only [State.haltLane, hstate]
    rw [hsame, if_neg]
    rintro ⟨rfl, hrun⟩
    exact not_stopped hrun hstop
  · have hhalt : s.haltLane l = s.setLane l { s.lanes[l] with state := .halted } := by
      rcases hrun with hstate | hstate <;> simp only [State.haltLane, hstate]
    rw [hhalt, State.setLane_at]
    by_cases hlm : l = m
    · subst hlm
      rw [if_pos rfl, if_pos ⟨rfl, hrun⟩]
    · rw [if_neg hlm, if_neg fun h => hlm h.1]

/-- A lane that two halts name is halted once. -/
theorem State.haltLanes_at (s : State) (b : BitVec 4) (m : LaneId) : (s.haltLanes b).lanes[m] = { s.lanes[m] with
    state := if b.getLsbD m.val = true ∧ (s.lanes[m].state = .armed ∨ s.lanes[m].state = .paused) then .halted
      else s.lanes[m].state } := by
  have hfold (ls : List LaneId) (t : State) : (ls.foldl State.haltLane t).lanes[m] = { t.lanes[m] with
      state := if m ∈ ls ∧ (t.lanes[m].state = .armed ∨ t.lanes[m].state = .paused) then .halted else t.lanes[m].state } := by
    induction ls generalizing t with
    | nil => simp
    | cons l rest ih =>
      rw [List.foldl_cons, ih, State.haltLane_at]
      rcases t.lanes[m].state.stopped_or_running with hstop | hrun
      · have hno : ¬ (t.lanes[m].state = .armed ∨ t.lanes[m].state = .paused) := fun h => not_stopped h hstop
        simp only [hno, and_false, if_false]
      · by_cases hlm : l = m
        · simp only [hlm, hrun, List.mem_cons_self, and_self, if_true, reduceCtorEq, or_self, and_false, if_false]
        · simp only [hlm, hrun, List.mem_cons, Ne.symm hlm, false_or, if_false, and_true]
  rw [State.haltLanes, hfold]
  simp [allLanes]

/-- A halt stops its lanes and restarts none. -/
theorem State.haltLanes_stopped {s : State} {b : BitVec 4} {m : LaneId} (h : b.getLsbD m.val = true ∨ s.lanes[m].state.stopped) :
    (s.haltLanes b).lanes[m].state.stopped := by
  rw [State.haltLanes_at]
  rcases s.lanes[m].state.stopped_or_running with hstop | hrun
  · rw [if_neg fun h => not_stopped h.2 hstop]
    exact hstop
  · rw [if_pos ⟨h.resolve_right (not_stopped hrun), hrun⟩]
    exact .inr rfl

theorem State.abortRun_at (s : State) (k j : RunSlotId) : (s.abortRun k).runs[j] = if k = j then none else s.runs[j] := by
  unfold State.abortRun
  split
  · rename_i hfree
    split
    · rename_i hkj; subst hkj; exact hfree
    · rfl
  · rw [State.leaveFiring_runs]
    exact s.setRun_at k j none

theorem State.abortRuns_at (ks : List RunSlotId) (s : State) (j : RunSlotId) :
    (ks.foldl State.abortRun s).runs[j] = if j ∈ ks then none else s.runs[j] := by
  induction ks generalizing s with
  | nil => simp
  | cons k rest ih =>
    rw [List.foldl_cons, ih, State.abortRun_at]
    by_cases hkj : k = j
    · simp [hkj]
    · simp [hkj, Ne.symm hkj]

/-- R97: the runs left are those that name no output of the set. -/
theorem State.abortNaming_at (s : State) (g : BitVec 12) (j : RunSlotId) :
    (s.abortNaming g).runs[j] = (s.runs[j]).filter (fun r => !r.names g) := by
  rw [State.abortNaming, State.abortRuns_at]
  simp only [List.mem_filter, allRunSlots, List.mem_finRange, true_and]
  cases hrun : s.runs[j] with
  | none => simp
  | some r => cases hnames : r.names g <;> simp [hnames, Option.filter]

theorem Run.names_iff (r : Run) (g : BitVec 12) : r.names g = true ↔ ∃ x ∈ r.pulses, g.getLsbD x.output.val = true := by
  simp [Run.names]

/-- R115: a STATIC output of the set goes inactive, and nothing else of an output changes. -/
theorem State.forceInactive_at (s : State) (g : BitVec 12) (o : OutputId) :
    (s.forceInactive g).outputs[o] = if g.getLsbD o.val = true ∧ s.outputs[o].mode = .staticMode
      then { s.outputs[o] with level := .inactive } else s.outputs[o] := by
  simp only [State.forceInactive, Fin.getElem_fin, Vector.getElem_mapFinIdx, Bool.and_eq_true, beq_iff_eq]

/-! ### The property, one clause for each thing that stands -/

/-- What stands under the safe holds and by the modes of the outputs, output by output, lane by lane, run by run. -/
structure State.stands (s : State) : Prop where
  alarms : ∀ n : SafeId, s.safes[n].hold = true → s.alarms.isLatched (.safe n) = true
  lanes : ∀ l : LaneId, s.laneHeld l = true → s.lanes[l].state.stopped
  levels : ∀ o : OutputId, s.outputHeld o = true ∨ s.outputs[o].mode = .pulseMode → s.outputs[o].level = .inactive
  unnamed : ∀ (k : RunSlotId) (r : Run), s.runs[k] = some r → ∀ x ∈ r.pulses, s.outputHeld x.output = false
  unheld : ∀ (k : RunSlotId) (r : Run) (o : OutputId), s.runs[k] = some r → s.outputs[o].mode = .staticMode →
    r.held.getLsbD o.val = false

theorem State.outputHeld_eq_false (s : State) (o : OutputId) :
    s.outputHeld o = false ↔ ∀ n : SafeId, s.safes[n].hold = true → s.safes[n].group.getLsbD o.val = false := by
  rw [Bool.eq_false_iff, Ne, State.outputHeld_iff]
  simp

theorem State.holders_eq_nil (s : State) (o : OutputId) :
    s.holders o = [] ↔ ∀ (k : RunSlotId) (r : Run), s.runs[k] = some r → r.held.getLsbD o.val = false := by
  simp only [List.eq_nil_iff_forall_not_mem, State.mem_holders, not_exists, not_and, Bool.not_eq_true]

theorem State.stands_iff (s : State) : s.stands ↔ s.holdsStand ∧ s.modesStand := by
  constructor
  · intro h
    refine ⟨fun n hold => ⟨h.alarms n hold, fun l hl => h.lanes l ((s.laneHeld_iff l).mpr ⟨n, hold, hl⟩),
      fun o ho => h.levels o (.inl ((s.outputHeld_iff o).mpr ⟨n, hold, ho⟩)), fun k r hr x hx => ?_⟩, fun o => ⟨?_, fun hmode => ?_⟩⟩
    · exact (s.outputHeld_eq_false x.output).mp (h.unnamed k r hr x hx) n hold
    · exact fun hmode => h.levels o (.inr hmode)
    · exact (s.holders_eq_nil o).mpr fun k r hr => h.unheld k r o hr hmode
  · rintro ⟨hholds, hmodes⟩
    refine ⟨fun n hold => (hholds n hold).1, fun l hl => ?_, fun o ho => ?_, fun k r hr x hx => ?_, fun k r o hr hmode => ?_⟩
    · obtain ⟨n, hold, hbit⟩ := (s.laneHeld_iff l).mp hl
      exact (hholds n hold).2.1 l hbit
    · rcases ho with ho | hmode
      · obtain ⟨n, hold, hbit⟩ := (s.outputHeld_iff o).mp ho
        exact (hholds n hold).2.2.1 o hbit
      · exact (hmodes o).1 hmode
    · exact (s.outputHeld_eq_false x.output).mpr fun n hold => (hholds n hold).2.2.2 k r hr x hx
    · exact (s.holders_eq_nil o).mp ((hmodes o).2 hmode) k r hr

/-! ### Operations that give nothing back -/

/-- Every run of `t` was one of `s`, with the same pulses, and it holds no STATIC output that it did not hold. -/
def RunsFrom (s t : State) : Prop :=
  ∀ (k : RunSlotId) (r : Run), t.runs[k] = some r → ∃ r0, s.runs[k] = some r0 ∧ r.pulses = r0.pulses ∧
    ∀ o : OutputId, s.outputs[o].mode = .staticMode → r.held.getLsbD o.val = true → r0.held.getLsbD o.val = true

theorem RunsFrom.of_eq {s t : State} (h : t.runs = s.runs) : RunsFrom s t := by
  intro k r hr
  rw [h] at hr
  exact ⟨r, hr, rfl, fun _ _ => id⟩

/-- The run is the one that was fired, at the same position. -/
structure Run.Continues (r0 r : Run) : Prop where
  handle : r.handle = r0.handle
  fireTime : r.fireTime = r0.fireTime
  pulses : r.pulses = r0.pulses
  position : r.position = r0.position

theorem Run.Continues.refl (r : Run) : r.Continues r := ⟨rfl, rfl, rfl, rfl⟩

/-- Every run of `t` is one of `s` that goes on at its position, and holds no STATIC output that it did not hold. -/
def RunsOn (s t : State) : Prop :=
  ∀ (k : RunSlotId) (r : Run), t.runs[k] = some r → ∃ r0, s.runs[k] = some r0 ∧ r0.Continues r ∧
    ∀ o : OutputId, s.outputs[o].mode = .staticMode → r.held.getLsbD o.val = true → r0.held.getLsbD o.val = true

theorem RunsOn.runsFrom {s t : State} (h : RunsOn s t) : RunsFrom s t := by
  intro k r hr
  obtain ⟨r0, hr0, hcontinues, hheld⟩ := h k r hr
  exact ⟨r0, hr0, hcontinues.pulses, hheld⟩

theorem RunsOn.of_eq {s t : State} (h : t.runs = s.runs) : RunsOn s t := by
  intro k r hr
  rw [h] at hr
  exact ⟨r, hr, .refl r, fun _ _ => id⟩

theorem RunsOn.trans {s t u : State} (hst : RunsOn s t) (houtputs : t.outputs = s.outputs) (htu : RunsOn t u) : RunsOn s u := by
  intro k r hr
  obtain ⟨r1, hr1, h1, hheld1⟩ := htu k r hr
  obtain ⟨r0, hr0, h0, hheld0⟩ := hst k r1 hr1
  rw [houtputs] at hheld1
  exact ⟨r0, hr0, ⟨h1.handle.trans h0.handle, h1.fireTime.trans h0.fireTime, h1.pulses.trans h0.pulses,
    h1.position.trans h0.position⟩, fun o hmode hheld => hheld0 o hmode (hheld1 o hmode hheld)⟩

/-- One run slot is written with a run that goes on from the one there. -/
theorem RunsOn.setRun {s : State} {k : RunSlotId} {r0 r : Run} (hr0 : s.runs[k] = some r0) (hcontinues : r0.Continues r)
    (hheld : ∀ o : OutputId, s.outputs[o].mode = .staticMode → r.held.getLsbD o.val = true → r0.held.getLsbD o.val = true) :
    RunsOn s (s.setRun k (some r)) := by
  intro j r1 hr1
  rw [State.setRun_at] at hr1
  split at hr1
  · rename_i hkj
    subst hkj
    obtain rfl := Option.some.inj hr1
    exact ⟨r0, hr0, hcontinues, hheld⟩
  · exact ⟨r1, hr1, .refl r1, fun _ _ => id⟩

theorem RunsOn.setRun_none (s : State) (k : RunSlotId) : RunsOn s (s.setRun k none) := by
  intro j r hr
  rw [State.setRun_at] at hr
  split at hr
  · cases hr
  · exact ⟨r, hr, .refl r, fun _ _ => id⟩

/-- The operation leaves safe inputs and outputs alone, loses no alarm of a hold, restarts no lane and starts no run. -/
theorem stands_of {s t : State} (h : s.stands) (hsafes : t.safes = s.safes) (houtputs : t.outputs = s.outputs)
    (halarms : ∀ n : SafeId, s.safes[n].hold = true → s.alarms.isLatched (.safe n) = true → t.alarms.isLatched (.safe n) = true)
    (hlanes : ∀ l : LaneId, s.laneHeld l = true → s.lanes[l].state.stopped → t.lanes[l].state.stopped) (hruns : RunsFrom s t) :
    t.stands := by
  have hheldOutputs : t.outputHeld = s.outputHeld := by funext o; simp only [State.outputHeld, hsafes]
  have hheldLanes : t.laneHeld = s.laneHeld := by funext l; simp only [State.laneHeld, hsafes]
  constructor
  · intro n hold
    rw [hsafes] at hold
    exact halarms n hold (h.alarms n hold)
  · intro l hl
    rw [hheldLanes] at hl
    exact hlanes l hl (h.lanes l hl)
  · intro o ho
    rw [hheldOutputs, houtputs] at ho
    rw [houtputs]
    exact h.levels o ho
  · intro k r hr x hx
    obtain ⟨r0, hr0, hpulses, -⟩ := hruns k r hr
    rw [hheldOutputs]
    exact h.unnamed k r0 hr0 x (hpulses ▸ hx)
  · intro k r o hr hmode
    obtain ⟨r0, hr0, -, hheld⟩ := hruns k r hr
    rw [houtputs] at hmode
    by_contra hbit
    rw [Bool.not_eq_false] at hbit
    have := h.unheld k r0 o hr0 hmode
    rw [hheld o hmode hbit] at this
    cases this

/-- A latched alarm stays latched when another latches. -/
theorem isLatched_stays (a : Alarm) (x : AlarmSet) (b : Alarm) (h : x.isLatched a = true) :
    (AlarmSet.mk (x.latched ||| b.mask) x.enabled).isLatched a = true := by
  simp only [AlarmSet.isLatched, BitVec.getLsbD_or] at h ⊢
  rw [h, Bool.true_or]

/-- The bit of a PULSE output in the held set says nothing of a STATIC one. -/
theorem outputBit_getLsbD (o p : OutputId) : (outputBit o).getLsbD p.val = decide (o = p) := by
  have hp : p.val < 12 := p.isLt
  simp only [outputBit, BitVec.getLsbD_ofNat, hp, decide_true, Bool.true_and, Nat.testBit_two_pow, Fin.val_inj]

theorem Run.skipPulse_continues (r : Run) (o : OutputId) (i : Nat) : r.Continues (r.skipPulse o i) := by
  unfold Run.skipPulse Run.giveUp; dsimp only; split <;> exact ⟨rfl, rfl, rfl, rfl⟩

@[simp] theorem Run.skipPulse_held (r : Run) (o : OutputId) (i : Nat) : (r.skipPulse o i).held = r.held := by
  unfold Run.skipPulse Run.giveUp; dsimp only; split <;> rfl

theorem State.handTrigger_runsOn {s : State} {k : RunSlotId} {r : Run} (hrun : s.runs[k] = some r) (c : CameraId) :
    RunsOn s (s.handTrigger k r c) := by
  unfold State.handTrigger
  dsimp only
  split
  · exact .of_eq (by simp)
  · exact RunsOn.trans (t := s.setRun k (some (r.giveUp c))) (.setRun hrun ⟨rfl, rfl, rfl, rfl⟩ fun _ _ => id) rfl (.of_eq (by simp))

/-- A pulse start puts no STATIC output among the held ones. -/
theorem State.startPulse_runsOn (k : RunSlotId) (s : State) (x : Pulse × Nat) : RunsOn s (State.startPulse k s x) := by
  unfold State.startPulse
  split
  · exact .of_eq rfl
  · rename_i r hrun
    dsimp only
    split
    · exact .setRun hrun (r.skipPulse_continues _ _) fun _ _ => by simp
    · rename_i hmode
      have hbit (o : OutputId) (hstatic : s.outputs[o].mode = .staticMode)
          (hheld : (r.held ||| outputBit x.1.output).getLsbD o.val = true) : r.held.getLsbD o.val = true := by
        rw [BitVec.getLsbD_or, outputBit_getLsbD, Bool.or_eq_true, decide_eq_true_eq] at hheld
        refine hheld.resolve_right fun heq => ?_
        rw [← heq, hmode] at hstatic
        cases hstatic
      have hheld (t : State) (ht : t.runs = s.runs ∧ t.outputs = s.outputs) :
          RunsOn s (t.setRun k (some { r with held := r.held ||| outputBit x.1.output })) :=
        RunsOn.trans (.of_eq ht.1) ht.2 (.setRun (r0 := r) (by rw [ht.1, hrun]) ⟨rfl, rfl, rfl, rfl⟩ (by rw [ht.2]; exact hbit))
      have hmarked (js : List RunSlotId) : (if js.isEmpty then s else s.markCollision k js).runs = s.runs ∧
          (if js.isEmpty then s else s.markCollision k js).outputs = s.outputs := by
        split <;> simp
      split
      · exact hheld _ (hmarked _)
      · exact (hheld _ (hmarked _)).trans (hmarked _).2 (State.handTrigger_runsOn (by rw [State.setRun_at, if_pos rfl]) _)

theorem State.startPulses_runsOn (k : RunSlotId) (xs : List (Pulse × Nat)) (s : State) :
    RunsOn s (xs.foldl (State.startPulse k) s) := by
  induction xs generalizing s with
  | nil => exact .of_eq rfl
  | cons x rest ih => exact (s.startPulse_runsOn k x).trans (by simp) (ih _)

theorem State.startPulses_stands {s : State} (h : s.stands) (k : RunSlotId) (xs : List (Pulse × Nat)) :
    (xs.foldl (State.startPulse k) s).stands :=
  stands_of h (by simp) (by simp) (fun n _ => State.startPulses_keeps s k xs (·.isLatched (.safe n) = true) (isLatched_stays _))
    (fun l _ => by simp) (State.startPulses_runsOn k xs s).runsFrom

end Sys2Proof.Machine

/-! SUPPORT. The safe holds and the output modes through a step: a count event, a run's event, a hold onset, the requests. -/

namespace Sys2Proof.Machine

/-! ### Lanes under a count event -/

/-- The head that is reached leaves the queue, whatever becomes of its shot. -/
theorem State.reach_lanes (s : State) (l : LaneId) (h : Handle) :
    (s.reach l h).lanes = (s.setLane l { s.lanes[l] with queue := s.lanes[l].queue.tail }).lanes := by
  unfold State.reach
  dsimp only
  split <;> simp

theorem State.checkHead_laneState (s : State) (l m : LaneId) : (s.checkHead l).lanes[m].state = s.lanes[m].state := by
  unfold State.checkHead
  split
  · rfl
  · split
    · rfl
    · split
      · simp only [State.reach_lanes, State.setLane_at]
        split
        · rename_i hlm; subst hlm; rfl
        · rfl
      · rfl

/-- A count event restarts no lane: it can only pause an ARMED one (R25). -/
theorem State.laneCount_stopped (up : Bool) (s : State) (l m : LaneId) (h : s.lanes[m].state.stopped) :
    (s.laneCount up l).lanes[m].state.stopped := by
  unfold State.laneCount
  dsimp only
  split
  · exact h
  · split
    · split
      · rw [State.checkHead_laneState, State.setLane_at]
        split
        · rename_i hlm; subst hlm; exact h
        · exact h
      · exact h
    · unfold State.checkReverse
      dsimp only
      split
      · split
        · rename_i harmed
          rw [State.setLane_at]
          split
          · rename_i hlm
            subst hlm
            exact absurd h (not_stopped (.inl harmed))
          · simpa using h
        · simpa using h
      · exact h

/-! ### Fires and the events of a run -/

/-- Only alarms latch, and shots end, and nothing else of what stands is touched. -/
theorem stands_of_blocks {s t : State} (h : s.stands) (hsafes : t.safes = s.safes) (houtputs : t.outputs = s.outputs) (hlanes : t.lanes = s.lanes)
    (hruns : t.runs = s.runs)
    (halarms : ∀ n : SafeId, s.alarms.isLatched (.safe n) = true → t.alarms.isLatched (.safe n) = true) : t.stands :=
  stands_of h hsafes houtputs (fun n _ => halarms n) (fun l _ => by rw [hlanes]; exact id) (.of_eq hruns)

theorem endShot_stands {s : State} (hs : s.stands) (h : Handle) (c : OutcomeCode) : (s.endShot h c).stands :=
  stands_of_blocks hs (by simp) (by simp) (by simp) (by simp) (fun n => s.endShot_keeps h c _ (isLatched_stays _))

theorem latch_stands {s : State} (hs : s.stands) (a : Alarm) : (s.latch a).stands :=
  stands_of_blocks hs (by simp) (by simp) (by simp) (by simp) (fun n h => by simp [h])

/-- A fresh run names no held output (R85) and holds none. -/
theorem setRun_stands {s : State} (hs : s.stands) (k : RunSlotId) {r : Run} (hfree : s.noneHeld r.pulses = true) (hheld : r.held = 0) :
    (s.setRun k (some r)).stands where
  alarms := hs.alarms
  lanes := hs.lanes
  levels := hs.levels
  unnamed j r1 hr1 := by
    rw [State.setRun_at] at hr1
    split at hr1
    · obtain rfl := Option.some.inj hr1
      simp only [State.noneHeld, List.all_eq_true, Bool.not_eq_true'] at hfree
      exact hfree
    · exact hs.unnamed j r1 hr1
  unheld j r1 o hr1 hmode := by
    rw [State.setRun_at] at hr1
    split at hr1
    · obtain rfl := Option.some.inj hr1
      simp [hheld]
    · exact hs.unheld j r1 o hr1 hmode

theorem fireAttempt_stands {s : State} (hs : s.stands) (h : Handle) : (s.fireAttempt h).stands := by
  unfold State.fireAttempt
  split
  · exact hs
  · rename_i sh _
    dsimp only
    split
    · exact endShot_stands hs h _
    · rename_i hheld
      split
      · exact endShot_stands hs h _
      · rename_i k _
        split
        · have hfree : s.noneHeld (s.activeVersion sh.program).pulses = true := by simpa using hheld
          refine State.startPulses_stands ?_ _ _
          exact stands_of_blocks (setRun_stands hs k (r := s.newRun h sh (s.activeVersion sh.program)) hfree rfl)
            (by simp) (by simp) (by simp) (by simp) (fun _ => id)
        · exact endShot_stands hs h _

theorem reach_stands {s : State} (hs : s.stands) (l : LaneId) (h : Handle) : (s.reach l h).stands := by
  have hleft : ((s.setLane l { s.lanes[l] with queue := s.lanes[l].queue.tail }).dropRef h).stands := by
    refine stands_of hs (by simp) (by simp) (fun n _ hlatched => by simpa using hlatched) (fun m _ hstop => ?_) (.of_eq (by simp))
    rw [State.dropRef_lanes, State.setLane_at]
    split
    · rename_i hlm; subst hlm; exact hstop
    · exact hstop
  unfold State.reach
  dsimp only
  split
  · exact fireAttempt_stands hleft h
  · exact endShot_stands hleft h _
  · exact endShot_stands hleft h _
  · exact hleft

theorem laneCount_stands {s : State} (hs : s.stands) (up : Bool) (l : LaneId) : (s.laneCount up l).stands := by
  have hcounted := s.laneCount_stopped up l
  unfold State.laneCount at hcounted ⊢
  dsimp only at hcounted ⊢
  split
  · exact hs
  · rename_i hrunning
    rw [if_neg hrunning] at hcounted
    split
    · split
      · have hmoved : (s.setLane l { s.lanes[l] with mark := s.lanes[l].mark + 1 }).stands := by
          refine stands_of hs (by simp) (by simp) (fun n _ => id) (fun m _ hstop => ?_) (.of_eq (by simp))
          rw [State.setLane_at]
          split
          · rename_i hlm; subst hlm; exact hstop
          · exact hstop
        unfold State.checkHead
        split
        · exact hmoved
        · split
          · exact hmoved
          · split
            · exact reach_stands hmoved l _
            · exact hmoved
      · exact hs
    · rename_i hreverse
      rw [if_neg hreverse] at hcounted
      exact stands_of hs (by simp) (by simp) (fun n _ => s.checkReverse_keeps l (·.isLatched (.safe n) = true) (isLatched_stays _))
        (fun m _ => hcounted m) (.of_eq (by simp))

theorem handCount_stands {s : State} (hs : s.stands) (src : Source) (up : Bool) : (s.handCount src up).stands := by
  unfold State.handCount
  refine foldl_holds State.stands _ (fun _ l ht => laneCount_stands ht up l) _ _ ?_
  split
  · exact hs
  · exact stands_of_blocks hs rfl rfl rfl rfl (fun _ => id)

/-- A release only takes outputs out of the held ones. -/
theorem Run.release_held_le (r : Run) (i : Nat) (h : r.release.held.getLsbD i = true) : r.held.getLsbD i = true := by
  have hfold (xs : List (Pulse × Nat)) (m : BitVec 12)
      (hm : (xs.foldl (fun m x => m &&& ~~~ outputBit x.1.output) m).getLsbD i = true) : m.getLsbD i = true := by
    induction xs generalizing m with
    | nil => exact hm
    | cons x rest ih =>
      have := ih _ hm
      rw [BitVec.getLsbD_and, Bool.and_eq_true] at this
      exact this.1
  exact hfold _ _ h

theorem Run.turnBurst_continues (r : Run) : r.Continues r.turnBurst := by
  unfold Run.turnBurst; split <;> exact ⟨rfl, rfl, rfl, rfl⟩

/-- What a run's event leaves of the run, before its starts: the run goes on. -/
theorem Run.released_continues (r : Run) : r.Continues { r.release.turnBurst with eventDone := true } :=
  have h := r.release.turnBurst_continues
  ⟨h.handle, h.fireTime, h.pulses, h.position⟩

@[simp] theorem Run.turnBurst_held (r : Run) : r.turnBurst.held = r.held := by
  unfold Run.turnBurst; split <;> rfl

theorem State.completeRun_runs (s : State) (k : RunSlotId) (r : Run) : (s.completeRun k r).runs = (s.setRun k none).runs := by
  simp [State.completeRun]

theorem State.completeRun_runsOn (s : State) (k : RunSlotId) (r : Run) : RunsOn s (s.completeRun k r) :=
  (RunsOn.setRun_none s k).trans rfl (.of_eq (s.completeRun_runs k r))

/-- A run's event starts no run. -/
theorem State.runEvent_runsOn (s : State) (k : RunSlotId) : RunsOn s (s.runEvent k) := by
  unfold State.runEvent
  split
  · exact .of_eq rfl
  · rename_i r hrun
    have hwritten : RunsOn s (s.setRun k (some { r.release.turnBurst with eventDone := true })) :=
      .setRun hrun r.released_continues fun o _ hheld => r.release_held_le o.val (by simpa using hheld)
    dsimp only
    split
    · exact hwritten.trans rfl (State.completeRun_runsOn _ k _)
    · exact hwritten.trans rfl (State.startPulses_runsOn k _ _)

theorem runEvent_stands {s : State} (hs : s.stands) (k : RunSlotId) : (s.runEvent k).stands :=
  stands_of hs (by simp) (by simp) (fun n _ => s.runEvent_keeps k (·.isLatched (.safe n) = true) (isLatched_stays _))
    (fun l _ => by simp) (s.runEvent_runsOn k).runsFrom

/-! ### A hold begins or widens -/

/-- The runs left by a hold name no output of the set, and are those that were there. -/
theorem State.holdOutputs_at {s : State} {g : BitVec 12} {k : RunSlotId} {r : Run} (h : (s.holdOutputs g).runs[k] = some r) :
    s.runs[k] = some r ∧ ∀ x ∈ r.pulses, g.getLsbD x.output.val = false := by
  rw [State.holdOutputs, State.abortNaming_at, State.forceInactive_runs, Option.filter_eq_some_iff] at h
  obtain ⟨hrun, hnames⟩ := h
  refine ⟨hrun, fun x hx => ?_⟩
  rw [Bool.not_eq_true', Bool.eq_false_iff, Ne, Run.names_iff] at hnames
  by_contra hbit
  exact hnames ⟨x, hx, by simpa using hbit⟩

/-- What a hold takes stands under it: `t` is the state with the safe inputs as they become, of which the outputs `g` and the lanes
`b` are held anew. -/
theorem hold_stands {s t : State} (hs : s.stands) {g : BitVec 12} {b : BitVec 4}
    (hframe : t = { s with safes := t.safes })
    (houtputs : ∀ o, t.outputHeld o = true → s.outputHeld o = true ∨ g.getLsbD o.val = true)
    (hlanes : ∀ l, t.laneHeld l = true → s.laneHeld l = true ∨ b.getLsbD l.val = true) {u : State}
    (hu : u = { (t.holdOutputs g).haltLanes b with alarms := u.alarms, link := u.link })
    (halarms : ∀ n : SafeId, t.safes[n].hold = true → u.alarms.isLatched (.safe n) = true) : u.stands := by
  have hsafes : u.safes = t.safes := by rw [hu]; simp
  have hheld : u.outputHeld = t.outputHeld := by funext o; simp only [State.outputHeld, hsafes]
  have hheldLanes : u.laneHeld = t.laneHeld := by funext l; simp only [State.laneHeld, hsafes]
  have hlane (l : LaneId) : u.lanes[l] = (s.haltLanes b).lanes[l] := by
    have ht : t.lanes = s.lanes := by rw [hframe]
    rw [hu]
    simp only [State.haltLanes_at, State.holdOutputs_lanes, ht]
  have houtput (o : OutputId) : u.outputs[o] = (s.forceInactive g).outputs[o] := by
    have ht : t.outputs = s.outputs := by rw [hframe]
    rw [hu]
    simp only [State.haltLanes_outputs, State.holdOutputs, State.abortNaming_outputs, State.forceInactive_at, ht]
  have hrun {k : RunSlotId} {r : Run} (hr : u.runs[k] = some r) :
      s.runs[k] = some r ∧ ∀ x ∈ r.pulses, g.getLsbD x.output.val = false := by
    have ht : t.runs = s.runs := by rw [hframe]
    rw [hu] at hr
    have := State.holdOutputs_at (s := t) (g := g) (k := k) (r := r) (by simpa using hr)
    rwa [ht] at this
  have hmode (o : OutputId) : u.outputs[o].mode = s.outputs[o].mode := by
    rw [houtput, State.forceInactive_at]
    split <;> rfl
  constructor
  · intro n hold
    rw [hsafes] at hold
    exact halarms n hold
  · intro l hl
    rw [hheldLanes] at hl
    rw [hlane]
    exact State.haltLanes_stopped ((hlanes l hl).symm.imp_right (hs.lanes l))
  · intro o ho
    rw [hheld, hmode] at ho
    rw [houtput, State.forceInactive_at]
    split
    · rfl
    · rename_i hnot
      rcases ho with ho | hpulse
      · rcases houtputs o ho with hbefore | hbit
        · exact hs.levels o (.inl hbefore)
        · cases hstatic : s.outputs[o].mode with
          | pulseMode => exact hs.levels o (.inr hstatic)
          | staticMode => exact absurd ⟨hbit, hstatic⟩ hnot
      · exact hs.levels o (.inr hpulse)
  · intro k r hr x hx
    obtain ⟨hbefore, hfree⟩ := hrun hr
    rw [hheld, Bool.eq_false_iff]
    intro ho
    rcases houtputs x.output ho with hwas | hbit
    · rw [hs.unnamed k r hbefore x hx] at hwas; cases hwas
    · rw [hfree x hx] at hbit; cases hbit
  · intro k r o hr hstatic
    rw [hmode] at hstatic
    exact hs.unheld k r o (hrun hr).1 hstatic

/-- What is held after one safe input is written: by the others as before, and by this one as it then is. -/
theorem State.setSafe_outputHeld (s : State) (n : SafeId) (x : SafeInput) (o : OutputId)
    (h : (s.setSafe n x).outputHeld o = true) : s.outputHeld o = true ∨ x.hold = true ∧ x.group.getLsbD o.val = true := by
  obtain ⟨m, hold, hbit⟩ := ((s.setSafe n x).outputHeld_iff o).mp h
  rw [State.setSafe_at] at hold hbit
  split at hold
  · rename_i hnm
    rw [if_pos hnm] at hbit
    exact .inr ⟨hold, hbit⟩
  · rename_i hnm
    rw [if_neg hnm] at hbit
    exact .inl ((s.outputHeld_iff o).mpr ⟨m, hold, hbit⟩)

theorem State.setSafe_laneHeld (s : State) (n : SafeId) (x : SafeInput) (l : LaneId)
    (h : (s.setSafe n x).laneHeld l = true) : s.laneHeld l = true ∨ x.hold = true ∧ x.binding.getLsbD l.val = true := by
  obtain ⟨m, hold, hbit⟩ := ((s.setSafe n x).laneHeld_iff l).mp h
  rw [State.setSafe_at] at hold hbit
  split at hold
  · rename_i hnm
    rw [if_pos hnm] at hbit
    exact .inr ⟨hold, hbit⟩
  · rename_i hnm
    rw [if_neg hnm] at hbit
    exact .inl ((s.laneHeld_iff l).mpr ⟨m, hold, hbit⟩)

theorem State.holdOutputs_latched {s : State} {g : BitVec 12} {a : Alarm} (h : s.alarms.isLatched a = true) :
    (s.holdOutputs g).alarms.isLatched a = true :=
  s.holdOutputs_keeps g (·.isLatched a = true) (isLatched_stays a) h

theorem onset_stands {s : State} (hs : s.stands) (n : SafeId) : (s.onset n).stands := by
  refine hold_stands hs (t := s.setSafe n { s.safes[n] with hold := true }) (g := s.safes[n].group) (b := s.safes[n].binding) rfl
    (fun o ho => ?_) (fun l hl => ?_) (State.latch_only _ _) fun m hold => ?_
  · exact (s.setSafe_outputHeld n _ o ho).imp_right (·.2)
  · exact (s.setSafe_laneHeld n _ l hl).imp_right (·.2)
  · rw [State.onset, State.latch_isLatched, Bool.or_eq_true, decide_eq_true_eq]
    by_cases hnm : n = m
    · exact .inr (congrArg Alarm.safe hnm)
    · rw [State.setSafe_at, if_neg hnm] at hold
      rw [State.haltLanes_alarms]
      exact .inl (State.holdOutputs_latched (hs.alarms m hold))

/-- A safe input written without widening its hold. -/
theorem setSafe_stands {s : State} (hs : s.stands) {n : SafeId} {x : SafeInput}
    (hhold : x.hold = true → s.safes[n].hold = true ∧ x.group = s.safes[n].group ∧ x.binding = s.safes[n].binding) :
    (s.setSafe n x).stands := by
  have houtput (o : OutputId) (ho : (s.setSafe n x).outputHeld o = true) : s.outputHeld o = true := by
    rcases s.setSafe_outputHeld n x o ho with h | ⟨hx, hbit⟩
    · exact h
    · obtain ⟨hold, hgroup, -⟩ := hhold hx
      exact (s.outputHeld_iff o).mpr ⟨n, hold, hgroup ▸ hbit⟩
  have hlane (l : LaneId) (hl : (s.setSafe n x).laneHeld l = true) : s.laneHeld l = true := by
    rcases s.setSafe_laneHeld n x l hl with h | ⟨hx, hbit⟩
    · exact h
    · obtain ⟨hold, -, hbinding⟩ := hhold hx
      exact (s.laneHeld_iff l).mpr ⟨n, hold, hbinding ▸ hbit⟩
  refine ⟨fun m hold => ?_, fun l hl => hs.lanes l (hlane l hl), fun o ho => hs.levels o (ho.imp_left (houtput o)),
    fun k r hr y hy => ?_, hs.unheld⟩
  · rw [State.setSafe_at] at hold
    split at hold
    · rename_i hnm
      subst hnm
      exact hs.alarms n (hhold hold).1
    · exact hs.alarms m hold
  · rw [Bool.eq_false_iff]
    intro ho
    have := houtput _ ho
    rw [hs.unnamed k r hr y hy] at this
    cases this

theorem installSafe_stands {s : State} (hs : s.stands) (n : SafeId) (d : Detection) (g : BitVec 12) (b : BitVec 4) :
    (s.installSafe n d g b).stands := by
  have hwritten (hoff : s.safes[n].hold = false) :
      (s.setSafe n { s.safes[n] with detection := d, group := g, binding := b }).stands :=
    setSafe_stands hs fun hold => absurd hold (by simpa using hoff)
  unfold State.installSafe
  dsimp only
  split
  · rename_i hold
    refine hold_stands hs (t := s.setSafe n { s.safes[n] with detection := d, group := g, binding := b }) rfl (fun o ho => ?_)
      (fun l hl => ?_) rfl fun m hm => ?_
    · refine (s.setSafe_outputHeld n _ o ho).elim .inl fun h => ?_
      by_cases hbefore : s.safes[n].group.getLsbD o.val = true
      · exact .inl ((s.outputHeld_iff o).mpr ⟨n, hold, hbefore⟩)
      · have hbit := h.2
        rw [Bool.not_eq_true] at hbefore
        exact .inr (by simp only [BitVec.getLsbD_and, BitVec.getLsbD_not, hbit, hbefore, o.isLt]; rfl)
    · refine (s.setSafe_laneHeld n _ l hl).elim .inl fun h => ?_
      by_cases hbefore : s.safes[n].binding.getLsbD l.val = true
      · exact .inl ((s.laneHeld_iff l).mpr ⟨n, hold, hbefore⟩)
      · have hbit := h.2
        rw [Bool.not_eq_true] at hbefore
        exact .inr (by simp only [BitVec.getLsbD_and, BitVec.getLsbD_not, hbit, hbefore, l.isLt]; rfl)
    · have hbefore : s.safes[m].hold = true := by
        rw [State.setSafe_at] at hm
        split at hm
        · rename_i hnm; subst hnm; exact hold
        · exact hm
      rw [State.haltLanes_alarms]
      exact State.holdOutputs_latched (hs.alarms m hbefore)
  · rename_i hoff
    rw [Bool.not_eq_true] at hoff
    split
    · exact onset_stands (hwritten hoff) n
    · exact hwritten hoff

end Sys2Proof.Machine

namespace Sys2Proof.Machine

/-! ### The requests -/

theorem setLane_stands {s : State} (hs : s.stands) {l : LaneId} {x : Lane}
    (hlane : s.laneHeld l = true → s.lanes[l].state.stopped → x.state.stopped) : (s.setLane l x).stands := by
  refine stands_of hs rfl rfl (fun _ _ => id) (fun m hm hstop => ?_) (.of_eq rfl)
  rw [State.setLane_at]
  split
  · rename_i hlm; subst hlm; exact hlane hm hstop
  · exact hstop

/-- An output is written with its level INACTIVE where it must be; to STATIC it comes without a holder. -/
theorem setOutput_stands {s : State} (hs : s.stands) {o : OutputId} {x : Output}
    (hlevel : s.outputHeld o = true ∨ x.mode = .pulseMode → x.level = .inactive)
    (hholders : x.mode = .staticMode → ∀ (k : RunSlotId) (r : Run), s.runs[k] = some r → r.held.getLsbD o.val = false) :
    (s.setOutput o x).stands where
  alarms := hs.alarms
  lanes := hs.lanes
  levels p hp := by
    rw [State.setOutput_at] at hp ⊢
    split at hp
    · rename_i hop; subst hop; rw [if_pos rfl]; exact hlevel hp
    · rename_i hop; rw [if_neg hop]; exact hs.levels p hp
  unnamed := hs.unnamed
  unheld k r p hr hmode := by
    rw [State.setOutput_at] at hmode
    split at hmode
    · rename_i hop; subst hop; exact hholders hmode k r hr
    · exact hs.unheld k r p hr hmode

theorem State.dropHolds_at (s : State) (o : OutputId) (k : RunSlotId) :
    (s.dropHolds o).runs[k] = (s.runs[k]).map (Run.dropHold o) := by
  simp only [State.dropHolds, Fin.getElem_fin, Vector.getElem_map]

theorem Run.dropHold_getLsbD (o p : OutputId) (r : Run) :
    (r.dropHold o).held.getLsbD p.val = (r.held.getLsbD p.val && !decide (o = p)) := by
  simp only [Run.dropHold, BitVec.getLsbD_and, BitVec.getLsbD_not, outputBit_getLsbD, p.isLt, decide_true, Bool.true_and]

/-- The holds are dropped before or after the output is written. -/
theorem State.dropHolds_setOutput (s : State) (o : OutputId) (x : Output) :
    (s.setOutput o x).dropHolds o = (s.dropHolds o).setOutput o x := rfl

theorem State.dropHolds_runsOn (s : State) (o : OutputId) : RunsOn s (s.dropHolds o) := by
  intro k r hr
  rw [State.dropHolds_at, Option.map_eq_some_iff] at hr
  obtain ⟨r0, hr0, rfl⟩ := hr
  refine ⟨r0, hr0, ⟨rfl, rfl, rfl, rfl⟩, fun p _ hheld => ?_⟩
  rw [Run.dropHold_getLsbD, Bool.and_eq_true] at hheld
  exact hheld.1

theorem dropHolds_stands {s : State} (hs : s.stands) (o : OutputId) : (s.dropHolds o).stands :=
  stands_of hs rfl rfl (fun _ _ => id) (fun _ _ => id) (s.dropHolds_runsOn o).runsFrom

theorem writeOutput_stands {s : State} (hs : s.stands) (o : OutputId) (pol : Polarity) (mode : OutputMode) :
    (s.writeOutput o pol mode).stands := by
  unfold State.writeOutput
  dsimp only
  split
  · exact setOutput_stands hs (fun h => hs.levels o h) fun hmode k r hr => hs.unheld k r o hr hmode
  · split
    · rw [State.dropHolds_setOutput]
      refine setOutput_stands (dropHolds_stands hs o) (fun _ => rfl) fun _ k r hr => ?_
      rw [State.dropHolds_at, Option.map_eq_some_iff] at hr
      obtain ⟨r0, -, rfl⟩ := hr
      rw [Run.dropHold_getLsbD, decide_eq_true rfl, Bool.not_true, Bool.and_false]
    · exact setOutput_stands hs (fun _ => rfl) nofun

theorem protectOutputs_stands {s : State} (hs : s.stands) (set : Nat) (flag : Bool) : (s.protectOutputs set flag).stands := by
  have hsame (o : OutputId) : (s.protectOutputs set flag).outputs[o].mode = s.outputs[o].mode ∧
      (s.protectOutputs set flag).outputs[o].level = s.outputs[o].level := by
    simp only [State.protectOutputs, Fin.getElem_fin, Vector.getElem_ofFn]
    split <;> exact ⟨rfl, rfl⟩
  constructor
  · exact hs.alarms
  · exact hs.lanes
  · intro o ho
    rw [(hsame o).1] at ho
    rw [(hsame o).2]
    exact hs.levels o ho
  · exact hs.unnamed
  · intro k r o hr hmode
    rw [(hsame o).1] at hmode
    exact hs.unheld k r o hr hmode

/-- No clear reaches the alarm of a hold (R152). -/
theorem clearAlarms_held {s : State} {n : SafeId} (set : BitVec 16) (hold : s.safes[n].hold = true)
    (h : s.alarms.isLatched (.safe n) = true) : (s.clearAlarms set).alarms.isLatched (.safe n) = true := by
  have hheld : s.heldAlarms.getLsbD (Alarm.safe n).number = true := (s.heldAlarms_bit _).mpr ⟨n, rfl, hold⟩
  simp only [AlarmSet.isLatched] at h
  simp only [State.clearAlarms, AlarmSet.isLatched, State.setAlarms, BitVec.getLsbD_and, BitVec.getLsbD_or, h, hheld, Bool.or_true,
    Bool.and_true]

/-- A disarmed lane is OFF, and the others are left alone. -/
theorem State.disarm_lanes (s : State) (l : LaneId) :
    (s.disarm l).lanes = (s.setLane l { s.lanes[l] with queue := [], state := .off }).lanes :=
  foldl_keeps State.lanes _ (fun t h => by simp [State.flushShot]) _ _

theorem disarm_stands {s : State} (hs : s.stands) (l : LaneId) : (s.disarm l).stands := by
  refine stands_of hs (by simp) (by simp) (fun n _ => s.disarm_keeps l (·.isLatched (.safe n) = true) (isLatched_stays _))
    (fun m _ hstop => ?_) (.of_eq (by simp))
  simp only [State.disarm_lanes, State.setLane_at]
  split
  · exact .inl rfl
  · exact hstop

/-- An admission leaves the state of its lane. -/
theorem State.admitEntry_laneState (s : State) (l m : LaneId) (e : Entry) (trigger : Position) (i : ProgramId) (h : Handle) :
    (s.admitEntry l e trigger i h).lanes[m].state = s.lanes[m].state := by
  simp only [State.admitEntry_lanes, vector_getElem_set]
  split
  · rename_i hlm; subst hlm; rfl
  · rfl

/-- A cancel takes the handle out of its lane's queue. -/
theorem State.cancelShot_lanes (s : State) (h : Handle) (sh : Shot) : (s.cancelShot h sh).lanes =
    (s.setLane sh.lane { s.lanes[sh.lane] with queue := s.lanes[sh.lane].queue.filter (fun j => j != h) }).lanes := by
  simp [State.cancelShot]

theorem cancelShot_stands {s : State} (hs : s.stands) (h : Handle) (sh : Shot) : (s.cancelShot h sh).stands := by
  refine stands_of hs (by simp) (by simp) (fun n _ => s.cancelShot_keeps h sh (·.isLatched (.safe n) = true) (isLatched_stays _))
    (fun m _ hstop => ?_) (.of_eq (by simp))
  simp only [State.cancelShot_lanes, State.setLane_at]
  split
  · rename_i hlm; subst hlm; exact hstop
  · exact hstop

theorem driven_stands {s : State} (hs : s.stands) {o : OutputId} {level : DriveLevel} (static : s.outputs[o].mode ≠ .pulseMode)
    (free : level = .active → s.outputHeld o = false) : (s.setOutput o { s.outputs[o] with level := level }).stands := by
  refine setOutput_stands hs (fun h => ?_) fun hmode k r hr => hs.unheld k r o hr hmode
  cases level with
  | inactive => rfl
  | active =>
    rcases h with hheld | hpulse
    · rw [free rfl] at hheld; cases hheld
    · exact absurd hpulse static

theorem request_stands {s t : State} (hmove : RequestMove s t) (hs : s.stands) : t.stands := by
  cases hmove with
  | lane l x hlane => exact setLane_stands hs fun hheld hstop => hlane.held hheld hstop
  | disarmed l => exact disarm_stands hs l
  | admitted =>
    exact stands_of hs (by simp) (by simp) (fun _ _ h => by simpa using h)
      (fun m _ hstop => by rwa [State.admitEntry_laneState]) (.of_eq (by simp))
  | cancelled => exact cancelShot_stands hs _ _
  | outputWritten o pol mode => exact writeOutput_stands hs o pol mode
  | outputDriven static free => exact driven_stands hs static free
  | outputsProtected set flag => exact protectOutputs_stands hs set flag
  | safeInstalled n d g b => exact installSafe_stands hs n d g b
  | safeReleased n => exact setSafe_stands hs nofun
  | alarmsCleared set => exact stands_of hs rfl rfl (fun n => clearAlarms_held set) (fun _ _ => id) (.of_eq rfl)
  | reportsEnabled set => exact stands_of_blocks hs rfl rfl rfl rfl (fun _ => id)
  | _ => exact stands_of_blocks hs (by simp) (by simp) (by simp) (by simp) (fun _ h => by simpa using h)

/-! ### The safe holds through a step -/

theorem halfTickPasses_stands {s : State} (hs : s.stands) : s.halfTickPasses.stands := by
  refine stands_of hs rfl rfl (fun _ _ => id) (fun _ _ => id) fun k r hr => ?_
  simp only [State.halfTickPasses, Fin.getElem_fin, Vector.getElem_map, Option.map_eq_some_iff] at hr
  obtain ⟨r0, hr0, rfl⟩ := hr
  exact ⟨r0, hr0, rfl, fun _ _ => id⟩

/-- The warm reset keeps the alarms of the holds that are ON, stops every lane, and leaves no run and no ACTIVE level. -/
theorem warmReset_stands {s : State} (hs : s.stands) : s.warmReset.stands where
  alarms n hold := by
    have hheld : s.heldAlarms.getLsbD (Alarm.safe n).number = true := (s.heldAlarms_bit _).mpr ⟨n, rfl, hold⟩
    have hlatched := hs.alarms n hold
    simp only [AlarmSet.isLatched] at hlatched ⊢
    simp only [State.warmReset, BitVec.getLsbD_and, hlatched, hheld, Bool.and_self]
  lanes l _ := by simp [State.warmReset, Lane.warm, LaneState.stopped]
  levels o _ := by simp [State.warmReset, Output.warm]
  unnamed k r hr := by simp [State.warmReset] at hr
  unheld k r o hr := by simp [State.warmReset] at hr

theorem coldValues_stands (s : State) : s.coldValues.stands where
  alarms n hold := by simp [State.coldValues, State.cold, SafeInput.cold] at hold
  lanes l _ := by simp [State.coldValues, State.cold, Lane.cold, LaneState.stopped]
  levels o _ := by simp [State.coldValues, State.cold, Output.cold]
  unnamed k r hr := by simp [State.coldValues, State.cold] at hr
  unheld k r o hr := by simp [State.coldValues, State.cold] at hr

theorem aside_stands {s t : State} (hmove : AsideMove s t) (hs : s.stands) : t.stands :=
  have same := hmove.same
  stands_of hs same.safes same.outputs same.alarms (fun l _ => by rw [same.lanes]; exact id) (.of_eq same.runs)

theorem ownKept_stands : OwnKept State.stands where
  aside move h := aside_stands move h
  request _ move h := request_stands move h
  count src up _ _ h := handCount_stands h src up
  pacerExpiry {s n} _ h :=
    handCount_stands (s := s.setPacer n _) (stands_of_blocks h rfl rfl rfl rfl (fun _ => id)) _ _
  runEvent k h := runEvent_stands h k
  frameLevel _ _ h := stands_of_blocks h rfl rfl rfl rfl (fun _ => id)
  frameStart {s} c _ h := stands_of_blocks h (by simp) (by simp) (by simp) (by simp)
    (fun n => s.frameStarted_keeps c (·.isLatched (.safe n) = true) (isLatched_stays _))
  expectationLost {s} c h := stands_of_blocks h (by simp) (by simp) (by simp) (by simp)
    (fun n => s.expireOldest_keeps c (·.isLatched (.safe n) = true) (isLatched_stays _))
  safeLevel _ _ h := setSafe_stands h fun hold => ⟨hold, rfl, rfl⟩
  onset n h := onset_stands h n
  halfTick _ _ h := halfTickPasses_stands h
  warmReset h := warmReset_stands h

theorem kept_stands : Kept State.stands where
  toOwnKept := ownKept_stands
  coldReset _ := coldValues_stands _
  rise _ _ h := stands_of_blocks h rfl rfl rfl rfl (fun _ => id)

/-- Settles O55: the two properties together are what stands output by output, lane by lane and run by run, which every move keeps. -/
theorem stepKeepsTheSafeHolds : Obligations.StepKeepsTheSafeHolds := fun s t hholds hmodes hstep =>
  t.stands_iff.mp (kept_stands.step (s.stands_iff.mpr ⟨hholds, hmodes⟩) hstep)

end Sys2Proof.Machine

/-! SUPPORT. The times of runs, pacers and expectations (R14, R88, R91, R120, R121, R126) through a step: only the passing of half a
tick moves them against the timestamp, a fire comes at a whole tick, and an expectation is taken at the timestamp of its pulse
start. -/

namespace Sys2Proof.Machine

/-! ### One pacer, one camera -/

/-- The times of one pacer agree with the timestamp `now`, in the second half of a tick or not (R14, R15). -/
def Pacer.inTime (x : Pacer) (now : Timestamp) (half : Bool) : Prop :=
  1 ≤ x.interval ∧ (∀ m, x.pendingInterval = some m → 1 ≤ m) ∧
    (half = true → x.running = true → ∀ t0, x.intervalStart = some t0 → (now - t0).toNat < x.interval)

/-- An entry expires a window after its pulse start and is none older than that, in the second half of a tick younger (R120, R126). -/
def Expectation.inTime (e : Expectation) (window : Nat) (now : Timestamp) (half : Bool) : Prop :=
  e.deadline = e.pulseStart + BitVec.ofNat 32 window ∧ (now - e.pulseStart).toNat ≤ window ∧
    (half = true → (now - e.pulseStart).toNat < window)

/-- The entries of one camera agree with the timestamp, from the oldest to the newest (R121). -/
def Camera.inTime (x : Camera) (now : Timestamp) (half : Bool) : Prop :=
  1 ≤ x.settings.window ∧ x.settings.window ≤ 16777216 ∧
    (∀ e ∈ x.queue, e.inTime x.settings.window now half) ∧
    x.queue.Pairwise (fun e f => (now - f.pulseStart).toNat ≤ (now - e.pulseStart).toNat)

theorem State.pacersInTime_iff (s : State) : s.pacersInTime ↔ ∀ n : PacerId, s.pacers[n].inTime s.timestamp s.halfTick := Iff.rfl

theorem State.expectationsInTime_iff (s : State) :
    s.expectationsInTime ↔ ∀ c : CameraId, s.cameras[c].inTime s.timestamp s.halfTick := Iff.rfl

/-- Entries that leave disturb none that stay. -/
theorem Camera.inTime_of_sublist {x y : Camera} {now : Timestamp} {half : Bool} (h : x.inTime now half)
    (hsettings : y.settings = x.settings) (hqueue : y.queue.Sublist x.queue) : y.inTime now half := by
  obtain ⟨hlow, hhigh, hentries, horder⟩ := h
  rw [Camera.inTime, hsettings]
  exact ⟨hlow, hhigh, fun e he => hentries e (hqueue.subset he), horder.sublist hqueue⟩

/-- An entry taken now is the newest. -/
theorem Camera.push_inTime {x : Camera} {now : Timestamp} {half : Bool} (h : x.inTime now half) (handle : Handle) :
    (x.push handle now).inTime now half := by
  obtain ⟨hlow, hhigh, hentries, horder⟩ := h
  have hnow : (now - now).toNat = 0 := by simp
  refine ⟨hlow, hhigh, fun e he => ?_, List.pairwise_append.mpr ⟨horder, List.pairwise_singleton _ _, fun e _ f hf => ?_⟩⟩
  · rcases List.mem_append.mp he with hold | hnew
    · exact hentries e hold
    · rw [List.mem_singleton.mp hnew]
      exact ⟨rfl, hnow ▸ Nat.zero_le _, fun _ => hnow ▸ hlow⟩
  · rw [List.mem_singleton.mp hf]
    exact hnow ▸ Nat.zero_le _

theorem Camera.triggered_inTime {x : Camera} {now : Timestamp} {half : Bool} (h : x.inTime now half) (t : Timestamp) :
    (x.triggered t).inTime now half := h

/-! ### Operations inside one moment -/

/-- The operation takes no time, leaves the pacers, takes no new entry and starts no run. -/
theorem timesSound_of {s t : State} (h : s.timesSound) (htimestamp : t.timestamp = s.timestamp) (hhalf : t.halfTick = s.halfTick)
    (hphase : t.phase = .coldReset → s.phase = .coldReset) (hpacers : t.pacers = s.pacers)
    (hcameras : ∀ c : CameraId, t.cameras[c].settings = s.cameras[c].settings ∧ t.cameras[c].queue.Sublist s.cameras[c].queue)
    (hruns : RunsOn s t) : t.timesSound := by
  obtain ⟨hrunTimes, hpacerTimes, hcameraTimes, hquiet⟩ := h
  refine ⟨fun k r hr => ?_, ?_, (t.expectationsInTime_iff).mpr fun c => ?_, fun hcold => ?_⟩
  · obtain ⟨r0, hr0, hcontinues, -⟩ := hruns k r hr
    rw [htimestamp, hhalf, hcontinues.position, hcontinues.fireTime]
    exact hrunTimes k r0 hr0
  · rwa [State.pacersInTime, hpacers, htimestamp, hhalf]
  · rw [htimestamp, hhalf]
    exact Camera.inTime_of_sublist ((s.expectationsInTime_iff).mp hcameraTimes c) (hcameras c).1 (hcameras c).2
  · obtain ⟨hnone, hempty, hstopped⟩ := hquiet (hphase hcold)
    refine ⟨fun k => ?_, fun c => ?_, hpacers ▸ hstopped⟩
    · cases hr : t.runs[k] with
      | none => rfl
      | some r =>
        obtain ⟨r0, hr0, -⟩ := hruns k r hr
        rw [hnone k] at hr0
        cases hr0
    · exact List.sublist_nil.mp (hempty c ▸ (hcameras c).2)

/-- The operation does not touch times, cameras and runs. -/
theorem timesSound_of_eq {s t : State} (h : s.timesSound) (htimestamp : t.timestamp = s.timestamp) (hhalf : t.halfTick = s.halfTick)
    (hphase : t.phase = .coldReset → s.phase = .coldReset) (hpacers : t.pacers = s.pacers) (hcameras : t.cameras = s.cameras)
    (hruns : t.runs = s.runs) : t.timesSound :=
  timesSound_of h htimestamp hhalf hphase hpacers (fun c => by rw [hcameras]; exact ⟨rfl, .refl _⟩) (.of_eq hruns)

/-- One camera is written without a new entry. -/
theorem setCamera_timesSound {s : State} (h : s.timesSound) {c : CameraId} {x : Camera} (hsettings : x.settings = s.cameras[c].settings)
    (hqueue : x.queue.Sublist s.cameras[c].queue) : (s.setCamera c x).timesSound := by
  refine timesSound_of h rfl rfl id rfl (fun d => ?_) (.of_eq rfl)
  rw [State.setCamera_at]
  split
  · rename_i hcd; subst hcd; exact ⟨hsettings, hqueue⟩
  · exact ⟨rfl, .refl _⟩

/-! ### Pulse starts and fires -/

/-- The times of runs and expectations alone. -/
def State.pulsesInTime (s : State) : Prop := s.runsInTime ∧ s.expectationsInTime

theorem pulsesInTime_of {s t : State} (h : s.pulsesInTime) (htimestamp : t.timestamp = s.timestamp) (hhalf : t.halfTick = s.halfTick)
    (hcameras : ∀ c : CameraId, t.cameras[c].inTime s.timestamp s.halfTick) (hruns : RunsOn s t) : t.pulsesInTime := by
  refine ⟨fun k r hr => ?_, (t.expectationsInTime_iff).mpr fun c => ?_⟩
  · obtain ⟨r0, hr0, hcontinues, -⟩ := hruns k r hr
    rw [htimestamp, hhalf, hcontinues.position, hcontinues.fireTime]
    exact h.1 k r0 hr0
  · rw [htimestamp, hhalf]
    exact hcameras c

/-- A pulse start is taken at the timestamp (R92), so the expectation is the newest. -/
theorem handTrigger_pulsesInTime {s : State} (h : s.pulsesInTime) {k : RunSlotId} {r : Run} (hrun : s.runs[k] = some r)
    (c : CameraId) : (s.handTrigger k r c).pulsesInTime := by
  have hnow : r.pulseStartTime = s.timestamp := (h.1 k r hrun).2
  have hcamera := (s.expectationsInTime_iff).mp h.2
  refine pulsesInTime_of h (by simp) (by simp) (fun d => ?_) (State.handTrigger_runsOn hrun c)
  unfold State.handTrigger
  dsimp only
  split
  · rw [State.setCamera_at]
    split
    · exact hcamera c
    · exact hcamera d
  · simp only [State.mapShot_cameras, State.setCamera_at, hnow]
    split
    · exact Camera.push_inTime (Camera.triggered_inTime (hcamera c) _) _
    · exact hcamera d

theorem startPulse_pulsesInTime {s : State} (h : s.pulsesInTime) (k : RunSlotId) (x : Pulse × Nat) :
    (State.startPulse k s x).pulsesInTime := by
  have hruns := s.startPulse_runsOn k x
  have hcamera := (s.expectationsInTime_iff).mp h.2
  unfold State.startPulse at hruns ⊢
  split
  · exact h
  · rename_i r hrun
    dsimp only
    split
    · refine pulsesInTime_of h rfl rfl hcamera (.setRun hrun (r.skipPulse_continues _ _) fun _ _ => by simp)
    · have hheld (t : State) (ht : t.timestamp = s.timestamp ∧ t.halfTick = s.halfTick ∧ t.cameras = s.cameras ∧ t.runs = s.runs) :
          (t.setRun k (some { r with held := r.held ||| outputBit x.1.output })).pulsesInTime := by
        obtain ⟨htimestamp, hhalf, hcameras, ht⟩ := ht
        refine ⟨fun j r1 hr1 => ?_, ?_⟩
        · rw [State.setRun_at] at hr1
          rw [State.setRun_timestamp, State.setRun_halfTick, htimestamp, hhalf]
          split at hr1
          · rename_i hkj
            subst hkj
            obtain rfl := Option.some.inj hr1
            exact h.1 k r hrun
          · exact h.1 j r1 (by rw [← hr1, ht])
        · simpa only [State.expectationsInTime, State.setRun_cameras, State.setRun_timestamp, State.setRun_halfTick, hcameras,
            htimestamp, hhalf] using h.2
      have hmarked (js : List RunSlotId) : (if js.isEmpty then s else s.markCollision k js).timestamp = s.timestamp ∧
          (if js.isEmpty then s else s.markCollision k js).halfTick = s.halfTick ∧
          (if js.isEmpty then s else s.markCollision k js).cameras = s.cameras ∧
          (if js.isEmpty then s else s.markCollision k js).runs = s.runs := by
        split <;> simp
      split
      · exact hheld _ (hmarked _)
      · exact handTrigger_pulsesInTime (hheld _ (hmarked _)) (by rw [State.setRun_at, if_pos rfl]) _

/-- Pulse starts while RSTN is high. -/
theorem startPulses_timesSound {s : State} (h : s.timesSound) (awake : s.phase ≠ .coldReset) (k : RunSlotId)
    (xs : List (Pulse × Nat)) : (xs.foldl (State.startPulse k) s).timesSound := by
  obtain ⟨hruns, hpacers, hcameras, -⟩ := h
  obtain ⟨hruns', hcameras'⟩ := foldl_holds State.pulsesInTime _ (fun _ x ht => startPulse_pulsesInTime ht k x) xs s ⟨hruns, hcameras⟩
  refine ⟨hruns', ?_, hcameras', fun hcold => absurd hcold (by simpa using awake)⟩
  simpa only [State.pacersInTime, State.startPulses_pacers, State.startPulses_timestamp, State.startPulses_halfTick] using hpacers

/-- A fire at a whole tick starts a run in time (R88). -/
theorem fireAttempt_timesSound {s : State} (h : s.timesSound) (whole : s.halfTick = false) (awake : s.phase ≠ .coldReset)
    (handle : Handle) : (s.fireAttempt handle).timesSound := by
  have hended (code : OutcomeCode) : (s.endShot handle code).timesSound :=
    timesSound_of_eq h (by simp) (by simp) (by simp) (by simp) (by simp) (by simp)
  unfold State.fireAttempt
  split
  · exact h
  · rename_i sh _
    dsimp only
    split
    · exact hended _
    · split
      · exact hended _
      · rename_i k _
        split
        · refine startPulses_timesSound ?_ (by simpa using awake) _ _
          obtain ⟨hruns, hpacers, hcameras, -⟩ := h
          refine ⟨fun j r hr => ?_, hpacers, hcameras, fun hcold => absurd hcold awake⟩
          rw [State.mapShot_runs, State.setRun_at] at hr
          split at hr
          · obtain rfl := Option.some.inj hr
            simp [State.newRun, whole]
          · exact hruns j r hr
        · exact hended _

theorem reach_timesSound {s : State} (h : s.timesSound) (whole : s.halfTick = false) (awake : s.phase ≠ .coldReset) (l : LaneId)
    (j : Handle) : (s.reach l j).timesSound := by
  have hleft : ((s.setLane l { s.lanes[l] with queue := s.lanes[l].queue.tail }).dropRef j).timesSound :=
    timesSound_of_eq h (by simp) (by simp) (by simp) (by simp) (by simp) (by simp)
  have hended (code : OutcomeCode) :
      (((s.setLane l { s.lanes[l] with queue := s.lanes[l].queue.tail }).dropRef j).endShot j code).timesSound :=
    timesSound_of_eq hleft (by simp) (by simp) (by simp) (by simp) (by simp) (by simp)
  unfold State.reach
  dsimp only
  split
  · exact fireAttempt_timesSound hleft (by simpa using whole) (by simpa using awake) j
  · exact hended _
  · exact hended _
  · exact hleft

theorem laneCount_timesSound {s : State} (h : s.timesSound) (whole : s.halfTick = false) (awake : s.phase ≠ .coldReset) (up : Bool)
    (l : LaneId) : (s.laneCount up l).timesSound := by
  unfold State.laneCount
  dsimp only
  split
  · exact h
  · split
    · split
      · have hmoved : (s.setLane l { s.lanes[l] with mark := s.lanes[l].mark + 1 }).timesSound :=
          timesSound_of_eq h rfl rfl id rfl rfl rfl
        unfold State.checkHead
        split
        · exact hmoved
        · split
          · exact hmoved
          · split
            · exact reach_timesSound hmoved whole awake l _
            · exact hmoved
      · exact h
    · exact timesSound_of_eq h (by simp) (by simp) (by simp) (by simp) (by simp) (by simp)

theorem handCount_timesSound {s : State} (h : s.timesSound) (whole : s.halfTick = false) (awake : s.phase ≠ .coldReset) (src : Source)
    (up : Bool) : (s.handCount src up).timesSound := by
  unfold State.handCount
  refine (foldl_holds (fun t => t.timesSound ∧ t.halfTick = false ∧ t.phase ≠ .coldReset) _ (fun t l ht => ?_) _ _ ?_).1
  · obtain ⟨ht, htwhole, htawake⟩ := ht
    exact ⟨laneCount_timesSound ht htwhole htawake up l, by simpa using htwhole, by simpa using htawake⟩
  · split <;> exact ⟨h, whole, awake⟩

theorem runEvent_timesSound {s : State} (h : s.timesSound) (k : RunSlotId) : (s.runEvent k).timesSound := by
  have hruns := s.runEvent_runsOn k
  unfold State.runEvent at hruns ⊢
  split
  · exact h
  · rename_i r hrun
    have awake : s.phase ≠ .coldReset := fun hcold => by
      have hnone := (h.2.2.2 hcold).1 k
      rw [hrun] at hnone
      cases hnone
    have hgoesOn : (s.setRun k (some { r.release.turnBurst with eventDone := true })).timesSound :=
      timesSound_of h rfl rfl id rfl (fun _ => ⟨rfl, .refl _⟩)
        (.setRun hrun r.released_continues fun o _ hheld => r.release_held_le o.val (by simpa using hheld))
    dsimp only
    split
    · exact timesSound_of hgoesOn (by simp) (by simp) (by simp) (by simp) (fun c => by simp) (State.completeRun_runsOn _ k _)
    · exact startPulses_timesSound hgoesOn awake k _

/-! ### Pacers -/

/-- One pacer is written with times that agree; in the cold reset it does not run. -/
theorem setPacer_timesSound {s : State} (h : s.timesSound) {n : PacerId} {x : Pacer} (hx : x.inTime s.timestamp s.halfTick)
    (awake : s.phase ≠ .coldReset) : (s.setPacer n x).timesSound := by
  obtain ⟨hruns, hpacers, hcameras, -⟩ := h
  refine ⟨hruns, (State.pacersInTime_iff _).mpr fun m => ?_, hcameras, fun hcold => absurd hcold awake⟩
  rw [State.setPacer_at]
  split
  · exact hx
  · exact (s.pacersInTime_iff).mp hpacers m

theorem Pacer.written_inTime {x : Pacer} {now : Timestamp} {half : Bool} (h : x.inTime now half) {interval : Nat}
    (hinterval : 1 ≤ interval) (preset : Option Position) : (x.written interval preset).inTime now half := by
  obtain ⟨hlow, hpending, helapsed⟩ := h
  unfold Pacer.written
  cases hrunning : x.running with
  | true => exact ⟨hlow, fun m hm => Option.some.inj hm ▸ hinterval, fun hhalf _ => helapsed hhalf hrunning⟩
  | false => exact ⟨hinterval, hpending, fun _ hrun => absurd hrun (by simp)⟩

/-- The interval after a promotion is one that was written. -/
theorem Pacer.promoted_le {x : Pacer} {now : Timestamp} {half : Bool} (h : x.inTime now half) :
    1 ≤ x.pendingInterval.getD x.interval := by
  cases hpending : x.pendingInterval with
  | none => exact h.1
  | some m => exact h.2.1 m hpending

theorem Pacer.command_inTime {x : Pacer} {now : Timestamp} {half : Bool} (h : x.inTime now half) (run : Bool) :
    (x.command run now).inTime now half := by
  unfold Pacer.command
  split
  · refine ⟨h.1, h.2.1, fun _ _ t0 ht0 => ?_⟩
    obtain rfl := Option.some.inj ht0
    have hnow : (now - now).toNat = 0 := by simp
    rw [hnow]
    exact h.1
  · exact ⟨x.promoted_le h, nofun, nofun⟩
  · exact h

theorem Pacer.expired_inTime {x : Pacer} {now : Timestamp} {half : Bool} (h : x.inTime now half) : (x.expired now).inTime now half := by
  refine ⟨x.promoted_le h, nofun, fun _ _ t0 ht0 => ?_⟩
  obtain rfl := Option.some.inj ht0
  have hnow : (now - now).toNat = 0 := by simp
  rw [hnow]
  exact x.promoted_le h

theorem Pacer.expiryDue_iff (x : Pacer) (now : Timestamp) : x.expiryDue now = true ↔
    ∃ t0, x.running = true ∧ x.intervalStart = some t0 ∧ x.interval ≤ (now - t0).toNat := by
  cases hstart : x.intervalStart with
  | none => simp [Pacer.expiryDue, hstart]
  | some t0 => simp [Pacer.expiryDue, Pacer.elapsed_of_start hstart, hstart]

/-- A pacer expires at a whole tick, and not while RSTN is low. -/
theorem pacerExpiry_timesSound {s : State} (h : s.timesSound) {n : PacerId} (due : s.pacers[n].expiryDue s.timestamp = true) :
    ((s.setPacer n (s.pacers[n].expired s.timestamp)).handCount (pacerSource n) true).timesSound := by
  obtain ⟨t0, hrunning, hstart, hpassed⟩ := (s.pacers[n].expiryDue_iff s.timestamp).mp due
  have hpacer := (s.pacersInTime_iff).mp h.2.1 n
  have whole : s.halfTick = false := by
    by_contra hhalf
    exact absurd (hpacer.2.2 (by simpa using hhalf) hrunning t0 hstart) (Nat.not_lt.mpr hpassed)
  have awake : s.phase ≠ .coldReset := fun hcold => by
    have hstopped := (h.2.2.2 hcold).2.2 n
    rw [hrunning] at hstopped
    cases hstopped
  exact handCount_timesSound (setPacer_timesSound h (Pacer.expired_inTime hpacer) awake) whole awake _ _

/-! ### Frames, holds and requests -/

theorem tail_sublist {q : List Expectation} {e : Expectation} {rest : List Expectation} (h : q = e :: rest) : rest.Sublist q :=
  h ▸ List.sublist_cons_self e rest

theorem resolved_timesSound {s : State} (h : s.timesSound) (j : Handle) (f : Shot → Shot) :
    ((s.mapShot j f).endIfResolved j).timesSound :=
  timesSound_of_eq h (by simp) (by simp) (by simp) (by simp) (by simp) (by simp)

theorem frameStarted_timesSound {s : State} (h : s.timesSound) (c : CameraId) : (s.frameStarted c).timesSound := by
  unfold State.frameStarted
  dsimp only
  split
  · exact setCamera_timesSound h rfl (.refl _)
  · split
    · split
      · exact timesSound_of_eq (setCamera_timesSound h (c := c) (x := { s.cameras[c] with counter := s.cameras[c].counter + 1 }) rfl
          (.refl _)) (by simp) (by simp) (by simp) (by simp) (by simp) (by simp)
      · rename_i e rest hqueue
        exact resolved_timesSound (setCamera_timesSound h (c := c)
          (x := { s.cameras[c] with counter := s.cameras[c].counter + 1, queue := rest }) rfl (tail_sublist hqueue)) _ _
    · exact setCamera_timesSound h rfl (.refl _)

theorem expireOldest_timesSound {s : State} (h : s.timesSound) (c : CameraId) : (s.expireOldest c).timesSound := by
  unfold State.expireOldest
  dsimp only
  split
  · exact h
  · rename_i e rest hqueue
    exact resolved_timesSound (setCamera_timesSound h (c := c) (x := { s.cameras[c] with queue := rest }) rfl
      (tail_sublist hqueue)) _ _

theorem State.holdOutputs_runsOn (s : State) (g : BitVec 12) : RunsOn s (s.holdOutputs g) := fun _ r hr =>
  ⟨r, (State.holdOutputs_at hr).1, .refl r, fun _ _ => id⟩

theorem holdOutputs_timesSound {s : State} (h : s.timesSound) (g : BitVec 12) : (s.holdOutputs g).timesSound :=
  timesSound_of h (by simp) (by simp) (by simp) (by simp) (fun c => by simp) (s.holdOutputs_runsOn g)

theorem setSafe_timesSound {s : State} (h : s.timesSound) (n : SafeId) (x : SafeInput) : (s.setSafe n x).timesSound := h

theorem haltLanes_timesSound {s : State} (h : s.timesSound) (b : BitVec 4) : (s.haltLanes b).timesSound :=
  timesSound_of_eq h (by simp) (by simp) (by simp) (by simp) (by simp) (by simp)

theorem onset_timesSound {s : State} (h : s.timesSound) (n : SafeId) : (s.onset n).timesSound :=
  timesSound_of_eq (haltLanes_timesSound (holdOutputs_timesSound (setSafe_timesSound h n { s.safes[n] with hold := true })
    s.safes[n].group) s.safes[n].binding) (by simp [State.onset]) (by simp [State.onset]) (by simp [State.onset]) (by simp [State.onset])
    (by simp [State.onset]) (by simp [State.onset])

theorem installSafe_timesSound {s : State} (h : s.timesSound) (n : SafeId) (d : Detection) (g : BitVec 12) (b : BitVec 4) :
    (s.installSafe n d g b).timesSound := by
  have hwritten := setSafe_timesSound h n { s.safes[n] with detection := d, group := g, binding := b }
  unfold State.installSafe
  dsimp only
  split
  · exact haltLanes_timesSound (holdOutputs_timesSound hwritten _) _
  · split
    · exact onset_timesSound hwritten n
    · exact hwritten

theorem writeOutput_timesSound {s : State} (h : s.timesSound) (o : OutputId) (pol : Polarity) (mode : OutputMode) :
    (s.writeOutput o pol mode).timesSound := by
  have hwritten (x : Output) : (s.setOutput o x).timesSound := h
  unfold State.writeOutput
  dsimp only
  split
  · exact h
  · split
    · exact timesSound_of (hwritten _) rfl rfl id rfl (fun _ => ⟨rfl, .refl _⟩) (State.dropHolds_runsOn _ o)
    · exact h

/-- A camera request leaves the entries, and other settings only where there are none. -/
theorem cameraMove_timesSound {s : State} (h : s.timesSound) {c : CameraId} {x : Camera} (hmove : CameraMove s c x) :
    (s.setCamera c x).timesSound := by
  obtain ⟨hruns, hpacers, hcameras, hquiet⟩ := h
  refine ⟨hruns, hpacers, (State.expectationsInTime_iff _).mpr fun d => ?_, fun hcold => ?_⟩
  · have hall := (s.expectationsInTime_iff).mp hcameras
    rw [State.setCamera_at]
    split
    · rcases hmove.settings with hsame | ⟨hempty, hlow, hhigh⟩
      · exact Camera.inTime_of_sublist (hall c) hsame (hmove.queue ▸ .refl _)
      · have hnone : x.queue = [] := hmove.queue.trans hempty
        exact ⟨hlow, hhigh, hnone ▸ nofun, hnone ▸ .nil⟩
    · exact hall d
  · obtain ⟨hnone, hempty, hstopped⟩ := hquiet hcold
    refine ⟨hnone, fun d => ?_, hstopped⟩
    rw [State.setCamera_at]
    split
    · exact hmove.queue.trans (hempty c)
    · exact hempty d

theorem request_timesSound {s t : State} (running : s.phase = .running) (hmove : RequestMove s t) (hs : s.timesSound) :
    t.timesSound := by
  have awake : s.phase ≠ .coldReset := by rw [running]; nofun
  have hpacer (n : PacerId) := (s.pacersInTime_iff).mp hs.2.1 n
  cases hmove with
  | pacerWritten n interval preset hinterval => exact setPacer_timesSound hs (Pacer.written_inTime (hpacer n) hinterval preset) awake
  | pacerCommanded n run => exact setPacer_timesSound hs (Pacer.command_inTime (hpacer n) run) awake
  | outputWritten o pol mode => exact writeOutput_timesSound hs o pol mode
  | camera hcamera => exact cameraMove_timesSound hs hcamera
  | safeInstalled n d g b => exact installSafe_timesSound hs n d g b
  | _ => exact timesSound_of_eq hs (by simp) (by simp) (by simp) (by simp) (by simp) (by simp)

/-! ### The passing of half a tick -/

/-- One tick more, where it does not wrap. -/
theorem elapsed_succ {now t0 : Timestamp} {n : Nat} (hn : n ≤ 16777216) (h : (now - t0).toNat < n) :
    (now + 1 - t0).toNat = (now - t0).toNat + 1 := by
  have hone : (1 : Timestamp).toNat = 1 := rfl
  rw [show now + 1 - t0 = (now - t0) + 1 by ring, BitVec.toNat_add_of_lt (by rw [hone]; omega), hone]

theorem Run.advance_inTime {r : Run} {now : Timestamp} {half : Bool} (hparity : r.position % 2 = if half then 1 else 0)
    (htime : r.fireTime + BitVec.ofNat 32 (r.position / 2) = now) :
    r.advance.position % 2 = (if !half then 1 else 0) ∧
      r.advance.fireTime + BitVec.ofNat 32 (r.advance.position / 2) = if half then now + 1 else now := by
  cases half with
  | true =>
    have hhalf : (r.position + 1) / 2 = r.position / 2 + 1 := by simp only [if_true] at hparity; omega
    refine ⟨by simp only [Run.advance, if_true] at hparity ⊢; simp; omega, ?_⟩
    simp only [Run.advance, hhalf, if_true, BitVec.ofNat_add, ← htime, ← BitVec.add_assoc]
    rfl
  | false =>
    have hhalf : (r.position + 1) / 2 = r.position / 2 := by simp at hparity; omega
    refine ⟨by simp [Run.advance] at hparity ⊢; omega, ?_⟩
    simpa [Run.advance, hhalf] using htime

/-- What is not due at a whole tick is younger than its time (R14, R126). -/
theorem Pacer.advance_inTime {x : Pacer} {now : Timestamp} {half : Bool} (h : x.inTime now half)
    (hdue : half = false → x.expiryDue now = false) : x.inTime (if half then now + 1 else now) (!half) := by
  obtain ⟨hlow, hpending, -⟩ := h
  refine ⟨hlow, hpending, fun hhalf hrunning t0 hstart => ?_⟩
  have hoff : half = false := by simpa using hhalf
  have hnot : x.expiryDue now = false := hdue hoff
  rw [hoff]
  by_contra hpassed
  rw [(x.expiryDue_iff now).mpr ⟨t0, hrunning, hstart, Nat.not_lt.mp hpassed⟩] at hnot
  cases hnot

theorem Camera.advance_inTime {x y : Camera} {now : Timestamp} {half : Bool} (h : x.inTime now half)
    (hdue : half = false → x.deadlineDue now = false) (hsettings : y.settings = x.settings) (hqueue : y.queue = x.queue) :
    y.inTime (if half then now + 1 else now) (!half) := by
  obtain ⟨hlow, hhigh, hentries, horder⟩ := h
  rw [Camera.inTime, hsettings, hqueue]
  refine ⟨hlow, hhigh, ?_⟩
  cases half with
  | true =>
    have hyoung (e : Expectation) (he : e ∈ x.queue) := (hentries e he).2.2 rfl
    have hnext (e : Expectation) (he : e ∈ x.queue) := elapsed_succ hhigh (hyoung e he)
    refine ⟨fun e he => ⟨(hentries e he).1, ?_, nofun⟩, horder.imp_of_mem fun he hf hle => ?_⟩
    · rw [if_pos rfl, hnext e he]
      exact hyoung e he
    · rw [if_pos rfl, hnext _ he, hnext _ hf]
      exact Nat.add_le_add_right hle 1
  | false =>
    have hnot := hdue rfl
    have hyoung : ∀ e ∈ x.queue, (now - e.pulseStart).toNat < x.settings.window := by
      cases hq : x.queue with
      | nil => nofun
      | cons e rest =>
        rw [hq] at hentries horder
        have hfirst : (now - e.pulseStart).toNat < x.settings.window := by
          have hwindow : ahead e.pulseStart e.deadline = x.settings.window := by
            rw [(hentries e List.mem_cons_self).1, ahead, add_sub_cancel_left, BitVec.toNat_ofNat]
            omega
          simp only [Camera.deadlineDue, hq, hwindow, decide_eq_false_iff_not, Nat.not_le] at hnot
          exact hnot
        exact List.forall_mem_cons.mpr ⟨hfirst, fun f hf => lt_of_le_of_lt ((List.pairwise_cons.mp horder).1 f hf) hfirst⟩
    exact ⟨fun e he => ⟨(hentries e he).1, (hentries e he).2.1, fun _ => hyoung e he⟩, horder⟩

theorem halfTickPasses_timesSound {s : State} (hs : s.timesSound) (awake : s.phase ≠ .coldReset)
    (now : s.halfTick = true ∨ s.dueEvents = []) : s.halfTickPasses.timesSound := by
  obtain ⟨hruns, hpacers, hcameras, -⟩ := hs
  have nothing (whole : s.halfTick = false) : s.dueEvents = [] := now.resolve_left (by simp [whole])
  refine ⟨fun k r hr => ?_, (State.pacersInTime_iff _).mpr fun n => Pacer.advance_inTime ((s.pacersInTime_iff).mp hpacers n) ?_,
    (State.expectationsInTime_iff _).mpr fun c => ?_, fun hcold => absurd hcold awake⟩
  · simp only [State.halfTickPasses, Fin.getElem_fin, Vector.getElem_map, Option.map_eq_some_iff] at hr
    obtain ⟨r0, hr0, rfl⟩ := hr
    exact Run.advance_inTime (hruns k r0 hr0).1 (hruns k r0 hr0).2
  · intro whole
    have hnone := nothing whole
    simp only [State.dueEvents, List.append_eq_nil_iff, List.map_eq_nil_iff, List.filter_eq_nil_iff] at hnone
    simpa using hnone.1.1.1.1.1.1.2 n (List.mem_finRange n)
  · refine Camera.advance_inTime ((s.expectationsInTime_iff).mp hcameras c) (fun whole => ?_) ?_ ?_
    · have hnone := nothing whole
      simp only [State.dueEvents, List.append_eq_nil_iff, List.map_eq_nil_iff, List.filter_eq_nil_iff] at hnone
      simpa using hnone.1.1.1.1.2 c (List.mem_finRange c)
    all_goals
      unfold State.halfTickPasses
      dsimp only
      split
      · simp only [Fin.getElem_fin, Vector.getElem_map, Camera.tick]
        split <;> rfl
      · rfl

/-! ### The resets -/

/-- A state without runs, entries and running pacers is in time. -/
theorem timesSound_of_quiet {s : State} (hruns : ∀ k : RunSlotId, s.runs[k] = none)
    (hpacers : ∀ n : PacerId, 1 ≤ s.pacers[n].interval ∧ (∀ m, s.pacers[n].pendingInterval = some m → 1 ≤ m) ∧
      s.pacers[n].running = false)
    (hcameras : ∀ c : CameraId, 1 ≤ s.cameras[c].settings.window ∧ s.cameras[c].settings.window ≤ 16777216 ∧
      s.cameras[c].queue = []) : s.timesSound := by
  refine ⟨fun k r hr => ?_, fun n => ?_, fun c => ?_, fun _ => ⟨hruns, fun c => (hcameras c).2.2, fun n => (hpacers n).2.2⟩⟩
  · rw [hruns k] at hr; cases hr
  · obtain ⟨hlow, hpending, hstopped⟩ := hpacers n
    exact ⟨hlow, hpending, fun _ hrunning => absurd (hstopped.symm.trans hrunning) nofun⟩
  · obtain ⟨hlow, hhigh, hempty⟩ := hcameras c
    exact ⟨hlow, hhigh, hempty ▸ nofun, hempty ▸ .nil⟩

theorem warmReset_timesSound {s : State} (hs : s.timesSound) : s.warmReset.timesSound := by
  obtain ⟨-, hpacers, hcameras, -⟩ := hs
  refine timesSound_of_quiet (fun k => by simp [State.warmReset]) (fun n => ?_) (fun c => ?_)
  · simpa [State.warmReset, Pacer.warm] using (hpacers n).1
  · simpa [State.warmReset, Camera.warm] using ⟨(hcameras c).1, (hcameras c).2.1⟩

theorem coldValues_timesSound (s : State) : s.coldValues.timesSound :=
  timesSound_of_quiet (fun k => by simp [State.coldValues, State.cold])
    (fun n => by simp [State.coldValues, State.cold, Pacer.cold]) (fun c => by simp [State.coldValues, State.cold, Camera.cold])

theorem rise_timesSound {s : State} (hs : s.timesSound) (straps : BitVec 2) (cold : s.phase = .coldReset) :
    (s.rise straps).timesSound := by
  obtain ⟨-, hpacers, hcameras, hquiet⟩ := hs
  obtain ⟨hnone, hempty, hstopped⟩ := hquiet cold
  exact timesSound_of_quiet hnone (fun n => ⟨(hpacers n).1, (hpacers n).2.1, hstopped n⟩)
    (fun c => ⟨(hcameras c).1, (hcameras c).2.1, hempty c⟩)

/-! ### Through a step -/

theorem ownKept_timesSound : OwnKept State.timesSound where
  aside move h :=
    have same := move.same
    timesSound_of_eq h same.timestamp same.halfTick same.phase same.pacers same.cameras same.runs
  request running move h := request_timesSound running move h
  count src up whole awake h := handCount_timesSound h whole awake src up
  pacerExpiry due h := pacerExpiry_timesSound h due
  runEvent k h := runEvent_timesSound h k
  frameLevel _ _ h := setCamera_timesSound h rfl (.refl _)
  frameStart c _ h := frameStarted_timesSound h c
  expectationLost c h := expireOldest_timesSound h c
  safeLevel n _ h := setSafe_timesSound h n _
  onset n h := onset_timesSound h n
  halfTick awake now h := halfTickPasses_timesSound h awake now
  warmReset h := warmReset_timesSound h

theorem kept_timesSound : Kept State.timesSound where
  toOwnKept := ownKept_timesSound
  coldReset _ := coldValues_timesSound _
  rise straps cold h := rise_timesSound h straps cold

/-- The deadline is the window after the pulse start, so an entry taken later has the later deadline, from the older one's pulse start. -/
theorem deadlinesOrdered_of_timesSound {s : State} (h : s.timesSound) : s.deadlinesOrdered := by
  intro c
  obtain ⟨-, hhigh, hentries, horder⟩ := (s.expectationsInTime_iff).mp h.2.2.1 c
  refine horder.imp_of_mem fun {e f} he hf hle => ?_
  obtain ⟨hde, hold, -⟩ := hentries e he
  obtain ⟨hdf, -, -⟩ := hentries f hf
  have hwindow : (BitVec.ofNat 32 s.cameras[c].settings.window).toNat = s.cameras[c].settings.window := by
    rw [BitVec.toNat_ofNat]; omega
  rw [hde, hdf]
  bv_omega

/-- Settles O56: the reservations by the sum over the run slots, the times by what passes with half a tick. -/
theorem stepKeepsTheCameraPlaces : Obligations.StepKeepsTheCameraPlaces :=
  ⟨fun _ _ h hstep => kept_placesSound.step h hstep, fun _ _ h hstep => kept_timesSound.step h hstep,
    fun _ h => deadlinesOrdered_of_timesSound h⟩

end Sys2Proof.Machine

/-! SUPPORT. The pool of shot slots (R33, R36, R38, R83) through a step. What the pool's rules look at of a slot is where its shot
stands: free, waiting in a lane with its program and trigger, firing in a run slot, or awaiting its frames. The rules are stated on that view, with
the few ways in which a shot moves on; each operation of the model is one of these ways. -/

namespace Sys2Proof.Machine

/-! ### Where a shot stands -/

inductive Place where
  | free
  | waiting (l : LaneId) (w : ProgramId × Position)
  | firing (k : Option RunSlotId)
  | awaiting

def Shot.place (sh : Shot) : Place :=
  match sh.phase with
  | .queued => .waiting sh.lane (sh.program, sh.trigger)
  | .firing => .firing sh.runSlot
  | .awaiting => .awaiting

def Slot.place (x : Slot) : Place :=
  match x.shot with
  | none => .free
  | some sh => sh.place

/-- Where the shot of each slot stands, what waits in each lane, and whom each run slot holds. -/
def State.places (s : State) (h : Handle) : Place := s.slots[h].place
def State.queues (s : State) (l : LaneId) : List Handle := s.lanes[l].queue
def State.runHandles (s : State) (k : RunSlotId) : Option Handle := (s.runs[k]).map Run.handle

theorem Slot.place_of_some {x : Slot} {sh : Shot} (h : x.shot = some sh) : x.place = sh.place := by
  rw [Slot.place, h]

theorem Slot.place_free_iff (x : Slot) : x.place = .free ↔ x.shot = none := by
  unfold Slot.place
  split
  · simp [*]
  · rename_i sh hsh
    simp only [hsh, reduceCtorEq, iff_false]
    unfold Shot.place
    split <;> nofun

theorem Shot.place_waiting_iff (sh : Shot) (l : LaneId) (w : ProgramId × Position) :
    sh.place = .waiting l w ↔ sh.phase = .queued ∧ sh.lane = l ∧ (sh.program, sh.trigger) = w := by
  unfold Shot.place
  split <;> simp [*]

theorem Shot.place_firing_iff (sh : Shot) (k : Option RunSlotId) : sh.place = .firing k ↔ sh.phase = .firing ∧ sh.runSlot = k := by
  unfold Shot.place
  split <;> simp [*]

theorem State.places_waiting_iff (s : State) (h : Handle) (l : LaneId) (w : ProgramId × Position) :
    s.places h = .waiting l w ↔ ∃ sh, s.waits h sh ∧ sh.lane = l ∧ (sh.program, sh.trigger) = w := by
  unfold State.places Slot.place State.waits
  cases s.slots[h].shot with
  | none => simp
  | some sh => simp [Shot.place_waiting_iff]

theorem State.places_firing_iff (s : State) (h : Handle) (k : Option RunSlotId) :
    s.places h = .firing k ↔ ∃ sh, s.slots[h].shot = some sh ∧ sh.phase = .firing ∧ sh.runSlot = k := by
  unfold State.places Slot.place
  cases s.slots[h].shot with
  | none => simp
  | some sh => simp [Shot.place_firing_iff]

theorem State.runHandles_eq_some_iff (s : State) (k : RunSlotId) (h : Handle) :
    s.runHandles k = some h ↔ ∃ r, s.runs[k] = some r ∧ r.handle = h := Option.map_eq_some_iff

/-! ### The rules of the pool -/

/-- R33, R83: a slot waits exactly in its lane's queue, once, and is firing exactly where a run slot holds it. -/
structure PoolRules (places : Handle → Place) (queues : LaneId → List Handle) (runs : RunSlotId → Option Handle) : Prop where
  nodup (l : LaneId) : (queues l).Nodup
  waits (l : LaneId) (h : Handle) : h ∈ queues l ↔ ∃ w, places h = .waiting l w
  fires (k : RunSlotId) (h : Handle) : runs k = some h → places h = .firing (some k)
  held (h : Handle) (x : Option RunSlotId) : places h = .firing x → ∃ k, runs k = some h

theorem State.poolSound_iff (s : State) : s.poolSound ↔ PoolRules s.places s.queues s.runHandles ∧
    ∀ l : LaneId, s.lanes[l].state = .off → s.queues l = [] := by
  have hwaits (l : LaneId) (h : Handle) : (∃ sh, s.waits h sh ∧ sh.lane = l) ↔ ∃ w, s.places h = .waiting l w := by
    simp only [State.places_waiting_iff]
    exact ⟨fun ⟨sh, hsh, hl⟩ => ⟨(sh.program, sh.trigger), sh, hsh, hl, rfl⟩, fun ⟨_, sh, hsh, hl, _⟩ => ⟨sh, hsh, hl⟩⟩
  constructor
  · rintro ⟨hnodup, hqueue, hoff, hruns, hfiring⟩
    refine ⟨⟨hnodup, fun l h => (hqueue l h).trans (hwaits l h), fun k h hk => ?_, fun h x hx => ?_⟩, hoff⟩
    · obtain ⟨r, hr, rfl⟩ := (s.runHandles_eq_some_iff k h).mp hk
      exact (s.places_firing_iff _ _).mpr (hruns k r hr)
    · obtain ⟨sh, hsh, hphase, -⟩ := (s.places_firing_iff h x).mp hx
      obtain ⟨k, r, hr, hhandle⟩ := hfiring h sh hsh hphase
      exact ⟨k, (s.runHandles_eq_some_iff k h).mpr ⟨r, hr, hhandle⟩⟩
  · rintro ⟨⟨hnodup, hqueue, hfires, hheld⟩, hoff⟩
    refine ⟨hnodup, fun l h => (hqueue l h).trans (hwaits l h).symm, hoff, fun k r hr => ?_, fun h sh hsh hphase => ?_⟩
    · exact (s.places_firing_iff _ _).mp (hfires k r.handle ((s.runHandles_eq_some_iff k _).mpr ⟨r, hr, rfl⟩))
    · obtain ⟨k, hk⟩ := hheld h sh.runSlot ((s.places_firing_iff h _).mpr ⟨sh, hsh, hphase, rfl⟩)
      obtain ⟨r, hr, hhandle⟩ := (s.runHandles_eq_some_iff k h).mp hk
      exact ⟨k, r, hr, hhandle⟩

section
variable {places : Handle → Place} {queues : LaneId → List Handle} {runs : RunSlotId → Option Handle}

/-- Waiting shots leave their queues and their slots become free. -/
theorem PoolRules.leave (R : PoolRules places queues runs) {places' : Handle → Place} {queues' : LaneId → List Handle}
    (hsub : ∀ l, (queues' l).Sublist (queues l)) (hgone : ∀ l h, h ∈ queues l → h ∉ queues' l → places' h = .free)
    (hstay : ∀ h, (∀ l, h ∈ queues l → h ∈ queues' l) → places' h = places h) : PoolRules places' queues' runs := by
  have hcases (h : Handle) : places' h = places h ∧ (∀ l, h ∈ queues l → h ∈ queues' l) ∨
      places' h = .free ∧ ∃ l, h ∈ queues l ∧ h ∉ queues' l := by
    by_cases hall : ∀ l, h ∈ queues l → h ∈ queues' l
    · exact .inl ⟨hstay h hall, hall⟩
    · push Not at hall
      obtain ⟨l, hl, hnot⟩ := hall
      exact .inr ⟨hgone l h hl hnot, l, hl, hnot⟩
  refine ⟨fun l => (R.nodup l).sublist (hsub l), fun l h => ⟨fun hl => ?_, fun ⟨i, hi⟩ => ?_⟩, fun k h hk => ?_, fun h x hx => ?_⟩
  · obtain ⟨i, hi⟩ := (R.waits l h).mp ((hsub l).subset hl)
    rcases hcases h with ⟨heq, -⟩ | ⟨-, m, hm, hnot⟩
    · exact ⟨i, heq.trans hi⟩
    · obtain ⟨j, hj⟩ := (R.waits m h).mp hm
      rw [hi] at hj
      cases hj
      exact absurd hl hnot
  · rcases hcases h with ⟨heq, hall⟩ | ⟨hfree, -⟩
    · exact hall l ((R.waits l h).mpr ⟨i, heq ▸ hi⟩)
    · rw [hfree] at hi; cases hi
  · have hfiring := R.fires k h hk
    rw [← hfiring]
    refine hstay h fun l hl => ?_
    obtain ⟨i, hi⟩ := (R.waits l h).mp hl
    rw [hfiring] at hi
    cases hi
  · rcases hcases h with ⟨heq, -⟩ | ⟨hfree, -⟩
    · exact R.held h x (heq ▸ hx)
    · rw [hfree] at hx; cases hx

/-- A free slot's shot fires in a run slot that holds none. -/
theorem PoolRules.start (R : PoolRules places queues runs) {h : Handle} (hfree : places h = .free) {k : RunSlotId}
    (hk : runs k = none) : PoolRules (Function.update places h (.firing (some k))) queues (Function.update runs k (some h)) := by
  refine ⟨R.nodup, fun l j => ?_, fun m j hm => ?_, fun j x hx => ?_⟩
  · rw [R.waits]
    by_cases hj : j = h
    · subst hj; simp [hfree]
    · rw [Function.update_of_ne hj]
  · by_cases hmk : m = k
    · subst hmk
      rw [Function.update_self, Option.some.injEq] at hm
      subst hm
      rw [Function.update_self]
    · rw [Function.update_of_ne hmk] at hm
      have hj : j ≠ h := by
        rintro rfl
        have := R.fires m j hm
        rw [hfree] at this
        cases this
      rw [Function.update_of_ne hj, R.fires m j hm]
  · by_cases hj : j = h
    · subst hj; exact ⟨k, Function.update_self ..⟩
    · rw [Function.update_of_ne hj] at hx
      obtain ⟨m, hm⟩ := R.held j x hx
      refine ⟨m, ?_⟩
      rw [Function.update_of_ne, hm]
      rintro rfl
      rw [hk] at hm
      cases hm

/-- The run of a shot is over, and the shot waits for frames or its slot is free. -/
theorem PoolRules.finish (R : PoolRules places queues runs) {k : RunSlotId} {h : Handle} (hk : runs k = some h) {x : Place}
    (hx : x = .free ∨ x = .awaiting) : PoolRules (Function.update places h x) queues (Function.update runs k none) := by
  have hfiring := R.fires k h hk
  have hnot : (∀ l i, x ≠ .waiting l i) ∧ ∀ y, x ≠ .firing y := by rcases hx with rfl | rfl <;> exact ⟨nofun, nofun⟩
  refine ⟨R.nodup, fun l j => ?_, fun m j hm => ?_, fun j y hy => ?_⟩
  · rw [R.waits]
    by_cases hj : j = h
    · subst hj; simp [hfiring, hnot.1]
    · rw [Function.update_of_ne hj]
  · by_cases hmk : m = k
    · subst hmk; simp at hm
    · rw [Function.update_of_ne hmk] at hm
      have hj : j ≠ h := by
        rintro rfl
        have := R.fires m j hm
        rw [hfiring] at this
        cases this
        exact hmk rfl
      rw [Function.update_of_ne hj, R.fires m j hm]
  · by_cases hj : j = h
    · subst hj; simp [hnot.2] at hy
    · rw [Function.update_of_ne hj] at hy
      obtain ⟨m, hm⟩ := R.held j y hy
      refine ⟨m, ?_⟩
      rw [Function.update_of_ne, hm]
      rintro rfl
      rw [hk] at hm
      exact hj (Option.some.inj hm).symm

/-- An awaiting shot ends. -/
theorem PoolRules.resolve (R : PoolRules places queues runs) {h : Handle} (hh : places h = .awaiting) :
    PoolRules (Function.update places h .free) queues runs := by
  refine ⟨R.nodup, fun l j => ?_, fun m j hm => ?_, fun j y hy => ?_⟩
  · rw [R.waits]
    by_cases hj : j = h
    · subst hj; simp [hh]
    · rw [Function.update_of_ne hj]
  · have hj : j ≠ h := by
      rintro rfl
      have := R.fires m j hm
      rw [hh] at this
      cases this
    rw [Function.update_of_ne hj, R.fires m j hm]
  · by_cases hj : j = h
    · subst hj; simp at hy
    · rw [Function.update_of_ne hj] at hy
      exact R.held j y hy

/-- A free slot takes a shot that joins the queue of its lane. -/
theorem PoolRules.enqueue (R : PoolRules places queues runs) {h : Handle} (hfree : places h = .free) {l : LaneId} (w : ProgramId × Position)
    {q : List Handle} (hq : q.Perm (h :: queues l)) : PoolRules (Function.update places h (.waiting l w)) (Function.update queues l q) runs := by
  have hout (m : LaneId) : h ∉ queues m := by
    rw [R.waits]
    simp [hfree]
  refine ⟨fun m => ?_, fun m j => ?_, fun m j hm => ?_, fun j y hy => ?_⟩
  · by_cases hm : m = l
    · subst hm; rw [Function.update_self]; exact hq.nodup_iff.mpr (List.nodup_cons.mpr ⟨hout m, R.nodup m⟩)
    · rw [Function.update_of_ne hm]; exact R.nodup m
  · have hmem : j ∈ Function.update queues l q m ↔ (j = h ∧ m = l) ∨ j ∈ queues m := by
      by_cases hm : m = l
      · subst hm; simp [hq.mem_iff]
      · simp [hm]
    rw [hmem, R.waits]
    by_cases hj : j = h
    · subst hj; simp [hfree, eq_comm]
    · simp [hj]
  · have hj : j ≠ h := by
      rintro rfl
      have := R.fires m j hm
      rw [hfree] at this
      cases this
    rw [Function.update_of_ne hj, R.fires m j hm]
  · by_cases hj : j = h
    · subst hj; simp at hy
    · rw [Function.update_of_ne hj] at hy
      exact R.held j y hy

/-- A waiting shot takes another program. -/
theorem PoolRules.rename (R : PoolRules places queues runs) {h : Handle} {l : LaneId} {w : ProgramId × Position}
    (hh : places h = .waiting l w) (v : ProgramId × Position) : PoolRules (Function.update places h (.waiting l v)) queues runs := by
  refine ⟨R.nodup, fun m g => ?_, fun m g hm => ?_, fun g y hy => ?_⟩
  · rw [R.waits]
    by_cases hg : g = h
    · subst hg; simp [hh]
    · rw [Function.update_of_ne hg]
  · have hg : g ≠ h := by
      rintro rfl
      have := R.fires m g hm
      rw [hh] at this
      cases this
    rw [Function.update_of_ne hg, R.fires m g hm]
  · by_cases hg : g = h
    · subst hg; simp at hy
    · rw [Function.update_of_ne hg] at hy
      exact R.held g y hy

end

/-! ### The reference counts -/

def Place.waitsFor (i : ProgramId) : Place → Bool
  | .waiting _ w => w.1 == i
  | _ => false

/-- R38: a reference count is the number of waiting shots that name the program, and each names a DEFINED one. -/
structure RefRules (places : Handle → Place) (counts : ProgramId → Nat) (defined : ProgramId → Prop) : Prop where
  counts (i : ProgramId) : counts i = allHandles.countP (fun h => (places h).waitsFor i)
  named (h : Handle) (l : LaneId) (w : ProgramId × Position) : places h = .waiting l w → defined w.1

def State.refCounts (s : State) (i : ProgramId) : Nat := s.programs[i].refCount
def State.definedPrograms (s : State) (i : ProgramId) : Prop := (s.programs[i].active).isSome = true

theorem State.waitsFor_eq (s : State) (i : ProgramId) (h : Handle) : s.waitsFor i h = (s.places h).waitsFor i := by
  unfold State.waitsFor State.places Slot.place
  cases s.slots[h].shot with
  | none => rfl
  | some sh =>
    dsimp only
    unfold Shot.place
    split <;> simp [Place.waitsFor, *]

theorem State.refsSound_iff (s : State) : s.refsSound ↔ RefRules s.places s.refCounts s.definedPrograms := by
  have hcount (i : ProgramId) : allHandles.countP (s.waitsFor i) = allHandles.countP (fun h => (s.places h).waitsFor i) :=
    congrArg (List.countP · allHandles) (funext fun h => s.waitsFor_eq i h)
  constructor
  · rintro ⟨hcounts, hnamed⟩
    refine ⟨fun i => (hcounts i).trans (hcount i), fun h l w hw => ?_⟩
    obtain ⟨sh, hsh, -, rfl⟩ := (s.places_waiting_iff h l w).mp hw
    exact hnamed h sh hsh
  · rintro ⟨hcounts, hnamed⟩
    exact ⟨fun i => (hcounts i).trans (hcount i).symm,
      fun h sh hsh => hnamed h sh.lane (sh.program, sh.trigger) ((s.places_waiting_iff h _ _).mpr ⟨sh, hsh, rfl, rfl⟩)⟩

/-- One slot moves on: the counts change by what it no longer names and what it names then. -/
theorem countP_update (places : Handle → Place) (h : Handle) (x : Place) (i : ProgramId) :
    allHandles.countP (fun j => (Function.update places h x j).waitsFor i) + ((places h).waitsFor i).toNat =
      allHandles.countP (fun j => (places j).waitsFor i) + (x.waitsFor i).toNat := by
  have hsplit := List.perm_cons_erase (List.mem_finRange h)
  have hcount (f : Handle → Place) : allHandles.countP (fun j => (f j).waitsFor i) =
      (allHandles.erase h).countP (fun j => (f j).waitsFor i) + ((f h).waitsFor i).toNat := by
    rw [allHandles, hsplit.countP_eq, List.countP_cons]
    cases (f h).waitsFor i <;> rfl
  have hrest : (allHandles.erase h).countP (fun j => (Function.update places h x j).waitsFor i) =
      (allHandles.erase h).countP (fun j => (places j).waitsFor i) :=
    List.countP_congr fun j hj => by
      rw [Function.update_of_ne ((List.nodup_finRange 256).mem_erase_iff.mp hj).1]
  rw [hcount, hcount places, hrest, Function.update_self]
  ring

section
variable {places : Handle → Place} {counts : ProgramId → Nat} {defined : ProgramId → Prop}

/-- One slot moves on, and the counts with what it named and what it names. -/
theorem RefRules.move (R : RefRules places counts defined) {h : Handle} {x : Place} {counts' : ProgramId → Nat}
    (hcounts : ∀ i, counts' i + ((places h).waitsFor i).toNat = counts i + (x.waitsFor i).toNat)
    (hnamed : ∀ l w, x = .waiting l w → defined w.1) : RefRules (Function.update places h x) counts' defined := by
  refine ⟨fun i => ?_, fun j l i hi => ?_⟩
  · have hmoved := countP_update places h x i
    have hbefore := R.counts i
    have hafter := hcounts i
    omega
  · by_cases hj : j = h
    · subst hj; rw [Function.update_self] at hi; exact hnamed l i hi
    · rw [Function.update_of_ne hj] at hi; exact R.named j l i hi

/-- A program that a waiting shot names is counted. -/
theorem RefRules.counted (R : RefRules places counts defined) {h : Handle} {l : LaneId} {w : ProgramId × Position}
    (hh : places h = .waiting l w) : 0 < counts w.1 := by
  rw [R.counts, List.countP_pos_iff]
  exact ⟨h, List.mem_finRange h, by simp [hh, Place.waitsFor]⟩

theorem Place.waitsFor_of_not {x : Place} (hx : ∀ l i, x ≠ .waiting l i) (i : ProgramId) : x.waitsFor i = false := by
  cases x with
  | waiting l j => exact absurd rfl (hx l j)
  | _ => rfl

/-- A shot that does not wait stays one that does not. -/
theorem RefRules.aside (R : RefRules places counts defined) {h : Handle} (hh : ∀ l i, places h ≠ .waiting l i) {x : Place}
    (hx : ∀ l i, x ≠ .waiting l i) : RefRules (Function.update places h x) counts defined :=
  R.move (fun i => by rw [Place.waitsFor_of_not hh, Place.waitsFor_of_not hx]) fun l i hi => absurd hi (hx l i)

/-- A waiting shot leaves. -/
theorem RefRules.leave (R : RefRules places counts defined) {h : Handle} {l : LaneId} {w : ProgramId × Position}
    (hh : places h = .waiting l w) {x : Place} (hx : ∀ l i, x ≠ .waiting l i) :
    RefRules (Function.update places h x) (Function.update counts w.1 (counts w.1 - 1)) defined := by
  have hpos := R.counted hh
  refine R.move (fun j => ?_) fun l i hi => absurd hi (hx l i)
  rw [Place.waitsFor_of_not hx, hh]
  by_cases hj : j = w.1
  · rw [hj]; simp [Place.waitsFor]; omega
  · simp [Place.waitsFor, hj, Ne.symm hj]

/-- A shot begins to wait. -/
theorem RefRules.enqueue (R : RefRules places counts defined) {h : Handle} (hh : ∀ l i, places h ≠ .waiting l i) (l : LaneId)
    {w : ProgramId × Position} (hw : defined w.1) :
    RefRules (Function.update places h (.waiting l w)) (Function.update counts w.1 (counts w.1 + 1)) defined := by
  refine R.move (fun j => ?_) fun m k hk => by cases hk; exact hw
  rw [Place.waitsFor_of_not hh]
  by_cases hj : j = w.1
  · rw [hj]; simp [Place.waitsFor]
  · simp [Place.waitsFor, hj, Ne.symm hj]

/-- What becomes of the definitions of programs that no waiting shot names does not matter. -/
theorem RefRules.redefine (R : RefRules places counts defined) {defined' : ProgramId → Prop}
    (h : ∀ i, 0 < counts i → defined i → defined' i) : RefRules places counts defined' :=
  ⟨R.counts, fun j l w hw => h w.1 (R.counted hw) (R.named j l w hw)⟩

end

end Sys2Proof.Machine

/-! SUPPORT. What each operation does to the pool: on the views of W10, the equations of the operations on shots, queues, runs and
counts, then the rules of the pool and of the counts through each operation and through a step. -/

namespace Sys2Proof.Machine

/-! ### The views after an operation -/

theorem State.places_congr {s t : State} (h : t.slots = s.slots) : t.places = s.places := by
  funext j; rw [State.places, h, State.places]

theorem State.queues_congr {s t : State} (h : t.lanes = s.lanes) : t.queues = s.queues := by
  funext l; rw [State.queues, h, State.queues]

theorem State.runHandles_congr {s t : State} (h : t.runs = s.runs) : t.runHandles = s.runHandles := by
  funext k; rw [State.runHandles, h, State.runHandles]

theorem State.setSlot_places (s : State) (h : Handle) (x : Slot) : (s.setSlot h x).places = Function.update s.places h x.place := by
  funext j
  rw [State.places, State.setSlot_at, Function.update_apply]
  by_cases hj : j = h
  · rw [if_pos hj, if_pos hj.symm]
  · rw [if_neg hj, if_neg (Ne.symm hj), State.places]

theorem State.setLane_queues (s : State) (l : LaneId) (x : Lane) : (s.setLane l x).queues = Function.update s.queues l x.queue := by
  funext m
  rw [State.queues, State.setLane_at, Function.update_apply]
  by_cases hm : m = l
  · rw [if_pos hm, if_pos hm.symm]
  · rw [if_neg hm, if_neg (Ne.symm hm), State.queues]

theorem State.setRun_runHandles (s : State) (k : RunSlotId) (x : Option Run) :
    (s.setRun k x).runHandles = Function.update s.runHandles k (x.map Run.handle) := by
  funext m
  rw [State.runHandles, State.setRun_at, Function.update_apply]
  by_cases hm : m = k
  · rw [if_pos hm, if_pos hm.symm]
  · rw [if_neg hm, if_neg (Ne.symm hm), State.runHandles]

/-- A run that goes on keeps its shot. -/
theorem State.setRun_runHandles_of_some {s : State} {k : RunSlotId} {r0 : Run} (hr0 : s.runs[k] = some r0) {r : Run}
    (h : r.handle = r0.handle) : (s.setRun k (some r)).runHandles = s.runHandles := by
  rw [State.setRun_runHandles, Option.map_some, h]
  exact Function.update_eq_self_iff.mpr (by rw [State.runHandles, hr0, Option.map_some])

theorem State.mapShot_places (s : State) (h : Handle) (f : Shot → Shot) :
    (s.mapShot h f).places = Function.update s.places h (Slot.place { s.slots[h] with shot := s.slots[h].shot.map f }) :=
  s.setSlot_places h _

/-- A shot changed without moving on. -/
theorem State.mapShot_places_of_keeps (s : State) (h : Handle) {f : Shot → Shot} (hf : ∀ sh, (f sh).place = sh.place) :
    (s.mapShot h f).places = s.places := by
  rw [State.mapShot_places]
  refine Function.update_eq_self_iff.mpr ?_
  unfold State.places Slot.place
  cases s.slots[h].shot with
  | none => rfl
  | some sh => exact hf sh

theorem State.mapShot_places_of_some {s : State} {h : Handle} {sh : Shot} (hsh : s.slots[h].shot = some sh) (f : Shot → Shot) :
    (s.mapShot h f).places = Function.update s.places h (f sh).place := by
  rw [State.mapShot_places, Slot.place, hsh]
  rfl

theorem State.endShot_places (s : State) (h : Handle) (code : OutcomeCode) :
    (s.endShot h code).places = Function.update s.places h .free := by
  cases hsh : s.slots[h].shot with
  | none =>
    rw [State.endShot_free s h code hsh]
    exact (Function.update_eq_self_iff.mpr ((Slot.place_free_iff _).mpr hsh).symm).symm
  | some sh =>
    rw [State.places_congr (t := s.endShot h code) (s := s.setSlot h ⟨s.slots[h].generation, none⟩) (State.endShot_slots s h code sh hsh),
      State.setSlot_places]
    rfl

/-! #### Runs -/

theorem State.markCollision_places (s : State) (k : RunSlotId) (js : List RunSlotId) : (s.markCollision k js).places = s.places := by
  unfold State.markCollision
  rw [State.places_congr (State.latch_slots _ _)]
  refine foldl_keeps State.places _ (fun t j => ?_) _ _
  split
  · exact State.mapShot_places_of_keeps _ _ fun _ => rfl
  · rfl

theorem State.handTrigger_views {s : State} {k : RunSlotId} {r : Run} (hrun : s.runs[k] = some r) (c : CameraId) :
    (s.handTrigger k r c).places = s.places ∧ (s.handTrigger k r c).runHandles = s.runHandles := by
  unfold State.handTrigger
  dsimp only
  split
  · exact ⟨rfl, rfl⟩
  · refine ⟨State.mapShot_places_of_keeps _ _ fun _ => rfl, ?_⟩
    rw [State.runHandles_congr (State.mapShot_runs ..)]
    exact State.setRun_runHandles_of_some (r := r.giveUp c) hrun rfl

theorem State.startPulse_views (k : RunSlotId) (s : State) (x : Pulse × Nat) :
    (State.startPulse k s x).places = s.places ∧ (State.startPulse k s x).runHandles = s.runHandles := by
  unfold State.startPulse
  split
  · exact ⟨rfl, rfl⟩
  · rename_i r hrun
    dsimp only
    split
    · exact ⟨rfl, State.setRun_runHandles_of_some hrun (r.skipPulse_continues _ _).handle⟩
    · have hmarked (js : List RunSlotId) : (if js.isEmpty then s else s.markCollision k js).places = s.places ∧
          (if js.isEmpty then s else s.markCollision k js).runs = s.runs := by
        split
        · exact ⟨rfl, rfl⟩
        · exact ⟨s.markCollision_places k js, by simp⟩
      have hheld (t : State) (ht : t.places = s.places ∧ t.runs = s.runs) :
          (t.setRun k (some { r with held := r.held ||| outputBit x.1.output })).places = s.places ∧
          (t.setRun k (some { r with held := r.held ||| outputBit x.1.output })).runHandles = s.runHandles := by
        have hgoesOn := State.setRun_runHandles_of_some (s := t) (r0 := r) (by rw [ht.2, hrun])
          (r := { r with held := r.held ||| outputBit x.1.output }) rfl
        exact ⟨ht.1, hgoesOn.trans (State.runHandles_congr ht.2)⟩
      split
      · exact hheld _ (hmarked _)
      · obtain ⟨hplaces, hruns⟩ := hheld _ (hmarked _)
        exact ⟨(State.handTrigger_views (by rw [State.setRun_at, if_pos rfl]) _).1.trans hplaces,
          (State.handTrigger_views (by rw [State.setRun_at, if_pos rfl]) _).2.trans hruns⟩

theorem State.startPulses_views (k : RunSlotId) (xs : List (Pulse × Nat)) (s : State) :
    (xs.foldl (State.startPulse k) s).places = s.places ∧ (xs.foldl (State.startPulse k) s).runHandles = s.runHandles :=
  ⟨foldl_keeps State.places _ (fun t x => (State.startPulse_views k t x).1) _ _,
    foldl_keeps State.runHandles _ (fun t x => (State.startPulse_views k t x).2) _ _⟩

/-- The shot of a fire attempt ends, or it fires in a run slot that held none (R84, R88). -/
theorem State.fireAttempt_views {s : State} {h : Handle} {sh : Shot} (hsh : s.slots[h].shot = some sh) :
    ((s.fireAttempt h).places = Function.update s.places h .free ∧ (s.fireAttempt h).runHandles = s.runHandles) ∨
    ∃ k, s.runHandles k = none ∧ (s.fireAttempt h).places = Function.update s.places h (.firing (some k)) ∧
      (s.fireAttempt h).runHandles = Function.update s.runHandles k (some h) := by
  have hended (code : OutcomeCode) : (s.endShot h code).places = Function.update s.places h .free ∧
      (s.endShot h code).runHandles = s.runHandles := ⟨s.endShot_places h code, State.runHandles_congr (by simp)⟩
  unfold State.fireAttempt
  simp only [hsh]
  split
  · exact .inl (hended _)
  · split
    · exact .inl (hended _)
    · rename_i k hk
      split
      · refine .inr ⟨k, ?_, ?_, ?_⟩
        · have hnone := List.find?_some hk
          rw [State.runHandles, Option.isNone_iff_eq_none.mp hnone, Option.map_none]
        · rw [State.fire, (State.startPulses_views _ _ _).1, 
            State.mapShot_places_of_some (s := s.setRun k _) (sh := sh) hsh]
          rfl
        · rw [State.fire, (State.startPulses_views _ _ _).2, State.runHandles_congr (State.mapShot_runs ..),
            State.setRun_runHandles]
          rfl
      · exact .inl (hended _)

/-- The shot of a run that is over waits for frames or ends (R94, R97). -/
theorem State.leaveFiring_places (s : State) (h : Handle) :
    ∃ x, (x = .free ∨ x = .awaiting) ∧ (s.leaveFiring h).places = Function.update s.places h x := by
  unfold State.leaveFiring
  cases hsh : s.slots[h].shot with
  | none => exact ⟨.free, .inl rfl, (Function.update_eq_self_iff.mpr ((Slot.place_free_iff _).mpr hsh).symm).symm⟩
  | some sh =>
    dsimp only
    split
    · exact ⟨.free, .inl rfl, s.endShot_places h _⟩
    · exact ⟨.awaiting, .inr rfl, State.mapShot_places_of_some hsh _⟩

/-- A run is over: its slot holds none, and its shot waits for frames or ends. -/
theorem State.runOver_views (s : State) (k : RunSlotId) (h : Handle) (f : Shot → Shot) :
    ∃ x, (x = .free ∨ x = .awaiting) ∧
      (((s.setRun k none).mapShot h f).leaveFiring h).places = Function.update s.places h x ∧
      (((s.setRun k none).mapShot h f).leaveFiring h).runHandles = Function.update s.runHandles k none := by
  obtain ⟨x, hx, hplaces⟩ := State.leaveFiring_places ((s.setRun k none).mapShot h f) h
  refine ⟨x, hx, ?_, ?_⟩
  · rw [hplaces, State.mapShot_places, Function.update_idem]
    rfl
  · rw [State.runHandles_congr (t := ((s.setRun k none).mapShot h f).leaveFiring h) (s := s.setRun k none) (by simp),
      State.setRun_runHandles, Option.map_none]

end Sys2Proof.Machine

/-! SUPPORT. The rules of the pool (R33, R36, R83) through a step. -/

namespace Sys2Proof.Machine

/-- The operation moves no shot, and disarms no lane. -/
theorem poolSound_of_views {s t : State} (h : s.poolSound) (hplaces : t.places = s.places) (hqueues : t.queues = s.queues)
    (hruns : t.runHandles = s.runHandles) (hoff : ∀ l : LaneId, t.lanes[l].state = .off → s.lanes[l].state = .off) : t.poolSound := by
  obtain ⟨R, hempty⟩ := s.poolSound_iff.mp h
  refine t.poolSound_iff.mpr ⟨by rwa [hplaces, hqueues, hruns], fun l hl => ?_⟩
  rw [hqueues]
  exact hempty l (hoff l hl)

/-- The operation touches neither slots nor lanes nor run slots. -/
theorem poolSound_of_eq {s t : State} (h : s.poolSound) (hslots : t.slots = s.slots) (hlanes : t.lanes = s.lanes)
    (hruns : t.runs = s.runs) : t.poolSound :=
  poolSound_of_views h (State.places_congr hslots) (State.queues_congr hlanes) (State.runHandles_congr hruns) fun _ => by rw [hlanes]; exact id

/-- A lane is written with its queue, and not into OFF. -/
theorem setLane_poolSound {s : State} (h : s.poolSound) {l : LaneId} {x : Lane} (hqueue : x.queue = s.lanes[l].queue)
    (hoff : x.state = .off → s.lanes[l].state = .off) : (s.setLane l x).poolSound := by
  refine poolSound_of_views h rfl ?_ rfl fun m hm => ?_
  · rw [State.setLane_queues, hqueue]
    exact Function.update_eq_self l s.queues
  · rw [State.setLane_at] at hm
    split at hm
    · rename_i hlm; subst hlm; exact hoff hm
    · exact hm

/-! ### The head of a lane is reached (R23) -/

/-- The head of a lane that is reached leaves the queue, and its slot becomes free or fires. -/
theorem reach_poolSound {s : State} (h : s.poolSound) {l : LaneId} {j : Handle} {rest : List Handle}
    (hqueue : s.lanes[l].queue = j :: rest) : (s.reach l j).poolSound := by
  obtain ⟨R, hempty⟩ := s.poolSound_iff.mp h
  have hhead : j ∈ s.queues l := by rw [State.queues, hqueue]; exact List.mem_cons_self
  obtain ⟨i, hplace⟩ := (R.waits l j).mp hhead
  obtain ⟨sh, ⟨hshot, -⟩, -⟩ := (s.places_waiting_iff j l i).mp hplace
  have htail : s.queues l = j :: rest := hqueue
  have hnotin : j ∉ rest := (List.nodup_cons.mp (htail ▸ R.nodup l)).1
  have hleft : PoolRules (Function.update s.places j .free) (Function.update s.queues l rest) s.runHandles := by
    refine R.leave (fun m => ?_) (fun m g hg hnot => ?_) (fun g hall => ?_)
    · by_cases hm : m = l
      · subst hm; rw [Function.update_self, htail]; exact List.sublist_cons_self j rest
      · rw [Function.update_of_ne hm]
    · by_cases hm : m = l
      · subst hm
        rw [Function.update_self] at hnot
        rw [htail, List.mem_cons] at hg
        rw [hg.resolve_right hnot, Function.update_self]
      · rw [Function.update_of_ne hm] at hnot; exact absurd hg hnot
    · refine Function.update_of_ne ?_ _ _
      rintro rfl
      have := hall l hhead
      rw [Function.update_self] at this
      exact hnotin this
  have hqueues (t : State) (ht : t.lanes = (s.setLane l { s.lanes[l] with queue := s.lanes[l].queue.tail }).lanes) :
      t.queues = Function.update s.queues l rest ∧ ∀ m : LaneId, t.lanes[m].state = .off → t.queues m = [] := by
    have hq : t.queues = Function.update s.queues l rest := by
      rw [State.queues_congr ht, State.setLane_queues, hqueue, List.tail_cons]
    refine ⟨hq, fun m hm => ?_⟩
    rw [ht, State.setLane_at] at hm
    rw [hq]
    by_cases hml : m = l
    · subst hml
      rw [if_pos rfl] at hm
      have := hempty m hm
      rw [htail] at this
      cases this
    · rw [if_neg (Ne.symm hml)] at hm
      rw [Function.update_of_ne hml]
      exact hempty m hm
  have hended (code : OutcomeCode) :
      (((s.setLane l { s.lanes[l] with queue := s.lanes[l].queue.tail }).dropRef j).endShot j code).poolSound := by
    obtain ⟨hq, hoff⟩ := hqueues (((s.setLane l { s.lanes[l] with queue := s.lanes[l].queue.tail }).dropRef j).endShot j code) (by simp)
    refine (State.poolSound_iff _).mpr ⟨?_, hoff⟩
    rw [hq, State.endShot_places, State.places_congr (State.dropRef_slots _ j), State.runHandles_congr (State.endShot_runs _ j code),
      State.runHandles_congr (State.dropRef_runs _ j)]
    exact hleft
  unfold State.reach
  dsimp only
  split
  · obtain ⟨hq, hoff⟩ := hqueues (((s.setLane l { s.lanes[l] with queue := s.lanes[l].queue.tail }).dropRef j).fireAttempt j) (by simp)
    refine (State.poolSound_iff _).mpr ⟨?_, hoff⟩
    have hplaces : ((s.setLane l { s.lanes[l] with queue := s.lanes[l].queue.tail }).dropRef j).places = s.places :=
      State.places_congr (State.dropRef_slots _ j)
    have hruns : ((s.setLane l { s.lanes[l] with queue := s.lanes[l].queue.tail }).dropRef j).runHandles = s.runHandles :=
      State.runHandles_congr (State.dropRef_runs _ j)
    have hshot' : ((s.setLane l { s.lanes[l] with queue := s.lanes[l].queue.tail }).dropRef j).slots[j].shot = some sh := by
      rw [State.dropRef_slots]; exact hshot
    rcases State.fireAttempt_views hshot' with ⟨hfree, hsame⟩ | ⟨k, hk, hfires, hholds⟩
    · rw [hq, hfree, hsame, hplaces, hruns]
      exact hleft
    · rw [hruns] at hk hholds
      rw [hq, hfires, hholds, hplaces]
      simpa using hleft.start (Function.update_self ..) hk
  · exact hended _
  · exact hended _
  · rename_i hstate
    have := hempty l hstate
    rw [htail] at this
    cases this

theorem checkReverse_poolSound {s : State} (h : s.poolSound) (l : LaneId) : (s.checkReverse l).poolSound := by
  have hlatched : (s.latch (.reverse l)).poolSound := poolSound_of_eq h (by simp) (by simp) (by simp)
  unfold State.checkReverse
  dsimp only
  split
  · split
    · exact setLane_poolSound hlatched (by simp) nofun
    · exact hlatched
  · exact h

theorem laneCount_poolSound {s : State} (h : s.poolSound) (up : Bool) (l : LaneId) : (s.laneCount up l).poolSound := by
  unfold State.laneCount
  dsimp only
  split
  · exact h
  · split
    · split
      · have hmoved : (s.setLane l { s.lanes[l] with mark := s.lanes[l].mark + 1 }).poolSound := setLane_poolSound h rfl id
        unfold State.checkHead
        split
        · exact hmoved
        · split
          · exact hmoved
          · split
            · exact reach_poolSound hmoved ‹_›
            · exact hmoved
      · exact h
    · exact checkReverse_poolSound h l

theorem handCount_poolSound {s : State} (h : s.poolSound) (src : Source) (up : Bool) : (s.handCount src up).poolSound := by
  unfold State.handCount
  refine foldl_holds State.poolSound _ (fun _ l ht => laneCount_poolSound ht up l) _ _ ?_
  split
  · exact h
  · exact poolSound_of_eq h rfl rfl rfl

/-! ### Runs end, frames come -/

theorem runOver_poolSound {s : State} (h : s.poolSound) {k : RunSlotId} {r : Run} (hrun : s.runs[k] = some r) (f : Shot → Shot) :
    (((s.setRun k none).mapShot r.handle f).leaveFiring r.handle).poolSound := by
  obtain ⟨R, hempty⟩ := s.poolSound_iff.mp h
  obtain ⟨x, hx, hplaces, hruns⟩ := s.runOver_views k r.handle f
  have hlanes : (((s.setRun k none).mapShot r.handle f).leaveFiring r.handle).lanes = s.lanes := by simp
  refine (State.poolSound_iff _).mpr ⟨?_, fun l hl => ?_⟩
  · rw [hplaces, hruns, State.queues_congr hlanes]
    exact R.finish ((s.runHandles_eq_some_iff k _).mpr ⟨r, hrun, rfl⟩) hx
  · rw [State.queues_congr hlanes]
    rw [hlanes] at hl
    exact hempty l hl

theorem abortRun_poolSound {s : State} (h : s.poolSound) (k : RunSlotId) : (s.abortRun k).poolSound := by
  unfold State.abortRun
  split
  · exact h
  · exact runOver_poolSound h ‹_› _

theorem holdOutputs_poolSound {s : State} (h : s.poolSound) (g : BitVec 12) : (s.holdOutputs g).poolSound :=
  foldl_holds State.poolSound _ (fun _ k ht => abortRun_poolSound ht k) _ (s.forceInactive g) (poolSound_of_eq h rfl rfl rfl)

theorem haltLanes_poolSound {s : State} (h : s.poolSound) (b : BitVec 4) : (s.haltLanes b).poolSound := by
  refine poolSound_of_views h (State.places_congr (by simp)) (funext fun l => ?_) (State.runHandles_congr (by simp)) fun l hl => ?_
  · rw [State.queues, State.haltLanes_at, State.queues]
  · rw [State.haltLanes_at] at hl
    dsimp only at hl
    split at hl
    · cases hl
    · exact hl

theorem onset_poolSound {s : State} (h : s.poolSound) (n : SafeId) : (s.onset n).poolSound := by
  have hset : (s.setSafe n { s.safes[n] with hold := true }).poolSound := h
  have hheld := haltLanes_poolSound (holdOutputs_poolSound hset s.safes[n].group) s.safes[n].binding
  exact poolSound_of_eq hheld (by simp [State.onset]) (by simp [State.onset]) (by simp [State.onset])

theorem installSafe_poolSound {s : State} (h : s.poolSound) (n : SafeId) (d : Detection) (g : BitVec 12) (b : BitVec 4) :
    (s.installSafe n d g b).poolSound := by
  have hwritten : (s.setSafe n { s.safes[n] with detection := d, group := g, binding := b }).poolSound := h
  unfold State.installSafe
  dsimp only
  split
  · exact haltLanes_poolSound (holdOutputs_poolSound hwritten _) _
  · split
    · exact onset_poolSound hwritten n
    · exact hwritten

theorem runEvent_poolSound {s : State} (h : s.poolSound) (k : RunSlotId) : (s.runEvent k).poolSound := by
  unfold State.runEvent
  split
  · exact h
  · rename_i r hrun
    have hgoesOn : (s.setRun k (some { r.release.turnBurst with eventDone := true })).poolSound :=
      poolSound_of_views h rfl rfl
        (State.setRun_runHandles_of_some (r := { r.release.turnBurst with eventDone := true }) hrun r.released_continues.handle)
        fun _ => id
    dsimp only
    split
    · exact runOver_poolSound hgoesOn (r := { r.release.turnBurst with eventDone := true }) (by rw [State.setRun_at, if_pos rfl]) _
    · obtain ⟨hplaces, hruns⟩ := State.startPulses_views k ({ r.release.turnBurst with eventDone := true } : Run).starting
        (s.setRun k (some { r.release.turnBurst with eventDone := true }))
      exact poolSound_of_views hgoesOn hplaces (State.queues_congr (by simp)) hruns fun _ => by simp

/-- An awaiting shot with nothing outstanding ends, and any other goes on. -/
theorem endIfResolved_poolSound {s : State} (h : s.poolSound) (j : Handle) : (s.endIfResolved j).poolSound := by
  unfold State.endIfResolved
  split
  · exact h
  · rename_i sh hshot
    split
    · rename_i hresolved
      obtain ⟨R, hempty⟩ := s.poolSound_iff.mp h
      have hplace : s.places j = .awaiting := by
        rw [State.places, Slot.place_of_some hshot, Shot.place, hresolved.1]
      refine (State.poolSound_iff _).mpr ⟨?_, fun l hl => ?_⟩
      · rw [State.endShot_places, State.queues_congr (State.endShot_lanes ..), State.runHandles_congr (State.endShot_runs ..)]
        exact R.resolve hplace
      · rw [State.queues_congr (State.endShot_lanes ..)]
        exact hempty l (by simpa using hl)
    · exact h

theorem resolved_poolSound {s : State} (h : s.poolSound) (j : Handle) {f : Shot → Shot} (hf : ∀ sh, (f sh).place = sh.place) :
    ((s.mapShot j f).endIfResolved j).poolSound :=
  endIfResolved_poolSound (poolSound_of_views h (s.mapShot_places_of_keeps j hf) (State.queues_congr (by simp))
    (State.runHandles_congr (by simp)) fun _ => by simp) j

theorem frameStarted_poolSound {s : State} (h : s.poolSound) (c : CameraId) : (s.frameStarted c).poolSound := by
  have hset (x : Camera) : (s.setCamera c x).poolSound := h
  unfold State.frameStarted
  dsimp only
  split
  · exact hset _
  · split
    · split
      · exact poolSound_of_eq h (by simp) (by simp) (by simp)
      · exact resolved_poolSound (hset _) _ fun _ => rfl
    · exact hset _

theorem expireOldest_poolSound {s : State} (h : s.poolSound) (c : CameraId) : (s.expireOldest c).poolSound := by
  have hset (x : Camera) : (s.setCamera c x).poolSound := h
  unfold State.expireOldest
  dsimp only
  split
  · exact h
  · exact resolved_poolSound (hset _) _ fun _ => rfl

/-! ### The requests -/

/-- What an admitted entry has passed (R41 to R44): the lane is not OFF, the program is DEFINED, the trigger lies between lead and
horizon and a spacing away from every other, the lane has room, and the slot is FREE. -/
structure State.Admits (s : State) (l : LaneId) (trigger : Position) (i : ProgramId) (h : Handle) : Prop where
  running : s.lanes[l].state ≠ .off
  defined : (s.programs[i].active).isSome = true
  lead : s.lanes[l].settings.lead ≤ ahead s.lanes[l].mark trigger
  horizon : ahead s.lanes[l].mark trigger ≤ s.lanes[l].settings.horizon
  positive : 1 ≤ ahead s.lanes[l].mark trigger
  spaced : s.tooClose l (ahead s.lanes[l].mark trigger) = false
  room : s.lanes[l].queue.length < s.lanes[l].settings.quota
  free : s.slots[h].shot = none

theorem State.definedProgram_active {s : State} {n : Nat} {i : ProgramId} (h : s.definedProgram n = some i) :
    (s.programs[i].active).isSome = true := by
  unfold State.definedProgram at h
  split at h
  · cases h
  · split at h
    · cases h; assumption
    · cases h

theorem State.checkEntry_admits {s : State} {l : LaneId} {rel : Bool} {e : Entry} {trigger : Position} {i : ProgramId} {h : Handle}
    (ok : s.checkEntry l rel e trigger = .ok (i, h)) : s.Admits l trigger i h := by
  simp only [State.checkEntry, distanceCheck] at ok
  split at ok
  · cases ok
  · rename_i hrunning
    split at ok
    · cases ok
    · rename_i hprogram
      split at ok
      · cases ok
      · split at ok
        · cases ok
        · rename_i hdistance
          split at hdistance
          · cases hdistance
          · rename_i hnear
            split at hdistance
            · cases hdistance
            · rename_i hfar
              split at ok
              · cases ok
              · rename_i hspaced
                split at ok
                · cases ok
                · rename_i hroom
                  split at ok
                  · cases ok
                  · rename_i hslot
                    cases ok
                    have hfree := List.find?_some hslot
                    push Not at hnear
                    exact ⟨hrunning, State.definedProgram_active hprogram, hnear.2.2, Nat.not_lt.mp hfar,
                      Nat.one_le_iff_ne_zero.mpr hnear.1, by simpa using hspaced, Nat.not_le.mp hroom,
                      Option.isNone_iff_eq_none.mp hfree⟩

theorem State.admitEntry_places (s : State) (l : LaneId) (e : Entry) (trigger : Position) (i : ProgramId) (h : Handle) :
    (s.admitEntry l e trigger i h).places = Function.update s.places h (.waiting l (i, trigger)) := by
  rw [State.places_congr (t := s.admitEntry l e trigger i h)
      (s := s.setSlot h ⟨s.slots[h].generation + 1, some (e.shot l i trigger)⟩) (State.admitEntry_slots ..), State.setSlot_places]
  rfl

theorem State.admitEntry_queues (s : State) (l : LaneId) (e : Entry) (trigger : Position) (i : ProgramId) (h : Handle) :
    ∃ before after, s.queues l = before ++ after ∧
      (s.admitEntry l e trigger i h).queues = Function.update s.queues l (before ++ h :: after) := by
  obtain ⟨before, after, hqueue, hlanes, -⟩ := s.admitEntry_placed l e trigger i h
  exact ⟨before, after, hqueue, (State.queues_congr (s := s.setLane l { s.lanes[l] with queue := before ++ h :: after }) hlanes).trans
    (s.setLane_queues l _)⟩

theorem admitEntry_poolSound {s : State} (hs : s.poolSound) {l : LaneId} {trigger : Position} {i : ProgramId} {h : Handle}
    (ok : s.Admits l trigger i h) (e : Entry) : (s.admitEntry l e trigger i h).poolSound := by
  obtain ⟨R, hempty⟩ := s.poolSound_iff.mp hs
  obtain ⟨before, after, hqueue, hqueues⟩ := s.admitEntry_queues l e trigger i h
  refine (State.poolSound_iff _).mpr ⟨?_, fun m hm => ?_⟩
  · rw [State.admitEntry_places, hqueues, State.runHandles_congr (State.admitEntry_runs ..)]
    exact R.enqueue ((Slot.place_free_iff _).mpr ok.free) (i, trigger) (hqueue ▸ List.perm_middle)
  · rw [State.admitEntry_laneState] at hm
    have hml : m ≠ l := fun h => ok.running (h ▸ hm)
    rw [hqueues, Function.update_of_ne hml]
    exact hempty m hm

/-- What a disarm leaves (R30): the shots of the queue are gone, and the lane is OFF and empty. -/
theorem State.flushShots_places (q : List Handle) (s : State) (j : Handle) :
    (q.foldl State.flushShot s).places j = if j ∈ q then .free else s.places j := by
  induction q generalizing s with
  | nil => simp
  | cons h rest ih =>
    have hfirst : (s.flushShot h).places = Function.update s.places h .free := by
      rw [State.flushShot, State.endShot_places, State.places_congr (State.dropRef_slots s h)]
    rw [List.foldl_cons, ih, hfirst]
    by_cases hj : j = h
    · subst hj; simp
    · simp [hj]

theorem disarm_poolSound {s : State} (hs : s.poolSound) (l : LaneId) : (s.disarm l).poolSound := by
  obtain ⟨R, hempty⟩ := s.poolSound_iff.mp hs
  have hqueues : (s.disarm l).queues = Function.update s.queues l [] := by
    rw [State.queues_congr (s.disarm_lanes l), State.setLane_queues]
  have hplaces (j : Handle) : (s.disarm l).places j = if j ∈ s.queues l then .free else s.places j :=
    State.flushShots_places _ _ j
  refine (State.poolSound_iff _).mpr ⟨?_, fun m hm => ?_⟩
  · rw [hqueues, State.runHandles_congr (s.disarm_runs l)]
    refine R.leave (fun m => ?_) (fun m j hj hnot => ?_) (fun j hall => ?_)
    · by_cases hm : m = l
      · subst hm; rw [Function.update_self]; exact List.nil_sublist _
      · rw [Function.update_of_ne hm]
    · by_cases hm : m = l
      · subst hm; rw [hplaces, if_pos hj]
      · rw [Function.update_of_ne hm] at hnot; exact absurd hj hnot
    · rw [hplaces, if_neg]
      intro hj
      have := hall l hj
      simp at this
  · rw [hqueues]
    by_cases hml : m = l
    · subst hml; rw [Function.update_self]
    · rw [Function.update_of_ne hml]
      rw [s.disarm_lanes l, State.setLane_at, if_neg (Ne.symm hml)] at hm
      exact hempty m hm

theorem State.queuedShot_waits {s : State} {h : Handle} {sh : Shot} (hw : s.queuedShot h = some sh) : s.waits h sh := by
  unfold State.queuedShot at hw
  split at hw
  · cases hw
  · split at hw
    · cases hw; exact ⟨‹_›, ‹_›⟩
    · cases hw

theorem cancelShot_poolSound {s : State} (hs : s.poolSound) {h : Handle} {sh : Shot} (hw : s.waits h sh) :
    (s.cancelShot h sh).poolSound := by
  obtain ⟨R, hempty⟩ := s.poolSound_iff.mp hs
  have hqueues : (s.cancelShot h sh).queues = Function.update s.queues sh.lane ((s.queues sh.lane).filter (fun j => j != h)) := by
    rw [State.queues_congr (s.cancelShot_lanes h sh), State.setLane_queues]
    rfl
  have hplaces : (s.cancelShot h sh).places = Function.update s.places h .free := by
    rw [State.cancelShot, State.endShot_places]
    rfl
  have hin : h ∈ s.queues sh.lane := (R.waits _ _).mpr ⟨_, (s.places_waiting_iff h _ _).mpr ⟨sh, hw, rfl, rfl⟩⟩
  refine (State.poolSound_iff _).mpr ⟨?_, fun m hm => ?_⟩
  · rw [hqueues, hplaces, State.runHandles_congr (s.cancelShot_runs h sh)]
    refine R.leave (fun m => ?_) (fun m j hj hnot => ?_) (fun j hall => ?_)
    · by_cases hm : m = sh.lane
      · subst hm; rw [Function.update_self]; exact List.filter_sublist
      · rw [Function.update_of_ne hm]
    · by_cases hm : m = sh.lane
      · subst hm
        rw [Function.update_self, List.mem_filter] at hnot
        have hjh : j = h := by simpa [hj] using hnot
        rw [hjh, Function.update_self]
      · rw [Function.update_of_ne hm] at hnot; exact absurd hj hnot
    · refine Function.update_of_ne ?_ _ _
      rintro rfl
      have := hall _ hin
      simp at this
  · rw [s.cancelShot_lanes, State.setLane_at] at hm
    rw [hqueues]
    by_cases hml : m = sh.lane
    · subst hml
      rw [if_pos rfl] at hm
      rw [Function.update_self, hempty _ hm, List.filter_nil]
    · rw [if_neg (Ne.symm hml)] at hm
      rw [Function.update_of_ne hml]
      exact hempty m hm

/-- An amend gives a waiting shot a DEFINED program, or leaves it its own (R54). -/
theorem State.amendShot_eq {s : State} {a : AmendSet} (passes : s.amendCheck a = none) : ∃ sh i,
    s.waits a.handle sh ∧ (i = sh.program ∨ (s.programs[i].active).isSome = true) ∧
    s.amendShot a = (s.moveRef sh.program i).setSlot a.handle ⟨s.slots[a.handle].generation + 1, some (sh.amendedBy a i)⟩ := by
  unfold State.amendCheck at passes
  split at passes
  · cases passes
  · split at passes
    · cases passes
    · rename_i sh hwaits
      split at passes
      · cases passes
      · split at passes
        · cases passes
        · rename_i hprogram
          have hw := State.queuedShot_waits hwaits
          refine ⟨sh, if a.hasProgram then (s.definedProgram a.program).getD sh.program else sh.program, hw, ?_, ?_⟩
          · cases hdefined : s.definedProgram a.program with
            | none => left; split <;> rfl
            | some i =>
              split
              · exact .inr (State.definedProgram_active hdefined)
              · exact .inl rfl
          · simp only [State.amendShot, hw.1]

theorem State.amendShot_places {s : State} {a : AmendSet} {sh : Shot} {i : ProgramId} (hw : s.waits a.handle sh)
    (heq : s.amendShot a = (s.moveRef sh.program i).setSlot a.handle ⟨s.slots[a.handle].generation + 1, some (sh.amendedBy a i)⟩) :
    (s.amendShot a).places = Function.update s.places a.handle (.waiting sh.lane (i, sh.trigger)) := by
  rw [heq, State.setSlot_places, State.places_congr (State.moveRef_slots ..)]
  simp only [Slot.place, Shot.place, Shot.amendedBy, hw.2]

theorem amendShot_poolSound {s : State} (hs : s.poolSound) {a : AmendSet} (passes : s.amendCheck a = none) :
    (s.amendShot a).poolSound := by
  obtain ⟨R, hempty⟩ := s.poolSound_iff.mp hs
  obtain ⟨sh, i, hw, -, heq⟩ := State.amendShot_eq passes
  have hplaces := State.amendShot_places hw heq
  refine (State.poolSound_iff _).mpr ⟨?_, fun m hm => ?_⟩
  · rw [hplaces, State.queues_congr (s.amendShot_lanes a), State.runHandles_congr (s.amendShot_runs a)]
    exact R.rename ((s.places_waiting_iff _ _ _).mpr ⟨sh, hw, rfl, rfl⟩) _
  · rw [State.queues_congr (s.amendShot_lanes a)]
    rw [s.amendShot_lanes] at hm
    exact hempty m hm

theorem writeOutput_poolSound {s : State} (hs : s.poolSound) (o : OutputId) (pol : Polarity) (mode : OutputMode) :
    (s.writeOutput o pol mode).poolSound := by
  have hset (x : Output) : (s.setOutput o x).poolSound := hs
  unfold State.writeOutput
  dsimp only
  split
  · exact hset _
  · split
    · refine poolSound_of_views hs rfl rfl (funext fun k => ?_) fun _ => id
      rw [State.runHandles, State.dropHolds_at, Option.map_map]
      rfl
    · exact hset _

theorem request_poolSound {s t : State} (hmove : RequestMove s t) (hs : s.poolSound) : t.poolSound := by
  cases hmove with
  | lane l x hlane => exact setLane_poolSound hs hlane.queue hlane.off
  | disarmed l => exact disarm_poolSound hs l
  | admitted ok => exact admitEntry_poolSound hs (State.checkEntry_admits ok) _
  | cancelled hwaits => exact cancelShot_poolSound hs (State.queuedShot_waits hwaits)
  | amended passes => exact amendShot_poolSound hs passes
  | outputWritten o pol mode => exact writeOutput_poolSound hs o pol mode
  | safeInstalled n d g b => exact installSafe_poolSound hs n d g b
  | _ => exact poolSound_of_eq hs (by simp) (by simp) (by simp)

/-! ### Through a step -/

theorem poolSound_of_none {s : State} (hslots : ∀ h : Handle, s.slots[h].shot = none) (hqueues : ∀ l : LaneId, s.lanes[l].queue = [])
    (hruns : ∀ k : RunSlotId, s.runs[k] = none) : s.poolSound := by
  refine ⟨fun l => by rw [hqueues l]; exact .nil, fun l h => ?_, fun l _ => hqueues l, fun k r hr => ?_, fun h sh hsh => ?_⟩
  · simp [-Fin.getElem_fin, hqueues l, State.waits, hslots h]
  · rw [hruns k] at hr; cases hr
  · rw [hslots h] at hsh; cases hsh

theorem halfTickPasses_runHandles (s : State) : s.halfTickPasses.runHandles = s.runHandles := by
  funext k
  simp only [State.runHandles, State.halfTickPasses, Fin.getElem_fin, Vector.getElem_map, Option.map_map]
  rfl

theorem ownKept_poolSound : OwnKept State.poolSound where
  aside move h := poolSound_of_eq h move.same.slots move.same.lanes move.same.runs
  request _ move h := request_poolSound move h
  count src up _ _ h := handCount_poolSound h src up
  pacerExpiry {s n} _ h := handCount_poolSound (s := s.setPacer n _) h _ _
  runEvent k h := runEvent_poolSound h k
  frameLevel _ _ h := h
  frameStart c _ h := frameStarted_poolSound h c
  expectationLost c h := expireOldest_poolSound h c
  safeLevel _ _ h := h
  onset n h := onset_poolSound h n
  halfTick {s} _ _ h := poolSound_of_views h rfl rfl (halfTickPasses_runHandles s) fun _ => id
  warmReset {s} _ := poolSound_of_none (fun h => by simp [State.warmReset, Slot.warm]) (fun l => by simp [State.warmReset, Lane.warm])
    (fun k => by simp [State.warmReset])

theorem kept_poolSound : Kept State.poolSound where
  toOwnKept := ownKept_poolSound
  coldReset _ := poolSound_of_none (fun h => by simp [State.coldValues, State.cold, Slot.cold])
    (fun l => by simp [State.coldValues, State.cold, Lane.cold]) (fun k => by simp [State.coldValues, State.cold])
  rise _ _ h := h

end Sys2Proof.Machine

/-! SUPPORT. The reference counts (R38) through a step. -/

namespace Sys2Proof.Machine

/-! ### The counts after an operation -/

theorem State.refCounts_congr {s t : State} (h : t.programs = s.programs) :
    t.refCounts = s.refCounts ∧ t.definedPrograms = s.definedPrograms := by
  constructor <;> funext i
  · rw [State.refCounts, h, State.refCounts]
  · rw [State.definedPrograms, h, State.definedPrograms]

theorem State.setProgram_refCounts (s : State) (i : ProgramId) (x : Program) :
    (s.setProgram i x).refCounts = Function.update s.refCounts i x.refCount := by
  funext j
  rw [State.refCounts, State.setProgram_at, Function.update_apply]
  by_cases hj : j = i
  · rw [if_pos hj, if_pos hj.symm]
  · rw [if_neg hj, if_neg (Ne.symm hj), State.refCounts]

theorem State.setProgram_defined (s : State) (i : ProgramId) (x : Program) :
    (s.setProgram i x).definedPrograms = Function.update s.definedPrograms i ((x.active).isSome = true) := by
  funext j
  rw [State.definedPrograms, State.setProgram_at, Function.update_apply]
  by_cases hj : j = i
  · rw [if_pos hj, if_pos hj.symm]
  · rw [if_neg hj, if_neg (Ne.symm hj), State.definedPrograms]

theorem State.decRef_views (s : State) (i : ProgramId) :
    (s.decRef i).refCounts = Function.update s.refCounts i (s.refCounts i - 1) ∧ (s.decRef i).definedPrograms = s.definedPrograms :=
  ⟨s.setProgram_refCounts i _, (s.setProgram_defined i _).trans (Function.update_eq_self i s.definedPrograms)⟩

theorem State.incRef_views (s : State) (i : ProgramId) :
    (s.incRef i).refCounts = Function.update s.refCounts i (s.refCounts i + 1) ∧ (s.incRef i).definedPrograms = s.definedPrograms :=
  ⟨s.setProgram_refCounts i _, (s.setProgram_defined i _).trans (Function.update_eq_self i s.definedPrograms)⟩

/-- A waiting shot leaves with its count. -/
theorem State.dropRef_views {s : State} {h : Handle} {l : LaneId} {w : ProgramId × Position} (hh : s.places h = .waiting l w) :
    (s.dropRef h).refCounts = Function.update s.refCounts w.1 (s.refCounts w.1 - 1) ∧ (s.dropRef h).definedPrograms = s.definedPrograms := by
  obtain ⟨sh, ⟨hshot, -⟩, -, rfl⟩ := (s.places_waiting_iff h l w).mp hh
  rw [State.dropRef, hshot]
  exact s.decRef_views sh.program

theorem State.dropRef_of_free {s : State} {h : Handle} (hh : s.places h = .free) : s.dropRef h = s := by
  rw [State.dropRef, (Slot.place_free_iff _).mp hh]

/-! ### Through each operation -/

/-- The operation moves no shot, and undefines no program that is counted. -/
theorem refsSound_of_views {s t : State} (h : s.refsSound) (hplaces : t.places = s.places) (hcounts : t.refCounts = s.refCounts)
    (hdefined : ∀ i, 0 < s.refCounts i → s.definedPrograms i → t.definedPrograms i) : t.refsSound := by
  rw [State.refsSound_iff] at h ⊢
  rw [hplaces, hcounts]
  exact h.redefine hdefined

theorem refsSound_of_eq {s t : State} (h : s.refsSound) (hslots : t.slots = s.slots) (hprograms : t.programs = s.programs) :
    t.refsSound :=
  refsSound_of_views h (State.places_congr hslots) (State.refCounts_congr hprograms).1 fun i _ => by
    rw [(State.refCounts_congr hprograms).2]; exact id

/-- A shot that does not wait moves on to where it does not wait. -/
theorem refsSound_of_aside {s t : State} (h : s.refsSound) {j : Handle} (hj : ∀ l i, s.places j ≠ .waiting l i) {x : Place}
    (hplaces : t.places = Function.update s.places j x) (hx : ∀ l i, x ≠ .waiting l i) (hprograms : t.programs = s.programs) :
    t.refsSound := by
  rw [State.refsSound_iff] at h ⊢
  rw [hplaces, (State.refCounts_congr hprograms).1, (State.refCounts_congr hprograms).2]
  exact h.aside hj hx

/-- A waiting shot leaves with its count. -/
theorem refsSound_of_leave {s t : State} (h : s.refsSound) {j : Handle} {l : LaneId} {w : ProgramId × Position}
    (hj : s.places j = .waiting l w) {x : Place} (hplaces : t.places = Function.update s.places j x) (hx : ∀ l i, x ≠ .waiting l i)
    (hprograms : t.programs = (s.decRef w.1).programs) : t.refsSound := by
  rw [State.refsSound_iff] at h ⊢
  rw [hplaces, (State.refCounts_congr hprograms).1, (State.refCounts_congr hprograms).2, (s.decRef_views w.1).1, (s.decRef_views w.1).2]
  exact h.leave hj hx

theorem State.dropRef_programs {s : State} {h : Handle} {l : LaneId} {w : ProgramId × Position} (hh : s.places h = .waiting l w) :
    (s.dropRef h).programs = (s.decRef w.1).programs := by
  obtain ⟨sh, ⟨hshot, -⟩, -, rfl⟩ := (s.places_waiting_iff h l w).mp hh
  rw [State.dropRef, hshot]

theorem reach_refsSound {s : State} (pool : s.poolSound) (h : s.refsSound) {l : LaneId} {j : Handle} {rest : List Handle}
    (hqueue : s.lanes[l].queue = j :: rest) : (s.reach l j).refsSound := by
  obtain ⟨R, -⟩ := s.poolSound_iff.mp pool
  obtain ⟨w, hplace⟩ := (R.waits l j).mp (by rw [State.queues, hqueue]; exact List.mem_cons_self)
  obtain ⟨sh, ⟨hshot, -⟩, -⟩ := (s.places_waiting_iff j l w).mp hplace
  have hleft (x : Lane) : ((s.setLane l x).dropRef j).places = s.places ∧
      ((s.setLane l x).dropRef j).programs = (s.decRef w.1).programs ∧ ((s.setLane l x).dropRef j).slots[j].shot = some sh :=
    ⟨State.places_congr (State.dropRef_slots ..), State.dropRef_programs (s := s.setLane l x) hplace,
      by rw [State.dropRef_slots]; exact hshot⟩
  have hended (x : Lane) (code : OutcomeCode) : (((s.setLane l x).dropRef j).endShot j code).refsSound := by
    obtain ⟨hplaces, hprograms, -⟩ := hleft x
    exact refsSound_of_leave h hplace (x := .free) ((State.endShot_places ..).trans (by rw [hplaces])) nofun
      ((State.endShot_programs ..).trans hprograms)
  unfold State.reach
  dsimp only
  split
  · obtain ⟨hplaces, hprograms, hshot'⟩ := hleft { s.lanes[l] with queue := s.lanes[l].queue.tail }
    have hkeeps := (State.fireAttempt_programs ((s.setLane l { s.lanes[l] with queue := s.lanes[l].queue.tail }).dropRef j) j).trans hprograms
    rcases State.fireAttempt_views hshot' with ⟨hfree, -⟩ | ⟨k, -, hfires, -⟩
    · exact refsSound_of_leave h hplace (x := .free) (hfree.trans (by rw [hplaces])) nofun hkeeps
    · exact refsSound_of_leave h hplace (x := .firing (some k)) (hfires.trans (by rw [hplaces])) nofun hkeeps
  · exact hended _ _
  · exact hended _ _
  · rename_i hstate
    have := pool.2.2.1 l hstate
    rw [hqueue] at this
    cases this

theorem laneCount_refsSound {s : State} (pool : s.poolSound) (h : s.refsSound) (up : Bool) (l : LaneId) : (s.laneCount up l).refsSound := by
  unfold State.laneCount
  dsimp only
  split
  · exact h
  · split
    · split
      · have hmoved : (s.setLane l { s.lanes[l] with mark := s.lanes[l].mark + 1 }).refsSound := h
        have hpool : (s.setLane l { s.lanes[l] with mark := s.lanes[l].mark + 1 }).poolSound := setLane_poolSound pool rfl id
        unfold State.checkHead
        split
        · exact hmoved
        · split
          · exact hmoved
          · split
            · exact reach_refsSound hpool hmoved ‹_›
            · exact hmoved
      · exact h
    · exact refsSound_of_eq h (by simp) (by simp)

theorem handCount_refsSound {s : State} (pool : s.poolSound) (h : s.refsSound) (src : Source) (up : Bool) :
    (s.handCount src up).refsSound := by
  unfold State.handCount
  refine (foldl_holds (fun t => t.poolSound ∧ t.refsSound) _
    (fun _ l ht => ⟨laneCount_poolSound ht.1 up l, laneCount_refsSound ht.1 ht.2 up l⟩) _ _ ?_).2
  split
  · exact ⟨pool, h⟩
  · exact ⟨poolSound_of_eq pool rfl rfl rfl, h⟩

theorem runOver_refsSound {s : State} (pool : s.poolSound) (h : s.refsSound) {k : RunSlotId} {r : Run} (hrun : s.runs[k] = some r)
    (f : Shot → Shot) : (((s.setRun k none).mapShot r.handle f).leaveFiring r.handle).refsSound := by
  obtain ⟨R, -⟩ := s.poolSound_iff.mp pool
  have hfiring := R.fires k r.handle ((s.runHandles_eq_some_iff k _).mpr ⟨r, hrun, rfl⟩)
  obtain ⟨x, hx, hplaces, -⟩ := s.runOver_views k r.handle f
  exact refsSound_of_aside h (by rw [hfiring]; nofun) hplaces (by rcases hx with rfl | rfl <;> nofun) (by simp)

theorem abortRun_refsSound {s : State} (pool : s.poolSound) (h : s.refsSound) (k : RunSlotId) : (s.abortRun k).refsSound := by
  unfold State.abortRun
  split
  · exact h
  · exact runOver_refsSound pool h ‹_› _

theorem holdOutputs_refsSound {s : State} (pool : s.poolSound) (h : s.refsSound) (g : BitVec 12) : (s.holdOutputs g).refsSound :=
  (foldl_holds (fun t => t.poolSound ∧ t.refsSound) _ (fun _ k ht => ⟨abortRun_poolSound ht.1 k, abortRun_refsSound ht.1 ht.2 k⟩) _
    (s.forceInactive g) ⟨poolSound_of_eq pool rfl rfl rfl, h⟩).2

theorem haltLanes_refsSound {s : State} (h : s.refsSound) (b : BitVec 4) : (s.haltLanes b).refsSound :=
  refsSound_of_eq h (by simp) (by simp)

theorem onset_refsSound {s : State} (pool : s.poolSound) (h : s.refsSound) (n : SafeId) : (s.onset n).refsSound := by
  have hheld := haltLanes_refsSound (holdOutputs_refsSound (s := s.setSafe n { s.safes[n] with hold := true }) pool h s.safes[n].group)
    s.safes[n].binding
  exact refsSound_of_eq hheld (by simp [State.onset]) (by simp [State.onset])

theorem installSafe_refsSound {s : State} (pool : s.poolSound) (h : s.refsSound) (n : SafeId) (d : Detection) (g : BitVec 12)
    (b : BitVec 4) : (s.installSafe n d g b).refsSound := by
  unfold State.installSafe
  dsimp only
  split
  · exact haltLanes_refsSound (holdOutputs_refsSound (s := s.setSafe n _) pool h _) _
  · split
    · exact onset_refsSound (s := s.setSafe n _) pool h n
    · exact h

theorem runEvent_refsSound {s : State} (pool : s.poolSound) (h : s.refsSound) (k : RunSlotId) : (s.runEvent k).refsSound := by
  unfold State.runEvent
  split
  · exact h
  · rename_i r hrun
    have hpool : (s.setRun k (some { r.release.turnBurst with eventDone := true })).poolSound :=
      poolSound_of_views pool rfl rfl
        (State.setRun_runHandles_of_some (r := { r.release.turnBurst with eventDone := true }) hrun r.released_continues.handle)
        fun _ => id
    dsimp only
    split
    · exact runOver_refsSound (s := s.setRun k (some { r.release.turnBurst with eventDone := true })) hpool h
        (r := { r.release.turnBurst with eventDone := true }) (by rw [State.setRun_at, if_pos rfl]) _
    · obtain ⟨hplaces, -⟩ := State.startPulses_views k ({ r.release.turnBurst with eventDone := true } : Run).starting
        (s.setRun k (some { r.release.turnBurst with eventDone := true }))
      have hprograms := State.refCounts_congr (t := (({ r.release.turnBurst with eventDone := true } : Run).starting.foldl (State.startPulse k)
        (s.setRun k (some { r.release.turnBurst with eventDone := true })))) (s := s) (by simp)
      exact refsSound_of_views h hplaces hprograms.1 fun i _ => by rw [hprograms.2]; exact id

theorem endIfResolved_refsSound {s : State} (h : s.refsSound) (j : Handle) : (s.endIfResolved j).refsSound := by
  unfold State.endIfResolved
  split
  · exact h
  · rename_i sh hshot
    split
    · rename_i hresolved
      have hplace : s.places j = .awaiting := by
        rw [State.places, Slot.place_of_some hshot, Shot.place, hresolved.1]
      exact refsSound_of_aside h (by rw [hplace]; nofun) (State.endShot_places ..) nofun (by simp)
    · exact h

theorem resolved_refsSound {s : State} (h : s.refsSound) (j : Handle) {f : Shot → Shot} (hf : ∀ sh, (f sh).place = sh.place) :
    ((s.mapShot j f).endIfResolved j).refsSound :=
  endIfResolved_refsSound (refsSound_of_views h (s.mapShot_places_of_keeps j hf) (State.refCounts_congr (by simp)).1 fun i _ => by
    rw [(State.refCounts_congr (State.mapShot_programs s j f)).2]; exact id) j

theorem frameStarted_refsSound {s : State} (h : s.refsSound) (c : CameraId) : (s.frameStarted c).refsSound := by
  unfold State.frameStarted
  dsimp only
  split
  · exact h
  · split
    · split
      · exact refsSound_of_eq h (by simp) (by simp)
      · exact resolved_refsSound (s := s.setCamera c _) h _ fun _ => rfl
    · exact h

theorem expireOldest_refsSound {s : State} (h : s.refsSound) (c : CameraId) : (s.expireOldest c).refsSound := by
  unfold State.expireOldest
  dsimp only
  split
  · exact h
  · exact resolved_refsSound (s := s.setCamera c _) h _ fun _ => rfl

/-! ### The requests -/

theorem admitEntry_refsSound {s : State} (h : s.refsSound) {l : LaneId} {trigger : Position} {i : ProgramId} {j : Handle}
    (ok : s.Admits l trigger i j) (e : Entry) : (s.admitEntry l e trigger i j).refsSound := by
  rw [State.refsSound_iff] at h ⊢
  have hprograms := State.refCounts_congr (t := s.admitEntry l e trigger i j) (s := s.incRef i) rfl
  rw [State.admitEntry_places, hprograms.1, hprograms.2, (s.incRef_views i).1, (s.incRef_views i).2]
  refine h.enqueue ?_ l ok.defined
  rw [State.places, (Slot.place_free_iff _).mpr ok.free]
  nofun

/-- Each shot that is flushed takes its count with it. -/
theorem flushShots_refsSound (q : List Handle) {s : State} (h : s.refsSound)
    (hq : ∀ j ∈ q, s.places j = .free ∨ ∃ l w, s.places j = .waiting l w) : (q.foldl State.flushShot s).refsSound := by
  induction q generalizing s with
  | nil => exact h
  | cons j rest ih =>
    have hplaces : (s.flushShot j).places = Function.update s.places j .free := by
      rw [State.flushShot, State.endShot_places, State.places_congr (State.dropRef_slots s j)]
    refine ih ?_ fun g hg => ?_
    · rcases hq j List.mem_cons_self with hfree | ⟨l, w, hwaits⟩
      · rw [State.flushShot, State.dropRef_of_free hfree]
        rwa [State.endShot_free s j _ ((Slot.place_free_iff _).mp hfree)]
      · exact refsSound_of_leave h hwaits hplaces nofun ((State.endShot_programs ..).trans (State.dropRef_programs hwaits))
    · rw [hplaces]
      by_cases hgj : g = j
      · subst hgj; exact .inl (Function.update_self ..)
      · rw [Function.update_of_ne hgj]; exact hq g (List.mem_cons_of_mem _ hg)

theorem disarm_refsSound {s : State} (pool : s.poolSound) (h : s.refsSound) (l : LaneId) : (s.disarm l).refsSound := by
  obtain ⟨R, -⟩ := s.poolSound_iff.mp pool
  refine flushShots_refsSound s.lanes[l].queue (s := s.setLane l _) h fun j hj => ?_
  obtain ⟨w, hw⟩ := (R.waits l j).mp hj
  exact .inr ⟨l, w, hw⟩

theorem cancelShot_refsSound {s : State} (h : s.refsSound) {j : Handle} {sh : Shot} (hw : s.waits j sh) :
    (s.cancelShot j sh).refsSound := by
  have hplaces : (s.cancelShot j sh).places = Function.update s.places j .free := by
    rw [State.cancelShot, State.endShot_places]
    rfl
  exact refsSound_of_leave h ((s.places_waiting_iff j _ _).mpr ⟨sh, hw, rfl, rfl⟩) hplaces nofun (State.endShot_programs ..)

theorem amendShot_refsSound {s : State} (h : s.refsSound) {a : AmendSet} (passes : s.amendCheck a = none) :
    (s.amendShot a).refsSound := by
  obtain ⟨sh, i, hw, hprogram, heq⟩ := State.amendShot_eq passes
  have hplace : s.places a.handle = .waiting sh.lane (sh.program, sh.trigger) := (s.places_waiting_iff _ _ _).mpr ⟨sh, hw, rfl, rfl⟩
  have hplaces := State.amendShot_places hw heq
  have hprograms : (s.amendShot a).programs = (s.moveRef sh.program i).programs := by rw [heq]; rfl
  rw [State.refsSound_iff] at h ⊢
  have hdefined : (s.amendShot a).definedPrograms = s.definedPrograms := by
    funext j
    rw [State.definedPrograms, hprograms, State.moveRef_active, State.definedPrograms]
  rw [hplaces, hdefined]
  refine h.move (fun j => ?_) fun l k hk => ?_
  · have hmoved := State.moveRef_refCount (h.counted hplace) i j
    have htoNat (k : ProgramId) : ((Place.waiting sh.lane (k, sh.trigger)).waitsFor j).toNat = if k = j then 1 else 0 := by
      by_cases hkj : k = j <;> simp [Place.waitsFor, hkj]
    rw [hplace, htoNat, htoNat, State.refCounts, hprograms]
    exact hmoved
  · cases hk
    rcases hprogram with rfl | hactive
    · exact h.named _ _ _ hplace
    · exact hactive

theorem storeVersion_refsSound {s : State} (h : s.refsSound) (i : ProgramId) (v : Version) : (s.storeVersion i v).refsSound := by
  have hset (x : Program) (hcount : x.refCount = s.refCounts i) (hdefined : s.definedPrograms i → (x.active).isSome = true) :
      (s.setProgram i x).refsSound := by
    refine refsSound_of_views h rfl ?_ fun j _ hj => ?_
    · rw [State.setProgram_refCounts, hcount]
      exact Function.update_eq_self i s.refCounts
    · rw [State.setProgram_defined]
      by_cases hji : j = i
      · subst hji; rw [Function.update_self]; exact hdefined hj
      · rwa [Function.update_of_ne hji]
  unfold State.storeVersion
  split
  · exact hset _ rfl fun _ => rfl
  · exact hset _ rfl id

/-- A program is cleared only where no waiting shot names it (R75). -/
theorem cleared_refsSound {s : State} (h : s.refsSound) {i : ProgramId} (unused : s.programs[i].refCount = 0) :
    (s.setProgram i { s.programs[i] with active := none }).refsSound := by
  refine refsSound_of_views h rfl ?_ fun j hcounted hj => ?_
  · rw [State.setProgram_refCounts]
    exact Function.update_eq_self i s.refCounts
  · have hji : j ≠ i := by
      rintro rfl
      rw [State.refCounts, unused] at hcounted
      exact absurd hcounted (Nat.lt_irrefl 0)
    rwa [State.setProgram_defined, Function.update_of_ne hji]

/-- The versions of all programs change, and none that is DEFINED is lost. -/
theorem mapPrograms_refsSound {s t : State} (h : s.refsSound) {f : Program → Program} (hslots : t.slots = s.slots)
    (hprograms : t.programs = s.programs.map f) (hcount : ∀ x, (f x).refCount = x.refCount)
    (hactive : ∀ x, (x.active).isSome = true → ((f x).active).isSome = true) : t.refsSound := by
  have hat (i : ProgramId) : t.programs[i] = f s.programs[i] := by
    rw [hprograms]; simp only [Fin.getElem_fin, Vector.getElem_map]
  refine refsSound_of_views h (State.places_congr hslots) (funext fun i => ?_) fun i _ hi => ?_
  · rw [State.refCounts, hat, hcount, State.refCounts]
  · rw [State.definedPrograms, hat]
    exact hactive _ hi

theorem request_refsSound {s t : State} (hmove : RequestMove s t) (pool : s.poolSound) (hs : s.refsSound) : t.refsSound := by
  cases hmove with
  | disarmed l => exact disarm_refsSound pool hs l
  | admitted ok => exact admitEntry_refsSound hs (State.checkEntry_admits ok) _
  | cancelled hwaits => exact cancelShot_refsSound hs (State.queuedShot_waits hwaits)
  | amended passes => exact amendShot_refsSound hs passes
  | stored i => exact storeVersion_refsSound hs i _
  | cleared unused => exact cleared_refsSound hs unused
  | holdReleased =>
    refine mapPrograms_refsSound hs rfl rfl (fun _ => rfl) fun x hx => ?_
    unfold Program.released
    dsimp only
    split
    · assumption
    · exact hx
  | holdDiscarded => exact mapPrograms_refsSound hs rfl rfl (fun _ => rfl) fun _ => id
  | safeInstalled n d g b => exact installSafe_refsSound pool hs n d g b
  | _ => exact refsSound_of_eq hs (by simp) (by simp)

/-! ### Through a step -/

theorem refsSound_of_none {s : State} (hslots : ∀ h : Handle, s.slots[h].shot = none)
    (hcounts : ∀ i : ProgramId, s.programs[i].refCount = 0) : s.refsSound := by
  refine ⟨fun i => ?_, fun h sh hw => ?_⟩
  · rw [hcounts i, eq_comm, List.countP_eq_zero]
    intro h _
    simp [-Fin.getElem_fin, State.waitsFor, hslots h]
  · have := hw.1
    rw [hslots h] at this
    cases this

theorem ownKept_poolAndRefs : OwnKept (fun s => s.poolSound ∧ s.refsSound) where
  aside move h := ⟨ownKept_poolSound.aside move h.1, refsSound_of_eq h.2 move.same.slots move.same.programs⟩
  request running move h := ⟨ownKept_poolSound.request running move h.1, request_refsSound move h.1 h.2⟩
  count src up whole awake h := ⟨ownKept_poolSound.count src up whole awake h.1, handCount_refsSound h.1 h.2 src up⟩
  pacerExpiry {s n} due h := ⟨ownKept_poolSound.pacerExpiry due h.1, handCount_refsSound (s := s.setPacer n _) h.1 h.2 _ _⟩
  runEvent k h := ⟨ownKept_poolSound.runEvent k h.1, runEvent_refsSound h.1 h.2 k⟩
  frameLevel _ _ h := h
  frameStart c running h := ⟨ownKept_poolSound.frameStart c running h.1, frameStarted_refsSound h.2 c⟩
  expectationLost c h := ⟨ownKept_poolSound.expectationLost c h.1, expireOldest_refsSound h.2 c⟩
  safeLevel _ _ h := h
  onset n h := ⟨ownKept_poolSound.onset n h.1, onset_refsSound h.1 h.2 n⟩
  halfTick awake now h := ⟨ownKept_poolSound.halfTick awake now h.1, h.2⟩
  warmReset {s} h := ⟨ownKept_poolSound.warmReset h.1,
    refsSound_of_none (fun h => by simp [State.warmReset, Slot.warm]) (fun i => by simp [State.warmReset, Program.warm])⟩

theorem kept_poolAndRefs : Kept (fun s => s.poolSound ∧ s.refsSound) where
  toOwnKept := ownKept_poolAndRefs
  coldReset h := ⟨kept_poolSound.coldReset h.1, refsSound_of_none (fun h => by simp [State.coldValues, State.cold, Slot.cold])
    (fun i => by simp [State.coldValues, State.cold, Program.cold])⟩
  rise _ _ h := h

/-- Settles O57: the rules of the pool and of the counts, as each move of a shot keeps them. -/
theorem stepKeepsThePoolAndItsReferences : Obligations.StepKeepsThePoolAndItsReferences := fun _ _ hpool hrefs hstep =>
  kept_poolAndRefs.step ⟨hpool, hrefs⟩ hstep

end Sys2Proof.Machine

/-! SUPPORT. The order of the lane queues (R36, R42, R43) through a step: a queue only loses shots, but for an admission; a mark that
moves is one nearer to every shot, and the shot it reaches leaves. -/

namespace Sys2Proof.Machine

/-! ### One lane -/

/-- R36 for one lane, with the ahead-distances of its shots. -/
def ordered (c : LaneSettings) (q : List Handle) (dist : Handle → Nat) : Prop :=
  c.inRange ∧ q.length ≤ c.quota ∧ (∀ h ∈ q, 1 ≤ dist h ∧ dist h ≤ c.horizon) ∧
    q.Pairwise (fun h j => dist h + c.spacing ≤ dist j)

theorem State.queuesOrdered_iff (s : State) :
    s.queuesOrdered ↔ ∀ l : LaneId, ordered s.lanes[l].settings (s.queues l) (s.aheadOf l) := Iff.rfl

theorem ordered_nil {c : LaneSettings} (h : c.inRange) (dist : Handle → Nat) : ordered c [] dist :=
  ⟨h, Nat.zero_le _, nofun, .nil⟩

/-- Shots that leave disturb none that stay. -/
theorem ordered_of_sublist {c : LaneSettings} {q q' : List Handle} {dist dist' : Handle → Nat} (h : ordered c q dist)
    (hsub : q'.Sublist q) (hdist : ∀ j ∈ q', dist' j = dist j) : ordered c q' dist' := by
  obtain ⟨hrange, hlength, hbounds, horder⟩ := h
  refine ⟨hrange, hsub.length_le.trans hlength, fun j hj => ?_, (horder.sublist hsub).imp_of_mem fun hg hj hle => ?_⟩
  · rw [hdist j hj]; exact hbounds j (hsub.subset hj)
  · rwa [hdist _ hg, hdist _ hj]

/-- Every shot that stays is one nearer. -/
theorem ordered_of_step {c : LaneSettings} {q q' : List Handle} {dist dist' : Handle → Nat} (h : ordered c q dist)
    (hsub : q'.Sublist q) (hdist : ∀ j ∈ q', 2 ≤ dist j ∧ dist' j + 1 = dist j) : ordered c q' dist' := by
  obtain ⟨hrange, hlength, hbounds, horder⟩ := h
  refine ⟨hrange, hsub.length_le.trans hlength, fun j hj => ?_, (horder.sublist hsub).imp_of_mem fun hg hj hle => ?_⟩
  · have := hbounds j (hsub.subset hj)
    have := hdist j hj
    omega
  · have := hdist _ hg
    have := hdist _ hj
    omega

/-- A shot that is a spacing away from every other joins at its distance. -/
theorem ordered_of_insert {c : LaneSettings} {before after : List Handle} {h : Handle} {dist dist' : Handle → Nat}
    (hold : ordered c (before ++ after) dist) (hroom : (before ++ after).length < c.quota) (hdist : ∀ j ∈ before ++ after, dist' j = dist j)
    (hlow : 1 ≤ dist' h) (hhigh : dist' h ≤ c.horizon)
    (hspaced : ∀ j ∈ before ++ after, c.spacing ≤ if dist j ≤ dist' h then dist' h - dist j else dist j - dist' h)
    (hbefore : ∀ j ∈ before, dist' j ≤ dist' h) (hafter : ∀ j, after.head? = some j → dist' h < dist' j) :
    ordered c (before ++ h :: after) dist' := by
  obtain ⟨hrange, -, hbounds, horder⟩ := hold
  obtain ⟨hfirst, hlast, hacross⟩ := List.pairwise_append.mp horder
  have hspacing : 1 ≤ c.spacing := hrange.2.2.2.1
  have hb : ∀ j ∈ before, j ∈ before ++ after := fun j hj => List.mem_append_left _ hj
  have ha : ∀ j ∈ after, j ∈ before ++ after := fun j hj => List.mem_append_right _ hj
  have hfar : ∀ j ∈ after, dist' h < dist j := by
    cases hafter' : after with
    | nil => nofun
    | cons x rest =>
      rw [hafter'] at hlast
      have hx := hafter x (by rw [hafter', List.head?_cons])
      rw [hdist x (ha x (hafter' ▸ List.mem_cons_self))] at hx
      exact List.forall_mem_cons.mpr ⟨hx, fun j hj => by have := (List.pairwise_cons.mp hlast).1 j hj; omega⟩
  have hnear : ∀ j ∈ before, dist j + c.spacing ≤ dist' h := fun j hj => by
    have hle := hbefore j hj
    have hgap := hspaced j (hb j hj)
    rw [hdist j (hb j hj)] at hle
    rw [if_pos hle] at hgap
    omega
  have hbeyond : ∀ j ∈ after, dist' h + c.spacing ≤ dist j := fun j hj => by
    have hlt := hfar j hj
    have hgap := hspaced j (ha j hj)
    rw [if_neg (Nat.not_le.mpr hlt)] at hgap
    omega
  have hmem {j : Handle} (hj : j ∈ before ++ h :: after) : j = h ∨ j ∈ before ++ after := by
    simpa [or_left_comm] using hj
  refine ⟨hrange, ?_, fun j hj => ?_, List.pairwise_append.mpr ⟨?_, List.pairwise_cons.mpr ⟨fun j hj => ?_, ?_⟩, fun g hg j hj => ?_⟩⟩
  · simp only [List.length_append, List.length_cons] at hroom ⊢
    omega
  · rcases hmem hj with rfl | hin
    · exact ⟨hlow, hhigh⟩
    · rw [hdist j hin]; exact hbounds j hin
  · exact hfirst.imp_of_mem fun hg hj hle => by rwa [hdist _ (hb _ hg), hdist _ (hb _ hj)]
  · rw [hdist j (ha j hj)]; exact hbeyond j hj
  · exact hlast.imp_of_mem fun hg hj hle => by rwa [hdist _ (ha _ hg), hdist _ (ha _ hj)]
  · rw [hdist g (hb g hg)]
    rcases List.mem_cons.mp hj with rfl | hin
    · exact hnear g hg
    · rw [hdist j (ha j hin)]; exact hacross g hg j hin

/-! ### What waits is what waited -/

/-- A waiting shot's distance is counted from the mark to its trigger. -/
theorem State.aheadOf_of_waiting {s : State} {h : Handle} {l : LaneId} {w : ProgramId × Position} (hh : s.places h = .waiting l w)
    (m : LaneId) : s.aheadOf m h = ahead s.lanes[m].mark w.2 := by
  obtain ⟨sh, ⟨hshot, -⟩, -, rfl⟩ := (s.places_waiting_iff h l w).mp hh
  rw [State.aheadOf, Slot.trigger, hshot]
  rfl

/-- Every shot that waits in `t` waited in `s`, with the same trigger. -/
def NoneNew (s t : State) : Prop :=
  ∀ h l w, t.places h = .waiting l w → ∃ v, s.places h = .waiting l v ∧ v.2 = w.2

theorem NoneNew.of_eq {s t : State} (h : t.places = s.places) : NoneNew s t := fun _ _ w hw => ⟨w, h ▸ hw, rfl⟩

theorem NoneNew.trans {s t u : State} (hst : NoneNew s t) (htu : NoneNew t u) : NoneNew s u := fun h l w hw => by
  obtain ⟨v, hv, hvw⟩ := htu h l w hw
  obtain ⟨x, hx, hxv⟩ := hst h l v hv
  exact ⟨x, hx, hxv.trans hvw⟩

/-- One shot moves on to where it does not wait. -/
theorem NoneNew.of_update {s t : State} {j : Handle} {x : Place} (h : t.places = Function.update s.places j x)
    (hx : ∀ l w, x ≠ .waiting l w) : NoneNew s t := fun g l w hw => by
  rw [h] at hw
  by_cases hg : g = j
  · subst hg; rw [Function.update_self] at hw; exact absurd hw (hx l w)
  · rw [Function.update_of_ne hg] at hw; exact ⟨w, hw, rfl⟩

theorem NoneNew.aheadOf {s t : State} (h : NoneNew s t) (pool : t.poolSound) {l : LaneId} {j : Handle} (hj : j ∈ t.queues l)
    (hmark : t.lanes[l].mark = s.lanes[l].mark) : t.aheadOf l j = s.aheadOf l j := by
  obtain ⟨R, -⟩ := t.poolSound_iff.mp pool
  obtain ⟨w, hw⟩ := (R.waits l j).mp hj
  obtain ⟨v, hv, hvw⟩ := h j l w hw
  rw [State.aheadOf_of_waiting hw, State.aheadOf_of_waiting hv, hmark, hvw]

/-- The operation moves no mark, writes no settings and admits no shot. -/
theorem queuesOrdered_of {s t : State} (hs : s.queuesOrdered) (pool : t.poolSound) (hnone : NoneNew s t)
    (hlanes : ∀ l : LaneId, t.lanes[l].settings = s.lanes[l].settings ∧ t.lanes[l].mark = s.lanes[l].mark ∧
      (t.queues l).Sublist (s.queues l)) : t.queuesOrdered := fun l => by
  obtain ⟨hsettings, hmark, hsub⟩ := hlanes l
  have := ordered_of_sublist (hs l) hsub (dist' := t.aheadOf l) fun j hj => hnone.aheadOf pool hj hmark
  rwa [← hsettings] at this

theorem queuesOrdered_of_lanes {s t : State} (hs : s.queuesOrdered) (pool : t.poolSound) (hnone : NoneNew s t)
    (hlanes : t.lanes = s.lanes) : t.queuesOrdered :=
  queuesOrdered_of hs pool hnone fun l => by
    rw [State.queues_congr hlanes, hlanes]
    exact ⟨rfl, rfl, .refl _⟩

/-! ### The mark moves (R22, R23) -/

theorem ahead_succ {m t : Position} (h : 1 ≤ ahead m t) : ahead (m + 1) t + 1 = ahead m t := by
  unfold ahead at h ⊢
  bv_omega

theorem ahead_eq_one_iff (m t : Position) : ahead m t = 1 ↔ t = m + 1 := by
  unfold ahead
  constructor <;> intro h <;> bv_omega

/-- The mark of lane `l` moves by one, and its shots at the distance 1 are gone. -/
theorem queuesOrdered_of_step {s t : State} (hs : s.queuesOrdered) (pool : t.poolSound) (hnone : NoneNew s t) {l : LaneId}
    {q : List Handle} (hlanes : t.lanes = (s.setLane l { s.lanes[l] with mark := s.lanes[l].mark + 1, queue := q }).lanes)
    (hsub : q.Sublist (s.queues l)) (hfar : ∀ j ∈ q, 2 ≤ s.aheadOf l j) : t.queuesOrdered := fun m => by
  have hqueue : t.queues m = if l = m then q else s.queues m := by
    rw [State.queues, hlanes, State.setLane_at]
    split <;> rfl
  by_cases hlm : l = m
  · subst hlm
    rw [if_pos rfl] at hqueue
    have hlane : t.lanes[l].settings = s.lanes[l].settings ∧ t.lanes[l].mark = s.lanes[l].mark + 1 := by
      rw [hlanes, State.setLane_at, if_pos rfl]; exact ⟨rfl, rfl⟩
    have hstep : ordered s.lanes[l].settings q (t.aheadOf l) := ordered_of_step (hs l) hsub fun j hj => by
      obtain ⟨R, -⟩ := t.poolSound_iff.mp pool
      obtain ⟨w, hw⟩ := (R.waits l j).mp (by rw [hqueue]; exact hj)
      obtain ⟨v, hv, hvw⟩ := hnone j l w hw
      have h2 := hfar j hj
      refine ⟨h2, ?_⟩
      rw [State.aheadOf_of_waiting hv, hvw] at h2 ⊢
      rw [State.aheadOf_of_waiting hw, hlane.2]
      exact ahead_succ (by omega)
    show ordered t.lanes[l].settings (t.queues l) (t.aheadOf l)
    rwa [hlane.1, hqueue]
  · rw [if_neg hlm] at hqueue
    have hlane : t.lanes[m] = s.lanes[m] := by rw [hlanes, State.setLane_at, if_neg hlm]
    have hsame := ordered_of_sublist (hs m) (.refl _) (dist' := t.aheadOf m) fun j hj =>
      hnone.aheadOf pool (by rw [hqueue]; exact hj) (by rw [hlane])
    show ordered t.lanes[m].settings (t.queues m) (t.aheadOf m)
    rwa [hlane, hqueue]

theorem reach_noneNew {s : State} {l : LaneId} {j : Handle} {sh : Shot} (hshot : s.slots[j].shot = some sh) :
    NoneNew s (s.reach l j) := by
  have hleft (x : Lane) : ((s.setLane l x).dropRef j).places = s.places := State.places_congr (State.dropRef_slots ..)
  have hended (x : Lane) (code : OutcomeCode) : NoneNew s (((s.setLane l x).dropRef j).endShot j code) :=
    .of_update (x := .free) ((State.endShot_places ..).trans (by rw [hleft])) nofun
  unfold State.reach
  dsimp only
  split
  · have hshot' (x : Lane) : ((s.setLane l x).dropRef j).slots[j].shot = some sh := by rw [State.dropRef_slots]; exact hshot
    rcases State.fireAttempt_views (hshot' { s.lanes[l] with queue := s.lanes[l].queue.tail }) with ⟨hfree, -⟩ | ⟨k, -, hfires, -⟩
    · exact .of_update (x := .free) (hfree.trans (by rw [hleft])) nofun
    · exact .of_update (x := .firing (some k)) (hfires.trans (by rw [hleft])) nofun
  · exact hended _ _
  · exact hended _ _
  · exact .of_eq (hleft _)

theorem State.checkHead_nil {s : State} {l : LaneId} (h : s.lanes[l].queue = []) : s.checkHead l = s := by
  rw [State.checkHead, h]

theorem State.checkHead_cons {s : State} {l : LaneId} {j : Handle} {rest : List Handle} {sh : Shot} (h : s.lanes[l].queue = j :: rest)
    (hshot : s.slots[j].shot = some sh) : s.checkHead l = if sh.trigger = s.lanes[l].mark then s.reach l j else s := by
  rw [State.checkHead, h]
  simp only [hshot]

/-- The mark of a lane has moved, and the shot it reaches, at the distance 1, leaves. -/
theorem checkHead_queuesOrdered {s t : State} (pool : s.poolSound) (hs : s.queuesOrdered) {l : LaneId} (hpool : t.poolSound)
    (hslots : t.slots = s.slots) (hlanes : t.lanes = (s.setLane l { s.lanes[l] with mark := s.lanes[l].mark + 1 }).lanes) :
    (t.checkHead l).queuesOrdered := by
  obtain ⟨R, -⟩ := s.poolSound_iff.mp pool
  obtain ⟨hrange, -, hbounds, hpairs⟩ := hs l
  have hlane : t.lanes[l] = { s.lanes[l] with mark := s.lanes[l].mark + 1 } := by rw [hlanes, State.setLane_at, if_pos rfl]
  have hqueue : t.lanes[l].queue = s.lanes[l].queue := by rw [hlane]
  have hmark : t.lanes[l].mark = s.lanes[l].mark + 1 := by rw [hlane]
  have hsame : NoneNew s t := .of_eq (State.places_congr hslots)
  have hstays (hfar : ∀ j ∈ s.lanes[l].queue, 2 ≤ s.aheadOf l j) : t.queuesOrdered :=
    queuesOrdered_of_step hs hpool hsame (q := s.lanes[l].queue) hlanes (.refl _) hfar
  cases hq : s.lanes[l].queue with
  | nil =>
    rw [State.checkHead_nil (hqueue.trans hq)]
    exact hstays (by rw [hq]; nofun)
  | cons j rest =>
    obtain ⟨w, hw⟩ := (R.waits l j).mp (by rw [State.queues, hq]; exact List.mem_cons_self)
    obtain ⟨sh, ⟨hshot, -⟩, -, rfl⟩ := (s.places_waiting_iff j l w).mp hw
    have hshot' : t.slots[j].shot = some sh := by rw [hslots]; exact hshot
    have hdist : s.aheadOf l j = 1 ↔ sh.trigger = s.lanes[l].mark + 1 := by
      rw [State.aheadOf_of_waiting hw, ahead_eq_one_iff]
    have hspacing : 1 ≤ s.lanes[l].settings.spacing := hrange.2.2.2.1
    rw [hq] at hpairs hbounds hstays
    have hfirst := (hbounds j List.mem_cons_self).1
    have hrest : ∀ g ∈ rest, 2 ≤ s.aheadOf l g := fun g hg => by
      have := (List.pairwise_cons.mp hpairs).1 g hg
      omega
    rw [State.checkHead_cons (hqueue.trans hq) hshot', hmark]
    split
    · refine queuesOrdered_of_step (l := l) (q := rest) hs (reach_poolSound hpool (hqueue.trans hq))
        (hsame.trans (reach_noneNew hshot')) ?_ ?_ hrest
      · rw [State.reach_lanes, hlane, hq, State.setLane, hlanes]
        simp [State.setLane]
      · rw [State.queues, hq]; exact List.sublist_cons_self j rest
    · rename_i hnot
      have hne : s.aheadOf l j ≠ 1 := fun h => hnot (hdist.mp h)
      exact hstays (List.forall_mem_cons.mpr ⟨by omega, hrest⟩)

theorem setLane_queuesOrdered {s : State} (pool : s.poolSound) (hs : s.queuesOrdered) {l : LaneId} {x : Lane}
    (hqueue : x.queue = s.lanes[l].queue) (hoff : x.state = .off → s.lanes[l].state = .off)
    (hwaiting : s.lanes[l].queue = [] ∧ x.settings.inRange ∨ x.settings = s.lanes[l].settings ∧ x.mark = s.lanes[l].mark) :
    (s.setLane l x).queuesOrdered := fun m => by
  have hpool := setLane_poolSound pool hqueue hoff
  have hsame : NoneNew s (s.setLane l x) := .of_eq rfl
  by_cases hlm : l = m
  · subst hlm
    show ordered (s.setLane l x).lanes[l].settings (s.setLane l x).lanes[l].queue _
    rw [State.setLane_at, if_pos rfl, hqueue]
    rcases hwaiting with ⟨hempty, hrange⟩ | ⟨hsettings, hmark⟩
    · rw [hempty]
      exact ordered_nil hrange _
    · rw [hsettings]
      refine ordered_of_sublist (hs l) (.refl _) fun j hj => ?_
      refine hsame.aheadOf hpool ?_ ?_
      · rw [State.setLane_queues, Function.update_self, hqueue]; exact hj
      · rw [State.setLane_at, if_pos rfl, hmark]
  · have hlane : (s.setLane l x).lanes[m] = s.lanes[m] := by rw [State.setLane_at, if_neg hlm]
    show ordered (s.setLane l x).lanes[m].settings (s.setLane l x).lanes[m].queue _
    rw [hlane]
    refine ordered_of_sublist (hs m) (.refl _) fun j hj => ?_
    refine hsame.aheadOf hpool ?_ (by rw [hlane])
    rw [State.queues, hlane]; exact hj

theorem checkReverse_queuesOrdered {s : State} (pool : s.poolSound) (hs : s.queuesOrdered) (l : LaneId) :
    (s.checkReverse l).queuesOrdered := by
  have hpool : (s.latch (.reverse l)).poolSound := poolSound_of_eq pool (by simp) (by simp) (by simp)
  have hlatched : (s.latch (.reverse l)).queuesOrdered :=
    queuesOrdered_of_lanes hs hpool (.of_eq (State.places_congr (by simp))) (by simp)
  unfold State.checkReverse
  dsimp only
  split
  · split
    · exact setLane_queuesOrdered hpool hlatched (by simp) nofun (.inr (by simp))
    · exact hlatched
  · exact hs

theorem laneCount_queuesOrdered {s : State} (pool : s.poolSound) (hs : s.queuesOrdered) (up : Bool) (l : LaneId) :
    (s.laneCount up l).queuesOrdered := by
  unfold State.laneCount
  dsimp only
  split
  · exact hs
  · split
    · split
      · exact checkHead_queuesOrdered pool hs (setLane_poolSound pool rfl id) rfl rfl
      · exact hs
    · exact checkReverse_queuesOrdered pool hs l

theorem handCount_queuesOrdered {s : State} (pool : s.poolSound) (hs : s.queuesOrdered) (src : Source) (up : Bool) :
    (s.handCount src up).queuesOrdered := by
  unfold State.handCount
  refine (foldl_holds (fun t => t.poolSound ∧ t.queuesOrdered) _
    (fun _ l ht => ⟨laneCount_poolSound ht.1 up l, laneCount_queuesOrdered ht.1 ht.2 up l⟩) _ _ ?_).2
  split
  · exact ⟨pool, hs⟩
  · exact ⟨poolSound_of_eq pool rfl rfl rfl, hs⟩

/-! ### No other event admits a shot -/

theorem runOver_noneNew (s : State) (k : RunSlotId) (h : Handle) (f : Shot → Shot) :
    NoneNew s (((s.setRun k none).mapShot h f).leaveFiring h) := by
  obtain ⟨x, hx, hplaces, -⟩ := s.runOver_views k h f
  exact .of_update hplaces (by rcases hx with rfl | rfl <;> nofun)

theorem abortRun_noneNew (s : State) (k : RunSlotId) : NoneNew s (s.abortRun k) := by
  unfold State.abortRun
  split
  · exact .of_eq rfl
  · exact runOver_noneNew s k _ _

theorem holdOutputs_noneNew (s : State) (g : BitVec 12) : NoneNew s (s.holdOutputs g) :=
  foldl_holds (NoneNew s) _ (fun t k ht => ht.trans (abortRun_noneNew t k)) _ (s.forceInactive g) (.of_eq rfl)

/-- Lanes that are halted keep settings, mark and queue. -/
theorem halted_queuesOrdered {s t : State} (hs : s.queuesOrdered) (pool : t.poolSound) (hnone : NoneNew s t) {b : BitVec 4}
    (hlanes : t.lanes = (s.haltLanes b).lanes) : t.queuesOrdered :=
  queuesOrdered_of hs pool hnone fun l => by
    have hlane : t.lanes[l] = { s.lanes[l] with state := t.lanes[l].state } := by rw [hlanes, State.haltLanes_at]
    rw [State.queues, hlane]
    exact ⟨rfl, rfl, .refl _⟩

theorem State.haltLanes_lanes_congr {s t : State} (h : t.lanes = s.lanes) (b : BitVec 4) :
    (t.haltLanes b).lanes = (s.haltLanes b).lanes := by
  refine Vector.ext fun i hi => ?_
  have hat := State.haltLanes_at t b ⟨i, hi⟩
  rw [h, ← State.haltLanes_at s b ⟨i, hi⟩] at hat
  exact hat

theorem onset_queuesOrdered {s : State} (pool : s.poolSound) (hs : s.queuesOrdered) (n : SafeId) : (s.onset n).queuesOrdered := by
  refine halted_queuesOrdered (b := s.safes[n].binding) hs (onset_poolSound pool n) ?_ ?_
  · have hheld := holdOutputs_noneNew (s.setSafe n { s.safes[n] with hold := true }) s.safes[n].group
    exact .trans (s := s) hheld (.of_eq (State.places_congr (by simp [State.onset])))
  · rw [State.onset, State.latch_lanes]
    exact State.haltLanes_lanes_congr (by simp) _

theorem installSafe_queuesOrdered {s : State} (pool : s.poolSound) (hs : s.queuesOrdered) (n : SafeId) (d : Detection) (g : BitVec 12)
    (b : BitVec 4) : (s.installSafe n d g b).queuesOrdered := by
  have hpool := installSafe_poolSound pool n d g b
  unfold State.installSafe at hpool ⊢
  dsimp only at hpool ⊢
  split
  · rename_i hold
    rw [if_pos hold] at hpool
    refine halted_queuesOrdered hs hpool ?_ (State.haltLanes_lanes_congr (by simp) _)
    have hheld := holdOutputs_noneNew (s.setSafe n { s.safes[n] with detection := d, group := g, binding := b }) (g &&& ~~~s.safes[n].group)
    exact .trans (s := s) hheld (.of_eq (State.places_congr (by simp)))
  · split
    · exact onset_queuesOrdered (s := s.setSafe n _) pool hs n
    · exact hs

theorem runEvent_noneNew (s : State) (k : RunSlotId) : NoneNew s (s.runEvent k) := by
  unfold State.runEvent
  split
  · exact .of_eq rfl
  · rename_i r hrun
    dsimp only
    split
    · exact runOver_noneNew (s.setRun k _) k _ _
    · exact .of_eq (State.startPulses_views k _ _).1

theorem endIfResolved_noneNew (s : State) (j : Handle) : NoneNew s (s.endIfResolved j) := by
  unfold State.endIfResolved
  split
  · exact .of_eq rfl
  · split
    · exact .of_update (State.endShot_places ..) nofun
    · exact .of_eq rfl

theorem resolved_noneNew (s : State) (j : Handle) {f : Shot → Shot} (hf : ∀ sh, (f sh).place = sh.place) :
    NoneNew s ((s.mapShot j f).endIfResolved j) :=
  .trans (.of_eq (s.mapShot_places_of_keeps j hf)) (endIfResolved_noneNew _ j)

theorem frameStarted_noneNew (s : State) (c : CameraId) : NoneNew s (s.frameStarted c) := by
  unfold State.frameStarted
  dsimp only
  split
  · exact .of_eq rfl
  · split
    · split
      · exact .of_eq (State.places_congr (by simp))
      · exact resolved_noneNew (s.setCamera c _) _ fun _ => rfl
    · exact .of_eq rfl

theorem expireOldest_noneNew (s : State) (c : CameraId) : NoneNew s (s.expireOldest c) := by
  unfold State.expireOldest
  dsimp only
  split
  · exact .of_eq rfl
  · exact resolved_noneNew (s.setCamera c _) _ fun _ => rfl

/-! ### The requests -/

theorem admitEntry_queuesOrdered {s : State} (pool : s.poolSound) (hs : s.queuesOrdered) {l : LaneId} {trigger : Position}
    {i : ProgramId} {h : Handle} (ok : s.Admits l trigger i h) (e : Entry) : (s.admitEntry l e trigger i h).queuesOrdered := by
  have hpool := admitEntry_poolSound pool ok e
  have hplaces := s.admitEntry_places l e trigger i h
  obtain ⟨R, -⟩ := s.poolSound_iff.mp pool
  have hfree : s.places h = .free := (Slot.place_free_iff _).mpr ok.free
  obtain ⟨before, after, hqueue, hlanes, hbefore, hafter⟩ := s.admitEntry_placed l e trigger i h
  have hlane (m : LaneId) : (s.admitEntry l e trigger i h).lanes[m] =
      if l = m then { s.lanes[l] with queue := before ++ h :: after } else s.lanes[m] := by
    rw [hlanes]; exact s.setLane_at l m _
  have hdist (m : LaneId) (j : Handle) (hj : j ∈ s.queues m) : (s.admitEntry l e trigger i h).aheadOf m j = s.aheadOf m j := by
    obtain ⟨w, hw⟩ := (R.waits m j).mp hj
    have hjh : j ≠ h := by rintro rfl; rw [hfree] at hw; cases hw
    have hw' : (s.admitEntry l e trigger i h).places j = .waiting m w := by rw [hplaces, Function.update_of_ne hjh, hw]
    have hmark : (s.admitEntry l e trigger i h).lanes[m].mark = s.lanes[m].mark := by
      rw [hlane]; split
      · rename_i hlm; subst hlm; rfl
      · rfl
    rw [State.aheadOf_of_waiting hw', State.aheadOf_of_waiting hw, hmark]
  intro m
  by_cases hlm : l = m
  · subst hlm
    have hnew : (s.admitEntry l e trigger i h).aheadOf l h = ahead s.lanes[l].mark trigger := by
      rw [State.aheadOf_of_waiting (w := (i, trigger)) (l := l) (by rw [hplaces, Function.update_self]), hlane, if_pos rfl]
    show ordered (s.admitEntry l e trigger i h).lanes[l].settings (s.admitEntry l e trigger i h).lanes[l].queue _
    rw [hlane, if_pos rfl]
    have hold : ordered s.lanes[l].settings (before ++ after) (s.aheadOf l) := hqueue ▸ hs l
    have hspaced := ok.spaced
    rw [State.tooClose, List.any_eq_false, hqueue] at hspaced
    refine ordered_of_insert hold (hqueue ▸ ok.room) (fun j hj => hdist l j (by rw [State.queues, hqueue]; exact hj)) ?_ ?_
      (fun j hj => ?_) hbefore hafter
    · rw [hnew]; exact ok.positive
    · rw [hnew]; exact ok.horizon
    · rw [hnew]
      simpa using hspaced j hj
  · show ordered (s.admitEntry l e trigger i h).lanes[m].settings (s.admitEntry l e trigger i h).lanes[m].queue _
    rw [hlane, if_neg hlm]
    exact ordered_of_sublist (hs m) (.refl _) fun j hj => hdist m j hj

theorem disarm_noneNew (s : State) (l : LaneId) : NoneNew s (s.disarm l) := fun j m w hw => by
  have hplaces : (s.disarm l).places j = if j ∈ s.queues l then .free else s.places j := State.flushShots_places _ _ j
  rw [hplaces] at hw
  split at hw
  · cases hw
  · exact ⟨w, hw, rfl⟩

theorem amendShot_noneNew {s : State} {a : AmendSet} (passes : s.amendCheck a = none) : NoneNew s (s.amendShot a) := by
  obtain ⟨sh, i, hw, -, heq⟩ := State.amendShot_eq passes
  have hplaces := State.amendShot_places hw heq
  intro j l w hj
  rw [hplaces] at hj
  by_cases hja : j = a.handle
  · subst hja
    rw [Function.update_self] at hj
    cases hj
    exact ⟨(sh.program, sh.trigger), (s.places_waiting_iff _ _ _).mpr ⟨sh, hw, rfl, rfl⟩, rfl⟩
  · rw [Function.update_of_ne hja] at hj
    exact ⟨w, hj, rfl⟩

/-- A lane's queue loses shots. -/
theorem lessQueued_queuesOrdered {s t : State} (hs : s.queuesOrdered) (pool : t.poolSound) (hnone : NoneNew s t) {l : LaneId} {x : Lane}
    (hlanes : t.lanes = (s.setLane l x).lanes) (hsettings : x.settings = s.lanes[l].settings) (hmark : x.mark = s.lanes[l].mark)
    (hsub : x.queue.Sublist s.lanes[l].queue) : t.queuesOrdered :=
  queuesOrdered_of hs pool hnone fun m => by
    rw [State.queues, hlanes, State.setLane_at]
    split
    · rename_i hlm; subst hlm; exact ⟨hsettings, hmark, hsub⟩
    · exact ⟨rfl, rfl, .refl _⟩

theorem request_queuesOrdered {s t : State} (hmove : RequestMove s t) (pool : s.poolSound) (hs : s.queuesOrdered) : t.queuesOrdered := by
  have hpool := request_poolSound hmove pool
  cases hmove with
  | lane l x hlane =>
    refine setLane_queuesOrdered pool hs hlane.queue hlane.off ?_
    by_cases hoff : s.lanes[l].state = .off
    · refine .inl ⟨pool.2.2.1 l hoff, ?_⟩
      rcases hlane.ranges with hsame | hrange
      · rw [hsame]; exact (hs l).1
      · exact hrange
    · exact .inr (hlane.waiting hoff)
  | disarmed l => exact lessQueued_queuesOrdered hs hpool (disarm_noneNew s l) (s.disarm_lanes l) rfl rfl (List.nil_sublist _)
  | admitted ok => exact admitEntry_queuesOrdered pool hs (State.checkEntry_admits ok) _
  | cancelled hwaits =>
    rename_i h sh
    have hplaces : (s.cancelShot h sh).places = Function.update s.places h .free := by
      rw [State.cancelShot, State.endShot_places]
      rfl
    exact lessQueued_queuesOrdered hs hpool (.of_update hplaces nofun) (s.cancelShot_lanes h sh) rfl rfl List.filter_sublist
  | amended passes => exact queuesOrdered_of_lanes hs hpool (amendShot_noneNew passes) (State.amendShot_lanes ..)
  | outputWritten o pol mode =>
    have hframe : (s.writeOutput o pol mode).slots = s.slots ∧ (s.writeOutput o pol mode).lanes = s.lanes := by simp
    exact queuesOrdered_of_lanes hs hpool (.of_eq (State.places_congr hframe.1)) hframe.2
  | safeInstalled n d g b => exact installSafe_queuesOrdered pool hs n d g b
  | _ => exact queuesOrdered_of_lanes hs hpool (.of_eq (State.places_congr (by simp))) (by simp)

/-! ### Through a step -/

theorem queuesOrdered_of_empty {s : State} (h : ∀ l : LaneId, s.lanes[l].settings.inRange ∧ s.lanes[l].queue = []) : s.queuesOrdered :=
  fun l => by
    obtain ⟨hrange, hempty⟩ := h l
    show ordered s.lanes[l].settings s.lanes[l].queue _
    rw [hempty]
    exact ordered_nil hrange _

theorem ownKept_poolAndOrder : OwnKept (fun s => s.poolSound ∧ s.queuesOrdered) where
  aside move h := ⟨ownKept_poolSound.aside move h.1, queuesOrdered_of_lanes h.2 (ownKept_poolSound.aside move h.1)
    (.of_eq (State.places_congr move.same.slots)) move.same.lanes⟩
  request running move h := ⟨ownKept_poolSound.request running move h.1, request_queuesOrdered move h.1 h.2⟩
  count src up whole awake h := ⟨ownKept_poolSound.count src up whole awake h.1, handCount_queuesOrdered h.1 h.2 src up⟩
  pacerExpiry {s n} due h :=
    ⟨ownKept_poolSound.pacerExpiry due h.1, handCount_queuesOrdered (s := s.setPacer n _) h.1 h.2 _ _⟩
  runEvent {s} k h := ⟨ownKept_poolSound.runEvent k h.1, queuesOrdered_of_lanes h.2 (ownKept_poolSound.runEvent k h.1)
    (runEvent_noneNew s k) (by simp)⟩
  frameLevel _ _ h := h
  frameStart {s} c running h := ⟨ownKept_poolSound.frameStart c running h.1,
    queuesOrdered_of_lanes h.2 (ownKept_poolSound.frameStart c running h.1) (frameStarted_noneNew s c) (by simp)⟩
  expectationLost {s} c h := ⟨ownKept_poolSound.expectationLost c h.1,
    queuesOrdered_of_lanes h.2 (ownKept_poolSound.expectationLost c h.1) (expireOldest_noneNew s c) (by simp)⟩
  safeLevel _ _ h := h
  onset n h := ⟨ownKept_poolSound.onset n h.1, onset_queuesOrdered h.1 h.2 n⟩
  halfTick awake now h := ⟨ownKept_poolSound.halfTick awake now h.1, h.2⟩
  warmReset {s} h := ⟨ownKept_poolSound.warmReset h.1,
    queuesOrdered_of_empty fun l => by simpa [State.warmReset, Lane.warm] using (h.2 l).1⟩

theorem kept_poolAndOrder : Kept (fun s => s.poolSound ∧ s.queuesOrdered) where
  toOwnKept := ownKept_poolAndOrder
  coldReset h := ⟨kept_poolSound.coldReset h.1,
    queuesOrdered_of_empty fun l => by simp [State.coldValues, State.cold, Lane.cold, LaneSettings.inRange]⟩
  rise _ _ h := h

/-- Settles O58: with the pool's rules, a mark that moves reaches at most the head of its queue. -/
theorem stepKeepsTheQueuesOrdered : Obligations.StepKeepsTheQueuesOrdered := fun _ _ hpool horder hstep =>
  (kept_poolAndOrder.step ⟨hpool, horder⟩ hstep).2

end Sys2Proof.Machine

/-! SUPPORT. The expectations of a shot (R33, R121) through a step: what a shot owes is its outstanding count, an expectation that is
taken or leaves moves it by one, and a shot ends owing none. -/

namespace Sys2Proof.Machine

/-! ### One shot -/

/-- The phase and the outstanding count of the shot in each slot. -/
def Slot.due (x : Slot) : Option (ShotPhase × Nat) := x.shot.map fun sh => (sh.phase, sh.outstanding)
def State.dues (s : State) (h : Handle) : Option (ShotPhase × Nat) := s.slots[h].due

/-- R33, R121: what a slot owes against the number of expectations that name it. -/
structure Awaits (x : Option (ShotPhase × Nat)) (n : Nat) : Prop where
  owed (p : ShotPhase) (m : Nat) : x = some (p, m) → m = n
  awaiting (m : Nat) : x = some (.awaiting, m) → 0 < m
  unnamed : (∀ p m, x = some (p, m) → p = .queued) → n = 0

theorem State.awaitSound_iff (s : State) : s.awaitSound ↔ ∀ h, Awaits (s.dues h) (s.expectationsOf h) := by
  refine forall_congr' fun h => ?_
  unfold State.dues Slot.due
  cases s.slots[h].shot with
  | none => exact ⟨fun hs => ⟨nofun, nofun, fun _ => hs.2.2 nofun⟩, fun hs => ⟨nofun, nofun, fun _ => hs.unnamed nofun⟩⟩
  | some sh =>
    constructor
    · rintro ⟨howed, hawaiting, hunnamed⟩
      refine ⟨fun p m hm => ?_, fun m hm => ?_, fun hqueued => hunnamed fun x hx => ?_⟩
      · cases hm; exact howed sh rfl
      · cases hp : sh.phase with
        | awaiting => rw [Option.map_some, hp] at hm; cases hm; exact hawaiting sh rfl hp
        | _ => rw [Option.map_some, hp] at hm; cases hm
      · cases hx; exact hqueued _ _ rfl
    · rintro ⟨howed, hawaiting, hunnamed⟩
      refine ⟨fun x hx => ?_, fun x hx hp => ?_, fun hqueued => hunnamed fun p m hm => ?_⟩
      · cases hx; exact howed _ _ rfl
      · cases hx; exact hawaiting _ (by rw [Option.map_some, hp])
      · cases hm; exact hqueued _ rfl

theorem Awaits.none_zero : Awaits none 0 := ⟨nofun, nofun, fun _ => rfl⟩

theorem Awaits.queued_zero : Awaits (some (.queued, 0)) 0 := ⟨fun _ _ h => by cases h; rfl, nofun, fun _ => rfl⟩

theorem Awaits.firing (n : Nat) : Awaits (some (.firing, n)) n :=
  ⟨fun _ _ h => by cases h; rfl, nofun, fun h => by cases h _ _ rfl⟩

theorem Awaits.awaits {n : Nat} (h : 0 < n) : Awaits (some (.awaiting, n)) n :=
  ⟨fun _ _ h => by cases h; rfl, fun _ hm => by cases hm; exact h, fun h => by cases h _ _ rfl⟩

/-- A slot that is named holds a shot that has fired. -/
theorem Awaits.fired {x : Option (ShotPhase × Nat)} {n : Nat} (h : Awaits x n) (hn : 0 < n) : ∃ p, x = some (p, n) ∧ p ≠ .queued := by
  by_contra hno
  have := h.unnamed fun p m hm => by
    by_contra hp
    exact hno ⟨p, by rw [hm, h.owed p m hm], hp⟩
  omega

/-! ### The views after an operation -/

theorem State.dues_congr {s t : State} (h : t.slots = s.slots) : t.dues = s.dues := by
  funext j; rw [State.dues, h, State.dues]

theorem State.setSlot_dues (s : State) (h : Handle) (x : Slot) : (s.setSlot h x).dues = Function.update s.dues h x.due := by
  funext j
  rw [State.dues, State.setSlot_at, Function.update_apply]
  by_cases hj : j = h
  · rw [if_pos hj, if_pos hj.symm]
  · rw [if_neg hj, if_neg (Ne.symm hj), State.dues]

theorem State.mapShot_dues (s : State) (h : Handle) (f : Shot → Shot) :
    (s.mapShot h f).dues = Function.update s.dues h ((s.slots[h].shot.map f).map fun sh => (sh.phase, sh.outstanding)) :=
  s.setSlot_dues h _

theorem State.mapShot_dues_of_keeps (s : State) (h : Handle) {f : Shot → Shot}
    (hf : ∀ sh, (f sh).phase = sh.phase ∧ (f sh).outstanding = sh.outstanding) : (s.mapShot h f).dues = s.dues := by
  rw [State.mapShot_dues, Option.map_map]
  refine Function.update_eq_self_iff.mpr (congrArg (s.slots[h].shot.map ·) (funext fun sh => ?_))
  rw [Function.comp_apply, (hf sh).1, (hf sh).2]

theorem State.endShot_dues (s : State) (h : Handle) (code : OutcomeCode) : (s.endShot h code).dues = Function.update s.dues h none := by
  cases hsh : s.slots[h].shot with
  | none =>
    rw [State.endShot_free s h code hsh]
    exact (Function.update_eq_self_iff.mpr (by rw [State.dues, Slot.due, hsh, Option.map_none])).symm
  | some sh =>
    rw [State.dues_congr (t := s.endShot h code) (s := s.setSlot h ⟨s.slots[h].generation, none⟩) (State.endShot_slots s h code sh hsh),
      State.setSlot_dues]
    rfl

theorem State.expectationsOf_congr {s t : State} (h : ∀ c : CameraId, t.cameras[c].queue = s.cameras[c].queue) (j : Handle) :
    t.expectationsOf j = s.expectationsOf j := by
  unfold State.expectationsOf
  exact congrArg List.sum (List.map_congr_left fun c _ => by rw [h c])

/-- How often the entries of one queue name a shot. -/
def named (q : List Expectation) (j : Handle) : Nat := q.countP (fun e => e.handle == j)

theorem State.setCamera_expectationsOf (s : State) (c : CameraId) (x : Camera) (j : Handle) :
    (s.setCamera c x).expectationsOf j + named s.cameras[c].queue j = s.expectationsOf j + named x.queue j := by
  have hsplit := List.perm_cons_erase (List.mem_finRange c)
  have hsum (t : State) : t.expectationsOf j =
      named t.cameras[c].queue j + ((allCameras.erase c).map (fun d : CameraId => named t.cameras[d].queue j)).sum := by
    unfold State.expectationsOf
    rw [allCameras, (hsplit.map _).sum_eq, List.map_cons, List.sum_cons]
    rfl
  have hrest : (allCameras.erase c).map (fun d : CameraId => named (s.setCamera c x).cameras[d].queue j) =
      (allCameras.erase c).map (fun d : CameraId => named s.cameras[d].queue j) :=
    List.map_congr_left fun d hd => by
      rw [State.setCamera_at, if_neg (Ne.symm ((List.nodup_finRange 4).mem_erase_iff.mp hd).1)]
  rw [hsum, hsum s, hrest, State.setCamera_at, if_pos rfl]
  omega

/-- An expectation that is taken names its shot once more. -/
theorem State.push_expectationsOf (s : State) (c : CameraId) (x : Camera) (hx : x.queue = s.cameras[c].queue) {h : Handle}
    {t : Timestamp} (j : Handle) :
    (s.setCamera c (x.push h t)).expectationsOf j = s.expectationsOf j + if h = j then 1 else 0 := by
  have hcount := s.setCamera_expectationsOf c (x.push h t) j
  have hpush : named (x.push h t).queue j = named s.cameras[c].queue j + if h = j then 1 else 0 := by
    simp [named, Camera.push, List.countP_cons, hx]
  omega

/-- The slots owe as before, and the cameras' entries are the same. -/
theorem awaitSound_of_views {s t : State} (h : s.awaitSound) (hdues : t.dues = s.dues)
    (hcameras : ∀ c : CameraId, t.cameras[c].queue = s.cameras[c].queue) : t.awaitSound := by
  rw [State.awaitSound_iff] at h ⊢
  intro j
  rw [hdues, State.expectationsOf_congr hcameras]
  exact h j

theorem awaitSound_of_eq {s t : State} (h : s.awaitSound) (hslots : t.slots = s.slots) (hcameras : t.cameras = s.cameras) :
    t.awaitSound := awaitSound_of_views h (State.dues_congr hslots) fun _ => by rw [hcameras]

/-- One slot moves on. -/
theorem awaitSound_of_update {s t : State} (h : s.awaitSound) {j : Handle} {x : Option (ShotPhase × Nat)}
    (hdues : t.dues = Function.update s.dues j x) (hcameras : ∀ c : CameraId, t.cameras[c].queue = s.cameras[c].queue)
    (hx : Awaits x (s.expectationsOf j)) : t.awaitSound := by
  rw [State.awaitSound_iff] at h ⊢
  intro g
  rw [hdues, State.expectationsOf_congr hcameras]
  by_cases hg : g = j
  · subst hg; rw [Function.update_self]; exact hx
  · rw [Function.update_of_ne hg]; exact h g

/-- A shot that owes none ends. -/
theorem endShot_awaitSound {s : State} (h : s.awaitSound) {j : Handle} (hj : s.expectationsOf j = 0) (code : OutcomeCode) :
    (s.endShot j code).awaitSound :=
  awaitSound_of_update h (s.endShot_dues j code) (fun c => by simp) (hj ▸ .none_zero)

/-- A slot that is free or waits is not named. -/
theorem State.expectationsOf_of_unfired {s : State} (h : s.awaitSound) {j : Handle}
    (hj : s.places j = .free ∨ ∃ l w, s.places j = .waiting l w) : s.expectationsOf j = 0 := by
  refine (h j).2.2 fun sh hsh => ?_
  rcases hj with hfree | ⟨l, w, hw⟩
  · rw [(Slot.place_free_iff _).mp hfree] at hsh; cases hsh
  · obtain ⟨sh', ⟨hsh', hqueued⟩, -⟩ := (s.places_waiting_iff j l w).mp hw
    rw [hsh] at hsh'
    cases hsh'
    exact hqueued

/-! ### Pulse starts -/

theorem State.markCollision_dues (s : State) (k : RunSlotId) (js : List RunSlotId) : (s.markCollision k js).dues = s.dues := by
  unfold State.markCollision
  rw [State.dues_congr (State.latch_slots _ _)]
  refine foldl_keeps State.dues _ (fun t j => ?_) _ _
  split
  · exact State.mapShot_dues_of_keeps _ _ fun _ => ⟨rfl, rfl⟩
  · rfl

/-- The expectation of a firing shot is taken: its count rises with it. -/
theorem handTrigger_awaitSound {s : State} (h : s.awaitSound) {k : RunSlotId} {r : Run} {x : Option RunSlotId}
    (hfiring : s.places r.handle = .firing x) (c : CameraId) : (s.handTrigger k r c).awaitSound := by
  obtain ⟨sh, hsh, hphase, -⟩ := (s.places_firing_iff _ _).mp hfiring
  unfold State.handTrigger
  dsimp only
  split
  · refine awaitSound_of_views h rfl fun d => ?_
    rw [State.setCamera_at]
    split
    · rename_i hcd; subst hcd; rfl
    · rfl
  · rw [State.awaitSound_iff] at h ⊢
    intro j
    rw [State.mapShot_dues, State.expectationsOf_congr (s := (s.setRun k (some (r.giveUp c))).setCamera c
      ((s.cameras[c].triggered r.pulseStartTime).push r.handle r.pulseStartTime)) (fun d => by rw [State.mapShot_cameras]),
      State.push_expectationsOf (s.setRun k (some (r.giveUp c))) c (s.cameras[c].triggered r.pulseStartTime) rfl]
    by_cases hj : j = r.handle
    · subst hj
      have hdue : s.dues r.handle = some (.firing, sh.outstanding) := by
        rw [State.dues, Slot.due, hsh, Option.map_some, hphase]
      rw [Function.update_self, show ((s.setRun k (some (r.giveUp c))).setCamera c _).slots[r.handle].shot = some sh from hsh,
        Option.map_some, Option.map_some, if_pos rfl, hphase, (h r.handle).owed _ _ hdue]
      exact .firing _
    · rw [if_neg (Ne.symm hj), Function.update_of_ne hj]
      exact h j

theorem startPulse_awaitSound {s : State} (h : s.awaitSound) {k : RunSlotId}
    (hfiring : ∀ j, s.runHandles k = some j → s.places j = .firing (some k)) (x : Pulse × Nat) : (State.startPulse k s x).awaitSound := by
  unfold State.startPulse
  split
  · exact h
  · rename_i r hrun
    have hplace := hfiring r.handle (by rw [State.runHandles, hrun, Option.map_some])
    dsimp only
    split
    · exact h
    · have hmarked (js : List RunSlotId) : (if js.isEmpty then s else s.markCollision k js).awaitSound ∧
          (if js.isEmpty then s else s.markCollision k js).places = s.places := by
        split
        · exact ⟨h, rfl⟩
        · exact ⟨awaitSound_of_views h (s.markCollision_dues k js) fun c => by simp, s.markCollision_places k js⟩
      split
      · exact (hmarked _).1
      · refine handTrigger_awaitSound (x := some k) ?_ ?_ _
        · exact (hmarked _).1
        · exact (congrFun (hmarked _).2 _).trans hplace

theorem startPulses_awaitSound {s : State} (h : s.awaitSound) {k : RunSlotId}
    (hfiring : ∀ j, s.runHandles k = some j → s.places j = .firing (some k)) (xs : List (Pulse × Nat)) :
    (xs.foldl (State.startPulse k) s).awaitSound := by
  refine (foldl_holds (fun t => t.awaitSound ∧ ∀ j, t.runHandles k = some j → t.places j = .firing (some k)) _
    (fun t x ht => ⟨startPulse_awaitSound ht.1 ht.2 x, ?_⟩) xs s ⟨h, hfiring⟩).1
  rw [(State.startPulse_views k t x).1, (State.startPulse_views k t x).2]
  exact ht.2

/-! ### The events -/

theorem fireAttempt_awaitSound {s : State} (h : s.awaitSound) {j : Handle} (hj : ∃ l w, s.places j = .waiting l w) :
    (s.fireAttempt j).awaitSound := by
  have hzero := State.expectationsOf_of_unfired h (.inr hj)
  have hended (code : OutcomeCode) : (s.endShot j code).awaitSound := endShot_awaitSound h hzero code
  obtain ⟨l, w, hw⟩ := hj
  obtain ⟨sh, ⟨hsh, hqueued⟩, -⟩ := (s.places_waiting_iff j l w).mp hw
  unfold State.fireAttempt
  simp only [hsh]
  split
  · exact hended _
  · split
    · exact hended _
    · rename_i k hk
      split
      · unfold State.fire
        refine startPulses_awaitSound ?_ (fun g hg => ?_) _
        · refine awaitSound_of_update (s := s) h (j := j) (x := some (.firing, sh.outstanding)) ?_ (fun c => rfl) ?_
          · rw [State.mapShot_dues, show (s.setRun k _).slots[j].shot = some sh from hsh]
            rfl
          · rw [(h j).1 sh hsh]
            exact .firing _
        · rw [State.runHandles_congr (State.mapShot_runs ..), State.setRun_runHandles, Function.update_self] at hg
          cases hg
          rw [State.mapShot_places_of_some (s := s.setRun k _) (h := j) (sh := sh) hsh]
          exact Function.update_self ..
      · exact hended _

theorem reach_awaitSound {s : State} (pool : s.poolSound) (h : s.awaitSound) {l : LaneId} {j : Handle} {rest : List Handle}
    (hqueue : s.lanes[l].queue = j :: rest) : (s.reach l j).awaitSound := by
  obtain ⟨R, -⟩ := s.poolSound_iff.mp pool
  obtain ⟨w, hw⟩ := (R.waits l j).mp (by rw [State.queues, hqueue]; exact List.mem_cons_self)
  have hleft (x : Lane) : ((s.setLane l x).dropRef j).awaitSound ∧ ((s.setLane l x).dropRef j).places j = .waiting l w :=
    ⟨awaitSound_of_eq h (by simp) (by simp), (congrFun (State.places_congr (State.dropRef_slots ..)) j).trans hw⟩
  have hended (x : Lane) (code : OutcomeCode) : (((s.setLane l x).dropRef j).endShot j code).awaitSound :=
    endShot_awaitSound (hleft x).1 (State.expectationsOf_of_unfired (hleft x).1 (.inr ⟨l, w, (hleft x).2⟩)) code
  unfold State.reach
  dsimp only
  split
  · exact fireAttempt_awaitSound (hleft _).1 ⟨l, w, (hleft _).2⟩
  · exact hended _ _
  · exact hended _ _
  · exact (hleft _).1

theorem laneCount_awaitSound {s : State} (pool : s.poolSound) (h : s.awaitSound) (up : Bool) (l : LaneId) :
    (s.laneCount up l).awaitSound := by
  unfold State.laneCount
  dsimp only
  split
  · exact h
  · split
    · split
      · have hmoved : (s.setLane l { s.lanes[l] with mark := s.lanes[l].mark + 1 }).awaitSound := h
        have hpool : (s.setLane l { s.lanes[l] with mark := s.lanes[l].mark + 1 }).poolSound := setLane_poolSound pool rfl id
        unfold State.checkHead
        split
        · exact hmoved
        · split
          · exact hmoved
          · split
            · exact reach_awaitSound hpool hmoved ‹_›
            · exact hmoved
      · exact h
    · exact awaitSound_of_eq h (by simp) (by simp)

theorem handCount_awaitSound {s : State} (pool : s.poolSound) (h : s.awaitSound) (src : Source) (up : Bool) :
    (s.handCount src up).awaitSound := by
  unfold State.handCount
  refine (foldl_holds (fun t => t.poolSound ∧ t.awaitSound) _
    (fun _ l ht => ⟨laneCount_poolSound ht.1 up l, laneCount_awaitSound ht.1 ht.2 up l⟩) _ _ ?_).2
  split
  · exact ⟨pool, h⟩
  · exact ⟨poolSound_of_eq pool rfl rfl rfl, h⟩

/-- A shot whose run is over ends when it owes none, and else waits for its frames (R94, R97). -/
theorem leaveFiring_awaitSound {s : State} (h : s.awaitSound) (j : Handle) : (s.leaveFiring j).awaitSound := by
  unfold State.leaveFiring
  split
  · exact h
  · rename_i sh hsh
    have howed : sh.outstanding = s.expectationsOf j := (h j).1 sh hsh
    split
    · rename_i hzero
      exact endShot_awaitSound h (howed ▸ hzero) _
    · rename_i hpositive
      refine awaitSound_of_update h (s.mapShot_dues j _) (fun c => by simp) ?_
      rw [hsh, ← howed]
      exact .awaits (Nat.pos_of_ne_zero hpositive)

theorem runOver_awaitSound {s : State} (h : s.awaitSound) (k : RunSlotId) (j : Handle) {f : Shot → Shot}
    (hf : ∀ sh, (f sh).phase = sh.phase ∧ (f sh).outstanding = sh.outstanding) :
    (((s.setRun k none).mapShot j f).leaveFiring j).awaitSound :=
  leaveFiring_awaitSound (awaitSound_of_views (s := s.setRun k none) h (State.mapShot_dues_of_keeps _ j hf) fun c => by simp) j

theorem abortRun_awaitSound {s : State} (h : s.awaitSound) (k : RunSlotId) : (s.abortRun k).awaitSound := by
  unfold State.abortRun
  split
  · exact h
  · exact runOver_awaitSound h k _ fun _ => ⟨rfl, rfl⟩

theorem holdOutputs_awaitSound {s : State} (h : s.awaitSound) (g : BitVec 12) : (s.holdOutputs g).awaitSound :=
  foldl_holds State.awaitSound _ (fun _ k ht => abortRun_awaitSound ht k) _ (s.forceInactive g) (awaitSound_of_eq h rfl rfl)

theorem haltLanes_awaitSound {s : State} (h : s.awaitSound) (b : BitVec 4) : (s.haltLanes b).awaitSound :=
  awaitSound_of_eq h (by simp) (by simp)

theorem onset_awaitSound {s : State} (h : s.awaitSound) (n : SafeId) : (s.onset n).awaitSound := by
  have hheld := haltLanes_awaitSound (holdOutputs_awaitSound (s := s.setSafe n { s.safes[n] with hold := true }) h s.safes[n].group)
    s.safes[n].binding
  exact awaitSound_of_eq hheld (by simp [State.onset]) (by simp [State.onset])

theorem installSafe_awaitSound {s : State} (h : s.awaitSound) (n : SafeId) (d : Detection) (g : BitVec 12) (b : BitVec 4) :
    (s.installSafe n d g b).awaitSound := by
  unfold State.installSafe
  dsimp only
  split
  · exact haltLanes_awaitSound (holdOutputs_awaitSound (s := s.setSafe n _) h _) _
  · split
    · exact onset_awaitSound (s := s.setSafe n _) h n
    · exact h

theorem runEvent_awaitSound {s : State} (pool : s.poolSound) (h : s.awaitSound) (k : RunSlotId) : (s.runEvent k).awaitSound := by
  obtain ⟨R, -⟩ := s.poolSound_iff.mp pool
  unfold State.runEvent
  split
  · exact h
  · rename_i r hrun
    dsimp only
    split
    · exact runOver_awaitSound (s := s.setRun k _) h k _ fun _ => ⟨rfl, rfl⟩
    · refine startPulses_awaitSound (s := s.setRun k _) h (fun j hj => R.fires k j ?_) _
      rwa [State.setRun_runHandles_of_some (r := { r.release.turnBurst with eventDone := true }) hrun r.released_continues.handle] at hj

/-- An expectation leaves: its shot owes one less, and ends when it owes none and its run is over (R123, R126, R127). -/
theorem resolved_awaitSound {s : State} (h : s.awaitSound) {c : CameraId} {e : Expectation} {rest : List Expectation}
    (hqueue : s.cameras[c].queue = e :: rest) {x : Camera} (hx : x.queue = rest) {f : Shot → Shot}
    (hf : ∀ sh, (f sh).phase = sh.phase ∧ (f sh).outstanding = sh.outstanding - 1) :
    (((s.setCamera c x).mapShot e.handle f).endIfResolved e.handle).awaitSound := by
  have hcount (j : Handle) : (s.setCamera c x).expectationsOf j + (if e.handle = j then 1 else 0) = s.expectationsOf j := by
    have := s.setCamera_expectationsOf c x j
    rw [hqueue, hx, named, named, List.countP_cons] at this
    simp only [beq_iff_eq] at this
    omega
  have hothers : ∀ j, j ≠ e.handle → Awaits (s.dues j) ((s.setCamera c x).expectationsOf j) := fun j hj => by
    have := hcount j
    rw [if_neg (Ne.symm hj), Nat.add_zero] at this
    rw [this]
    exact (s.awaitSound_iff.mp h) j
  have hown := hcount e.handle
  rw [if_pos rfl] at hown
  obtain ⟨p, hdue, hp⟩ := ((s.awaitSound_iff.mp h) e.handle).fired (by omega)
  obtain ⟨sh, hsh, hdue⟩ := Option.map_eq_some_iff.mp hdue
  obtain ⟨hphase, howed⟩ := Prod.mk.inj hdue
  have hshot : ((s.setCamera c x).mapShot e.handle f).slots[e.handle].shot = some (f sh) := by
    rw [State.mapShot_at, if_pos rfl]
    exact congrArg (Option.map f) hsh
  have hsame (j : Handle) : (((s.setCamera c x).mapShot e.handle f).expectationsOf j) = (s.setCamera c x).expectationsOf j :=
    State.expectationsOf_congr (fun d => by rw [State.mapShot_cameras]) j
  have hdues : ((s.setCamera c x).mapShot e.handle f).dues = Function.update s.dues e.handle (some (p, sh.outstanding - 1)) := by
    rw [State.mapShot_dues, show (s.setCamera c x).slots[e.handle].shot = some sh from hsh, Option.map_some, Option.map_some,
      (hf sh).1, (hf sh).2, hphase]
    rfl
  have hends (t : State) (y : Option (ShotPhase × Nat)) (ht : t.dues = Function.update s.dues e.handle y)
      (hcameras : t.cameras = (s.setCamera c x).cameras) (hy : Awaits y (sh.outstanding - 1)) : t.awaitSound := by
    rw [State.awaitSound_iff]
    intro j
    rw [ht, State.expectationsOf_congr (s := s.setCamera c x) (fun d => by rw [hcameras])]
    by_cases hj : j = e.handle
    · subst hj
      rw [Function.update_self, show (s.setCamera c x).expectationsOf e.handle = sh.outstanding - 1 by omega]
      exact hy
    · rw [Function.update_of_ne hj]
      exact hothers j hj
  unfold State.endIfResolved
  simp only [hshot]
  split
  · rename_i hresolved
    refine hends _ none ?_ (by simp) ?_
    · rw [State.endShot_dues, hdues, Function.update_idem]
    · rw [← (hf sh).2, hresolved.2]
      exact .none_zero
  · rename_i hgoesOn
    refine hends _ _ hdues (by simp) ?_
    cases p with
    | queued => exact absurd rfl hp
    | firing => exact .firing _
    | awaiting =>
      refine .awaits (Nat.pos_of_ne_zero fun hzero => hgoesOn ⟨?_, ?_⟩)
      · rw [(hf sh).1, hphase]
      · rw [(hf sh).2, hzero]

theorem setCamera_awaitSound {s : State} (h : s.awaitSound) {c : CameraId} {x : Camera} (hqueue : x.queue = s.cameras[c].queue) :
    (s.setCamera c x).awaitSound :=
  awaitSound_of_views h rfl fun d => by
    rw [State.setCamera_at]
    split
    · rename_i hcd; subst hcd; exact hqueue
    · rfl

theorem frameStarted_awaitSound {s : State} (h : s.awaitSound) (c : CameraId) : (s.frameStarted c).awaitSound := by
  unfold State.frameStarted
  dsimp only
  split
  · exact setCamera_awaitSound h rfl
  · split
    · split
      · exact awaitSound_of_eq (setCamera_awaitSound h (c := c) (x := { s.cameras[c] with counter := s.cameras[c].counter + 1 }) rfl)
          (by simp) (by simp)
      · exact resolved_awaitSound h ‹_› rfl fun _ => ⟨rfl, rfl⟩
    · exact setCamera_awaitSound h rfl

theorem expireOldest_awaitSound {s : State} (h : s.awaitSound) (c : CameraId) : (s.expireOldest c).awaitSound := by
  unfold State.expireOldest
  dsimp only
  split
  · exact h
  · exact resolved_awaitSound h ‹_› rfl fun _ => ⟨rfl, rfl⟩

/-! ### The requests -/

theorem flushShots_awaitSound (q : List Handle) {s : State} (h : s.awaitSound)
    (hq : ∀ j ∈ q, s.places j = .free ∨ ∃ l w, s.places j = .waiting l w) : (q.foldl State.flushShot s).awaitSound := by
  induction q generalizing s with
  | nil => exact h
  | cons j rest ih =>
    have hdropped : (s.dropRef j).awaitSound := awaitSound_of_eq h (by simp) (by simp)
    have hplaces : (s.flushShot j).places = Function.update s.places j .free := by
      rw [State.flushShot, State.endShot_places, State.places_congr (State.dropRef_slots s j)]
    refine ih (endShot_awaitSound hdropped (State.expectationsOf_of_unfired hdropped ?_) _) fun g hg => ?_
    · rw [State.places_congr (State.dropRef_slots s j)]
      exact hq j List.mem_cons_self
    · rw [hplaces]
      by_cases hgj : g = j
      · subst hgj; exact .inl (Function.update_self ..)
      · rw [Function.update_of_ne hgj]; exact hq g (List.mem_cons_of_mem _ hg)

theorem request_awaitSound {s t : State} (hmove : RequestMove s t) (pool : s.poolSound) (h : s.awaitSound) : t.awaitSound := by
  obtain ⟨R, -⟩ := s.poolSound_iff.mp pool
  cases hmove with
  | disarmed l =>
    refine flushShots_awaitSound s.lanes[l].queue (s := s.setLane l _) h fun j hj => ?_
    obtain ⟨w, hw⟩ := (R.waits l j).mp hj
    exact .inr ⟨l, w, hw⟩
  | admitted ok =>
    have hfree := (State.checkEntry_admits ok).free
    refine awaitSound_of_update h (x := some (.queued, 0)) (State.setSlot_dues s _ _) (fun c => by simp) ?_
    rw [State.expectationsOf_of_unfired h (.inl ((Slot.place_free_iff _).mpr hfree))]
    exact .queued_zero
  | cancelled hwaits =>
    have hw := State.queuedShot_waits hwaits
    refine endShot_awaitSound (s := State.decRef (State.setLane s _ _) _) h ?_ _
    exact State.expectationsOf_of_unfired h (.inr ⟨_, _, (s.places_waiting_iff _ _ _).mpr ⟨_, hw, rfl, rfl⟩⟩)
  | amended passes =>
    rename_i a
    obtain ⟨sh, i, hw, -, heq⟩ := State.amendShot_eq passes
    refine awaitSound_of_views h ?_ fun c => by simp
    rw [heq, State.setSlot_dues, State.dues_congr (State.moveRef_slots ..)]
    refine Function.update_eq_self_iff.mpr ?_
    rw [State.dues, Slot.due, Slot.due, hw.1]
    rfl
  | camera hcamera => exact setCamera_awaitSound h hcamera.queue
  | outputWritten o pol mode =>
    have hframe : (s.writeOutput o pol mode).slots = s.slots ∧ (s.writeOutput o pol mode).cameras = s.cameras := by simp
    exact awaitSound_of_eq h hframe.1 hframe.2
  | safeInstalled n d g b => exact installSafe_awaitSound h n d g b
  | _ => exact awaitSound_of_eq h (by simp) (by simp)

/-! ### Through a step -/

theorem awaitSound_of_none {s : State} (hslots : ∀ h : Handle, s.slots[h].shot = none)
    (hcameras : ∀ c : CameraId, s.cameras[c].queue = []) : s.awaitSound := fun h => by
  have hzero : s.expectationsOf h = 0 := by
    unfold State.expectationsOf
    exact List.sum_eq_zero fun n hn => by
      obtain ⟨c, -, rfl⟩ := List.mem_map.mp hn
      rw [hcameras c]
      rfl
  refine ⟨fun sh hsh => ?_, fun sh hsh => ?_, fun _ => hzero⟩ <;> (rw [hslots h] at hsh; cases hsh)

theorem halfTickPasses_cameraQueue (s : State) (c : CameraId) : s.halfTickPasses.cameras[c].queue = s.cameras[c].queue := by
  unfold State.halfTickPasses
  dsimp only
  split
  · simp only [Fin.getElem_fin, Vector.getElem_map, Camera.tick]
    split <;> rfl
  · rfl

theorem ownKept_poolAndAwait : OwnKept (fun s => s.poolSound ∧ s.awaitSound) where
  aside move h := ⟨ownKept_poolSound.aside move h.1, awaitSound_of_eq h.2 move.same.slots move.same.cameras⟩
  request running move h := ⟨ownKept_poolSound.request running move h.1, request_awaitSound move h.1 h.2⟩
  count src up whole awake h := ⟨ownKept_poolSound.count src up whole awake h.1, handCount_awaitSound h.1 h.2 src up⟩
  pacerExpiry {s n} due h := ⟨ownKept_poolSound.pacerExpiry due h.1, handCount_awaitSound (s := s.setPacer n _) h.1 h.2 _ _⟩
  runEvent k h := ⟨ownKept_poolSound.runEvent k h.1, runEvent_awaitSound h.1 h.2 k⟩
  frameLevel _ _ h := ⟨h.1, setCamera_awaitSound h.2 rfl⟩
  frameStart c running h := ⟨ownKept_poolSound.frameStart c running h.1, frameStarted_awaitSound h.2 c⟩
  expectationLost c h := ⟨ownKept_poolSound.expectationLost c h.1, expireOldest_awaitSound h.2 c⟩
  safeLevel _ _ h := h
  onset n h := ⟨ownKept_poolSound.onset n h.1, onset_awaitSound h.2 n⟩
  halfTick {s} awake now h := ⟨ownKept_poolSound.halfTick awake now h.1, awaitSound_of_views h.2 rfl (halfTickPasses_cameraQueue s)⟩
  warmReset h := ⟨ownKept_poolSound.warmReset h.1, awaitSound_of_none (fun h => by simp [State.warmReset, Slot.warm])
    (fun c => by simp [State.warmReset, Camera.warm])⟩

theorem kept_poolAndAwait : Kept (fun s => s.poolSound ∧ s.awaitSound) where
  toOwnKept := ownKept_poolAndAwait
  coldReset h := ⟨kept_poolSound.coldReset h.1, awaitSound_of_none (fun h => by simp [State.coldValues, State.cold, Slot.cold])
    (fun c => by simp [State.coldValues, State.cold, Camera.cold])⟩
  rise _ _ h := h

/-- Settles O59: with the pool's rules, an expectation is taken and leaves together with one of its shot's outstanding count. -/
theorem stepKeepsTheExpectations : Obligations.StepKeepsTheExpectations := fun _ _ hpool hawait hstep =>
  (kept_poolAndAwait.step ⟨hpool, hawait⟩ hstep).2

end Sys2Proof.Machine

/-! SUPPORT. The machine right after reset (R166) has what the steps keep. -/

namespace Sys2Proof.Machine

/-! ### The cold values -/

theorem State.reset_slots (h : Handle) : State.reset.slots[h].shot = none := by simp [State.reset, State.cold, Slot.cold]
theorem State.reset_runs (k : RunSlotId) : State.reset.runs[k] = none := by simp [State.reset, State.cold]
theorem State.reset_lanes (l : LaneId) : State.reset.lanes[l] = Lane.cold := by simp [State.reset, State.cold]
theorem State.reset_programs (i : ProgramId) : State.reset.programs[i] = Program.cold := by simp [State.reset, State.cold]
theorem State.reset_outputs (o : OutputId) : State.reset.outputs[o] = Output.cold := by simp [State.reset, State.cold]
theorem State.reset_cameras (c : CameraId) : State.reset.cameras[c] = Camera.cold .low := by simp [State.reset, State.cold]
theorem State.reset_safes (n : SafeId) : State.reset.safes[n].hold = false := by simp [State.reset, State.cold, SafeInput.cold]
theorem State.reset_pacers (n : PacerId) : State.reset.pacers[n] = Pacer.cold := by simp [State.reset, State.cold]

theorem reset_holdsStand : State.reset.holdsStand := fun n hold => by
  rw [State.reset_safes] at hold
  cases hold

theorem reset_modesStand : State.reset.modesStand := fun o =>
  ⟨fun _ => by rw [State.reset_outputs]; rfl, fun hmode => by rw [State.reset_outputs] at hmode; cases hmode⟩

theorem reset_storeSound : State.reset.storeSound := by
  refine ⟨fun _ i => by rw [State.reset_programs]; rfl, fun i v hv => ?_⟩
  rw [State.reset_programs] at hv
  rcases hv with h | h <;> cases h

theorem reset_placesSound : State.reset.placesSound := fun c => by
  have hreserved : State.reset.reservedOn c = 0 := by
    rw [State.reservedOn_eq]
    exact Finset.sum_eq_zero fun k _ => by rw [State.reset_runs]; rfl
  rw [hreserved, State.reset_cameras]
  exact Nat.zero_le 8

/-- Settles O60: nothing waits, nothing runs and nothing is held. -/
theorem resetHasWhatTheStepsKeep : Obligations.ResetHasWhatTheStepsKeep :=
  ⟨⟨Nat.zero_le _, Nat.zero_le _, Nat.zero_le _, Nat.zero_le _⟩,
    reset_holdsStand, reset_modesStand, reset_storeSound, reset_placesSound,
    poolSound_of_none State.reset_slots (fun l => by rw [State.reset_lanes]; rfl) State.reset_runs,
    refsSound_of_none State.reset_slots fun i => by rw [State.reset_programs]; rfl,
    queuesOrdered_of_empty fun l => by rw [State.reset_lanes]; simp [Lane.cold, LaneSettings.inRange],
    awaitSound_of_none State.reset_slots fun c => by rw [State.reset_cameras]; rfl,
    timesSound_of_quiet State.reset_runs (fun n => by rw [State.reset_pacers]; simp [Pacer.cold])
      fun c => by rw [State.reset_cameras]; simp [Camera.cold]⟩

end Sys2Proof.Machine

/-! SUPPORT. The machine as a whole (chapter 1 and the model's clock): a step with a command and without, what is due, the cold reset,
the rise of RSTN. -/

namespace Sys2Proof.Machine

/-- Settles O1: a step takes the front command from the queue and carries it out. -/
theorem stepRunsFrontCommand : Obligations.StepRunsFrontCommand := fun _ _ => rfl

/-! ### What is due -/

theorem stable_iff (c : Fin 8) (t : Option Nat) : stable c t = true ↔ ∃ k, 4 * c.val ≤ k ∧ t = some k := by
  cases t with
  | none => simp [stable]
  | some n =>
    simp only [stable, decide_eq_true_eq, Option.some.injEq]
    exact ⟨fun h => ⟨n, h, rfl⟩, fun ⟨_, h, heq⟩ => by rw [heq]; exact h⟩

/-- A pulse of the captured ones, whatever its index. -/
theorem exists_indexed_iff (r : Run) (cond : Pulse → Prop) : (∃ x ∈ r.indexed, cond x.1) ↔ ∃ x ∈ r.pulses, cond x := by
  constructor
  · rintro ⟨x, hx, hcond⟩
    exact ⟨x.1, List.fst_mem_of_mem_zipIdx hx, hcond⟩
  · rintro ⟨x, hx, hcond⟩
    obtain ⟨i, hi, rfl⟩ := List.mem_iff_getElem.mp hx
    exact ⟨(r.pulses[i], i), by simp [Run.indexed, List.mem_zipIdx_iff_getElem?, hi], hcond⟩

theorem Run.starting_isEmpty_iff (r : Run) :
    r.starting.isEmpty = false ↔ ∃ x ∈ r.pulses, r.position = r.burstStart r.burstIndex + x.begins := by
  rw [← exists_indexed_iff r fun x => r.position = r.burstStart r.burstIndex + x.begins, Run.starting, List.isEmpty_eq_false_iff,
    Ne, List.filter_eq_nil_iff]
  simp

theorem Run.atBurstEnd_iff (r : Run) : r.atBurstEnd = true ↔ r.position = r.burstStart r.burstIndex + r.programEnd := by
  simp [Run.atBurstEnd]

/-- The burst in progress once its end is passed. -/
theorem Run.turnBurst_eq (r : Run) : r.turnBurst.position = r.position ∧ r.turnBurst.pulses = r.pulses ∧
    (∀ b, r.turnBurst.burstStart b = r.burstStart b) ∧
    r.turnBurst.burstIndex = if r.atBurstEnd = true ∧ r.burstIndex + 1 < r.burstCount then r.burstIndex + 1 else r.burstIndex := by
  unfold Run.turnBurst
  split
  · rename_i hends
    refine ⟨rfl, rfl, fun _ => rfl, ?_⟩
    simp only [hends, true_and]
  · rename_i hgoesOn
    refine ⟨rfl, rfl, fun _ => rfl, ?_⟩
    rw [if_neg fun h => hgoesOn h.1]

theorem Run.startDue_iff (r : Run) : r.startDue = true ↔ r.eventDone = false ∧ ∃ x ∈ r.pulses, r.position =
    r.burstStart (if r.atBurstEnd = true ∧ r.burstIndex + 1 < r.burstCount then r.burstIndex + 1 else r.burstIndex) + x.begins := by
  obtain ⟨hposition, hpulses, hstart, hindex⟩ := r.turnBurst_eq
  rw [Run.startDue, Bool.and_eq_true, Bool.not_eq_true', Bool.not_eq_true', Run.starting_isEmpty_iff, hposition, hpulses, hstart,
    hindex]

theorem Run.endDue_iff (r : Run) : r.endDue = true ↔ r.eventDone = false ∧
    (r.atBurstEnd = true ∨ ∃ x ∈ r.pulses, r.position = r.burstStart r.burstIndex + x.ends) := by
  rw [← exists_indexed_iff r fun x => r.position = r.burstStart r.burstIndex + x.ends]
  simp [Run.endDue]

theorem mem_firstOf {α : Type} {a b c : Bool} {x y z e : α} :
    (e ∈ if a = true then [x] else if b = true then [y] else if c = true then [z] else []) ↔
      if a = true then e = x else if b = true then e = y else c = true ∧ e = z := by
  cases a <;> cases b <;> cases c <;> simp

/-- The event due in a run slot, by the run there. -/
theorem State.mem_runDue_iff (s : State) (k : RunSlotId) (e : Act) : e ∈ s.runDue k ↔
    ∃ r, s.runs[k] = some r ∧ r.eventDone = false ∧
      let period := r.programEnd + 2 * r.burstGap
      let burstOver := r.position = r.burstIndex * period + r.programEnd
      let burst := if burstOver ∧ r.burstIndex + 1 < r.burstCount then r.burstIndex + 1 else r.burstIndex
      if r.position = (r.burstCount - 1) * period + r.programEnd then e = exec (.runCompletion k)
      else if ∃ x ∈ r.pulses, r.position = burst * period + x.begins then e = exec (.pulseStart k)
      else (burstOver ∨ ∃ x ∈ r.pulses, r.position = r.burstIndex * period + x.ends) ∧ e = exec (.pulseEnd k) := by
  unfold State.runDue
  cases s.runs[k] with
  | none => simp
  | some r =>
    have hcompletes : r.completionDue = true ↔ r.eventDone = false ∧
        r.position = (r.burstCount - 1) * (r.programEnd + 2 * r.burstGap) + r.programEnd := by
      simp [Run.completionDue, Run.length]
    have hstarts := r.startDue_iff
    have hends := r.endDue_iff
    simp only [Run.atBurstEnd_iff, Run.burstStart] at hstarts hends
    simp only [Option.some.injEq, exists_eq_left']
    cases hdone : r.eventDone with
    | true =>
      simp only [hdone, Bool.true_eq_false, false_and, iff_false, Bool.not_eq_true] at hcompletes hstarts hends
      simp [hcompletes, hstarts, hends]
    | false =>
      simp only [hdone, true_and] at hcompletes hstarts hends ⊢
      rw [mem_firstOf]
      by_cases hc : r.completionDue = true
      · rw [if_pos hc, if_pos (hcompletes.mp hc)]
        exact Iff.rfl
      · rw [if_neg hc, if_neg (hcompletes.not.mp hc)]
        by_cases hs : r.startDue = true
        · rw [if_pos hs, if_pos (hstarts.mp hs)]
          exact Iff.rfl
        · rw [if_neg hs, if_neg (hstarts.not.mp hs), hends]
          exact Iff.rfl

/-- The gap timeout and the end of a transmission, by the link's timers. -/
theorem Link.gapDue_iff (x : Link) : x.gapDue = true ↔
    x.rx ≠ .hunt ∧ x.receiving = false ∧ 40000 + stopBitRest x.baud ≤ x.gapTimer := by
  simp only [Link.gapDue, Bool.and_eq_true, bne_iff_ne, Bool.not_eq_true', decide_eq_true_eq, and_assoc]
  rfl

theorem Link.txOver_iff (x : Link) : x.txOver = true ↔
    ∃ f, x.tx = some f ∧ frameTime x.baud (f.payload.length + 6) ≤ x.txTimer := by
  unfold Link.txOver
  cases x.tx with
  | none => simp
  | some f =>
    simp only [decide_eq_true_eq, Option.some.injEq, exists_eq_left']
    rfl

theorem State.startReady_iff (s : State) : s.startReady = true ↔ ∃ c, s.phase = .starting c ∧ startTime c ≤ s.startTimer := by
  unfold State.startReady
  cases s.phase <;> simp

theorem State.takeDue_iff (s : State) : s.takeDue = true ↔
    s.phase = .running ∧ s.link.rxBuffer ≠ [] ∧ s.link.replies.length < 4 := by
  simp only [State.takeDue, Bool.and_eq_true, beq_iff_eq, Bool.not_eq_true', List.isEmpty_eq_false_iff, decide_eq_true_eq, and_assoc]
  rfl

theorem Camera.deadlineDue_iff (x : Camera) (now : Timestamp) : x.deadlineDue now = true ↔ ∃ e rest, x.queue = e :: rest ∧
    (e.deadline - e.pulseStart).toNat ≤ (now - e.pulseStart).toNat := by
  unfold Camera.deadlineDue
  cases x.queue with
  | nil => simp
  | cons e rest =>
    simp only [decide_eq_true_eq]
    exact ⟨fun h => ⟨e, rest, rfl, h⟩, fun ⟨_, _, heq, h⟩ => by cases heq; exact h⟩

theorem State.changeReady_iff (s : State) (n : EncoderId) : s.changeReady n = true ↔ s.halfTick = false ∧
    ∃ k, 4 * s.encoders[n].config.filter.val ≤ k ∧
      (s.encoders[n].timing.a = some k ∨ s.encoders[n].timing.b = some k ∨ s.encoders[n].timing.z = some k) := by
  rw [State.changeReady, Bool.and_eq_true, Bool.not_eq_true', Encoder.changeDue, Bool.or_eq_true, Bool.or_eq_true, stable_iff,
    stable_iff, stable_iff, ← exists_or, ← exists_or]
  simp only [← and_or_left, or_assoc]

theorem mem_if_singleton {α : Type} {b : Bool} {x e : α} : (e ∈ if b = true then [x] else []) ↔ b = true ∧ e = x := by
  cases b <;> simp

theorem State.mem_dueEvents_iff (s : State) (e : Act) : e ∈ s.dueEvents ↔
    (∃ n, s.changeReady n = true ∧ e = exec (.filteredChange n)) ∨
    (∃ n, s.pacers[n].expiryDue s.timestamp = true ∧ e = exec (.pacerExpiry n)) ∨
    (∃ k, e ∈ s.runDue k) ∨
    (∃ c : CameraId, s.cameras[c].deadlineDue s.timestamp = true ∧ e = exec (.deadlineExpiry c)) ∨
    (s.link.gapDue = true ∧ e = exec .gapTimeout) ∨ (s.link.txOver = true ∧ e = exec .transmitFrameEnd) ∨
    (s.startReady = true ∧ e = exec .start) ∨ (s.takeDue = true ∧ e = execTakeOldest) := by
  have hlist {n : Nat} (cond : Fin n → Bool) (f : Fin n → Act) :
      e ∈ ((List.finRange n).filter cond).map f ↔ ∃ i, cond i = true ∧ e = f i := by
    simp only [List.mem_map, List.mem_filter, List.mem_finRange, true_and]
    exact exists_congr fun i => and_congr_right' eq_comm
  have hruns : e ∈ allRunSlots.flatMap s.runDue ↔ ∃ k, e ∈ s.runDue k := by simp [allRunSlots]
  simp only [State.dueEvents, List.mem_append, allEncoders, allPacers, allCameras, hlist, hruns, mem_if_singleton, or_assoc]
  exact Iff.rfl

/-! ### The passing of time -/

theorem Camera.tick_eq (x : Camera) : x.tick = { x with elapsed :=
    (if x.lastTrigger.isSome = true then min 16777216 (x.elapsed + 1) else x.elapsed) } := by
  unfold Camera.tick
  split <;> rfl

theorem State.halfTickPasses_cameras (s : State) (c : CameraId) : s.halfTickPasses.cameras[c] = { s.cameras[c] with elapsed :=
    (if s.halfTick = true ∧ s.cameras[c].lastTrigger.isSome = true then min 16777216 (s.cameras[c].elapsed + 1)
      else s.cameras[c].elapsed) } := by
  unfold State.halfTickPasses
  dsimp only
  cases s.halfTick with
  | true =>
    simp only [if_true, Fin.getElem_fin, Vector.getElem_map, true_and]
    exact Camera.tick_eq _
  | false => simp

theorem idle_of_nothingDue {s : State} (awake : s.phase ≠ .coldReset) (h : s.dueEvents = []) : idle s = .next s.halfTickPasses := by
  unfold idle
  split
  · exact absurd ‹_› awake
  · rw [h]; rfl

theorem idle_of_one {s : State} (awake : s.phase ≠ .coldReset) {e : Act} (h : s.dueEvents = [e]) : idle s = e s := by
  unfold idle
  split
  · exact absurd ‹_› awake
  · rw [h]; rfl

theorem idle_of_some {s : State} (awake : s.phase ≠ .coldReset) (h : s.dueEvents ≠ []) :
    ∃ e ∈ s.dueEvents, ∃ a : Nat, idle s = e { s with arbiter := a } := by
  have horder := anyOrder_perm s.arbiter s.dueEvents
  unfold idle
  split
  · exact absurd ‹_› awake
  · split
    · rename_i hnone
      rw [hnone] at horder
      exact absurd horder.symm.eq_nil h
    · rename_i e rest hsome
      rw [hsome] at horder
      refine ⟨e, horder.mem_iff.mp List.mem_cons_self, ?_⟩
      unfold State.chosen
      split
      · exact ⟨s.arbiter, rfl⟩
      · exact ⟨_, rfl⟩

/-- Settles O2: what is due, source by source; then an idle step by how much is due. -/
theorem idleStepCarriesOutDueEventsOrPassesTime : Obligations.IdleStepCarriesOutDueEventsOrPassesTime := by
  refine ⟨Nat.min_le_left .., Nat.min_le_left .., fun s => ⟨fun e => ?_, fun hpending => ?_⟩⟩
  · rw [s.mem_dueEvents_iff]
    refine or_congr ?_ (or_congr ?_ (or_congr ?_ (or_congr ?_ (or_congr ?_ (or_congr ?_ (or_congr ?_ ?_))))))
    · simp only [State.changeReady_iff, ← exists_and_right, and_assoc, exists_and_left]
    · simp only [Pacer.expiryDue_iff, ← exists_and_right, and_assoc]
    · simp only [State.mem_runDue_iff]
    · simp only [Camera.deadlineDue_iff, ← exists_and_right, and_assoc]
    · rw [Link.gapDue_iff, and_assoc, and_assoc]
    · simp only [Link.txOver_iff, ← exists_and_right, and_assoc]
    · simp only [State.startReady_iff, ← exists_and_right, and_assoc]
    · rw [State.takeDue_iff, and_assoc, and_assoc]
  · have hstep : step s = idle s := by rw [step, hpending]
    rw [hstep]
    refine ⟨fun hcold => by rw [idle, hcold], fun awake => ⟨fun e => idle_of_one awake, idle_of_some awake, fun hnone =>
      ⟨_, idle_of_nothingDue awake hnone, rfl, rfl, rfl, fun k => ?_, fun n => ?_, fun n => ?_, s.halfTickPasses_cameras, rfl, rfl, rfl,
        rfl, rfl, rfl, rfl, rfl, rfl, rfl, rfl, rfl, rfl, rfl⟩⟩⟩
    · simp only [State.halfTickPasses, Fin.getElem_fin, Vector.getElem_map]; rfl
    · simp only [State.halfTickPasses, Fin.getElem_fin, Vector.getElem_map]; rfl
    · simp only [State.halfTickPasses, Fin.getElem_fin, Vector.getElem_map]; rfl

/-! ### The cold reset and the rise of RSTN -/

/-- Settles O3: the cold values of Tables 1-2 to 10-5. -/
theorem resetHoldsTheColdValues : Obligations.ResetHoldsTheColdValues := by
  refine ⟨rfl, fun n => ?_, State.reset_pacers, State.reset_lanes, fun h => ?_, State.reset_programs, rfl, State.reset_runs,
    fun o => ⟨State.reset_outputs o, rfl⟩, fun c => ?_, fun n => ?_, rfl, rfl, rfl, rfl, rfl, rfl, rfl, rfl, rfl, rfl⟩
  · simp [State.reset, State.cold, Encoder.cold]
  · simp [State.reset, State.cold, Slot.cold]
  · rw [State.reset_cameras]; exact ⟨rfl, rfl, rfl, rfl, rfl, rfl⟩
  · simp [State.reset, State.cold, SafeInput.cold]

/-- Settles O4: the cold reset takes the cold values and the pins as they stand. -/
theorem coldResetGivesTheColdValues : Obligations.ColdResetGivesTheColdValues := by
  refine fun s => ⟨s.coldValues, rfl, rfl, rfl, fun n => ?_, fun n => ?_, fun l => ?_, fun h => ?_, fun i => ?_, rfl, fun k => ?_,
    fun o => ⟨?_, rfl⟩, fun c => ?_, fun n => ?_, rfl, rfl, rfl, rfl, rfl, rfl, rfl, rfl, rfl⟩
  · simp [State.coldValues, State.cold, Encoder.cold]
  · simp [State.coldValues, State.cold, Pacer.cold]
  · simp [State.coldValues, State.cold, Lane.cold]
  · simp [State.coldValues, State.cold, Slot.cold]
  · simp [State.coldValues, State.cold, Program.cold]
  · simp [State.coldValues, State.cold]
  · simp [State.coldValues, State.cold, Output.cold]
  · simp [State.coldValues, State.cold, Camera.cold]
  · simp [State.coldValues, State.cold, SafeInput.cold]

/-- Settles O5: RSTN rises where it is low, and the encoders take their pins' levels. -/
theorem rstnRiseSamplesStrapsAndPins : Obligations.RstnRiseSamplesStrapsAndPins := by
  refine fun straps s => ⟨fun hcold => ⟨s.rise straps, ?_, rfl, rfl, rfl, rfl, rfl, fun n => ?_, rfl, rfl, rfl, rfl, rfl, rfl, rfl,
    rfl, rfl, rfl, rfl⟩, fun awake => ?_⟩
  · show execRstnRise straps s = _
    rw [execRstnRise, hcold]
  · simp [State.rise, Encoder.captured]
  · show execRstnRise straps s = _
    unfold execRstnRise
    split
    · exact absurd ‹_› awake
    · rfl

end Sys2Proof.Machine

/-! SUPPORT. The link (chapter 11): the transmitter, the receiver byte by byte, start-up and the RESET request. -/

namespace Sys2Proof.Machine

/-! ### The transmitter -/

/-- The frame in transmission is out. -/
def Link.sent (x : Link) : Link := { x with tx := none, txTimer := 0 }

/-- When the frame in transmission can be out, the transmitter chooses the next; before that nothing happens. -/
theorem exec_transmitFrameEnd {s : State} {f : Frame} (htx : s.link.tx = some f) : exec .transmitFrameEnd s =
    if frameTimeMin s.link.baud (f.payload.length + 6) ≤ s.link.txTimer then
      .next { s with link := s.link.sent.begin }
    else .next s := by
  show execTransmitFrameEnd s = _
  have hdue : s.link.txDue = decide (frameTimeMin s.link.baud (f.payload.length + 6) ≤ s.link.txTimer) := by
    rw [Link.txDue, htx]; rfl
  rw [execTransmitFrameEnd, hdue]
  by_cases hout : frameTimeMin s.link.baud (f.payload.length + 6) ≤ s.link.txTimer
  · rw [if_pos hout, if_pos (decide_eq_true hout)]; rfl
  · rw [if_neg hout, decide_eq_false hout]; rfl

theorem bitRate_of_strap {baud : BitVec 2} {rate : Nat}
    (h : (baud = 0 ∧ rate = 115200) ∨ (baud = 1 ∧ rate = 460800) ∨ (baud = 2 ∧ rate = 1000000) ∨ (baud = 3 ∧ rate = 3000000)) :
    bitRate baud = rate ∧ 0 < rate := by
  rcases h with ⟨rfl, rfl⟩ | ⟨rfl, rfl⟩ | ⟨rfl, rfl⟩ | ⟨rfl, rfl⟩ <;> exact ⟨rfl, by decide⟩

/-- A frame takes ten bit times a byte, within 1 %. -/
theorem frameTime_within (baud : BitVec 2) (n : Nat) :
    frameTimeMin baud n = 396000000 * n / bitRate baud ∧ frameTimeMin baud n ≤ frameTime baud n ∧
    frameTime baud n ≤ 404000000 * n / bitRate baud + 1 := by
  have hmin : frameTimeMin baud n = 396000000 * n / bitRate baud := by
    rw [frameTimeMin, lineTime, show n * 10 * 40000000 * 99 = 396000000 * n * 100 by ring, Nat.mul_div_mul_right _ _ (by decide)]
  have hmax : frameTimeMax baud n = 404000000 * n / bitRate baud + 1 := by
    rw [frameTimeMax, lineTime, show n * 10 * 40000000 * 101 = 404000000 * n * 100 by ring, Nat.mul_div_mul_right _ _ (by decide)]
  have hle : frameTimeMin baud n ≤ frameTimeMax baud n := by
    rw [hmin, hmax]
    exact Nat.le_succ_of_le (Nat.div_le_div_right (Nat.mul_le_mul_right _ (by decide)))
  refine ⟨hmin, Nat.le_max_left .., ?_⟩
  rw [← hmax]
  exact Nat.max_le.mpr ⟨hle, Nat.min_le_left ..⟩

/-- Settles O16: the frame that is out makes place for the next by the transmitter's choice. -/
theorem transmitterPrefersReplies : Obligations.TransmitterPrefersReplies := by
  refine ⟨fun f s htx => ⟨fun hout => ?_, fun hearly => ?_⟩, fun _ _ => rfl, fun _ _ => rfl, rfl, fun baud rate n hrate => ?_⟩
  · rw [exec_transmitFrameEnd htx, if_pos hout]
    refine ⟨fun c b rest hstart => ?_, fun g rest hreply hnone => ?_, fun r rest hreply hreport => ?_, fun hreply hreport => ?_⟩
    · rw [Link.begin_start s.link.sent c b rest rfl hstart]; rfl
    · rw [Link.begin_reply s.link.sent g rest rfl ?_ hreply]
      · rfl
      show s.link.startWaits = false
      unfold Link.startWaits
      split
      · exact absurd ‹_› (hnone _ _ _)
      · rfl
    · rw [Link.begin_report s.link.sent r rest rfl hreply hreport]; rfl
    · rw [Link.begin_idle s.link.sent hreply hreport]; rfl
  · rw [exec_transmitFrameEnd htx, if_neg (Nat.not_le.mpr hearly)]
  · obtain ⟨hbits, -⟩ := bitRate_of_strap hrate
    rw [← hbits]
    exact frameTime_within baud n

/-! ### Start-up -/

theorem queueReports_of_room (x : Link) (rs : List Report) (h : x.reports.length + rs.length ≤ 8) :
    rs.foldl Link.queueReport x = { x with reports := x.reports ++ rs } := by
  induction rs generalizing x with
  | nil => simp
  | cons r rest ih =>
    rw [List.length_cons] at h
    rw [List.foldl_cons, Link.queueReport_of_room (by omega), ih]
    · simp
    · simp only [List.length_append, List.length_singleton]; omega

/-- Before START the report of an alarm that latches joins those that wait (R155). -/
theorem State.latch_of_waiting {s : State} {a : Alarm} (hclear : s.alarms.isLatched a = false) (hon : s.alarms.isEnabled a = true)
    (hwaits : s.phase ≠ .running) :
    s.latch a = (s.setAlarms ⟨s.alarms.latched ||| a.mask, s.alarms.enabled⟩).setLink
      { s.link with deferred := s.link.deferred ++ [.alarm a (s.alarms.latched ||| a.mask)] } := by
  simp only [State.latch, hclear, hon, Bool.false_eq_true, if_false, if_true, State.queueReport, State.setAlarms_phase]
  rfl

/-- A frame joins the receive buffer where it has a place, and is lost with LINK_OVERRUN where it has none (R160). -/
theorem State.joinReceiveBuffer_of_room {s : State} (h : s.link.rxBuffer.length < 4) (f : Frame) :
    s.joinReceiveBuffer f = { s with link := { s.link with rxBuffer := s.link.rxBuffer ++ [f] } } := if_pos h

theorem State.joinReceiveBuffer_of_full {s : State} (h : 4 ≤ s.link.rxBuffer.length) (f : Frame) :
    s.joinReceiveBuffer f = s.latch .linkOverrun := if_neg (Nat.not_lt.mpr h)

/-- The link at START: the START report, then those that waited. -/
def Link.opened (x : Link) (c : StartCause) : Link :=
  { x with rx := .hunt, gapTimer := 0, deferred := [], reports := .start c x.baud :: x.deferred }

/-- Settles O6: START is the oldest report, and the idle transmitter begins it. -/
theorem startReportOpensService : Obligations.StartReportOpensService := by
  refine ⟨fun c s hstarting hreplies hreports hdeferred => ?_, fun a s hwaits hclear => ⟨?_, fun hon => ?_, fun hoff => ?_⟩⟩
  · have hexec : exec .start s = .next (s.begun c).beginTx := by
      show execStart s = _
      rw [execStart, hstarting]; rfl
    have hlink : (s.begun c).link = s.link.opened c := by
      rw [State.begun, Link.queueReport_of_room (by rw [hreports]; decide), queueReports_of_room]
      · simp [Link.opened, hreports]
      · rw [hreports, List.nil_append, List.length_singleton]; omega
    refine ⟨_, hexec, rfl, ?_, ?_, fun hidle => ?_, fun f hbusy => ?_, rfl⟩
    · rw [State.beginTx_link, hlink, Link.begin_rx]; rfl
    · rw [State.beginTx_link, hlink]
      unfold Link.begin Link.beginReport
      (repeat' split) <;> rfl
    · rw [State.beginTx_link, hlink, Link.begin_start (s.link.opened c) c s.link.baud s.link.deferred hidle rfl]
      exact ⟨rfl, rfl⟩
    · rw [State.beginTx_link, hlink, Link.begin_of_tx (s.link.opened c) f hbusy]
      exact ⟨hbusy, rfl⟩
  · simp only [State.latch_isLatched, decide_true, Bool.or_true]
  · rw [State.latch_alarms_eq, State.latch_of_waiting hclear hon hwaits]; rfl
  · rw [State.latch_alarms_eq]
    exact State.latch_of_disabled hclear hoff

/-! ### RESET -/

theorem exec_reset {tag : Byte} {p : List Byte} {s : State} (hfree : LinkFree s) :
    exec (.reset tag p) s = done (takeReset tag p s) := arrive_free _ _ _ hfree

theorem State.warmReset_isLatched (s : State) (a : Alarm) : s.warmReset.alarms.isLatched a = true ↔
    s.alarms.isLatched a = true ∧ ∃ n : SafeId, a = .safe n ∧ s.safes[n].hold = true := by
  simp only [State.warmReset, AlarmSet.isLatched, BitVec.getLsbD_and, Bool.and_eq_true, State.heldAlarms_bit]

/-- Settles O7: an accepted RESET is the warm reset, and the link it leaves has nothing to send. -/
theorem resetIsTheWarmReset : Obligations.ResetIsTheWarmReset := by
  refine fun tag s hfree => ⟨⟨s.closeUnlock.warmReset.beginTx, exec_reset hfree, rfl, rfl, rfl, rfl, fun n => ?_, fun n => ?_,
    fun l => ?_, fun h => ?_, fun i => ?_, rfl, fun k => ?_, fun o => ?_, fun c => ?_, rfl, rfl, rfl, rfl,
    fun a => s.warmReset_isLatched a, ?_, rfl⟩, fun p hp => ?_⟩
  · simp [State.closeUnlock, State.warmReset, Encoder.warm]
  · simp [State.closeUnlock, State.warmReset, Pacer.warm]
  · simp [State.closeUnlock, State.warmReset, Lane.warm]
  · simp [State.closeUnlock, State.warmReset, Slot.warm]
  · simp [State.closeUnlock, State.warmReset, Program.warm]
  · simp [State.closeUnlock, State.warmReset]
  · have hoff : s.closeUnlock.warmReset.beginTx.outputs[o] = { s.outputs[o] with level := .inactive } := by
      simp [State.closeUnlock, State.warmReset, Output.warm]
    have hnone : s.closeUnlock.warmReset.beginTx.holders o = [] :=
      (State.holders_eq_nil _ o).mpr fun k r hr => by simp [State.closeUnlock, State.warmReset] at hr
    refine ⟨hoff, ?_⟩
    rw [State.outputActive, hoff, hnone]
    dsimp only
    split <;> simp
  · simp [State.closeUnlock, State.warmReset, Camera.warm]
  · rw [State.beginTx_link]
    exact Link.begin_idle _ rfl rfl
  · cases p with
    | nil => exact absurd rfl hp
    | cons b rest =>
      rw [exec_reset hfree]
      exact done_queueReply s.closeUnlock 0x03 tag [1, 19] rfl

/-! ### Requests of a wrong length and unknown KINDs -/

theorem replyKind_eq (kind : Byte) : replyKind kind = if kind.toNat < 128 then kind + 0x80 else kind := by
  revert kind
  decide

/-- On a free link a request of fixed length and another KIND than RESET's is taken by a rule that looks at the length first. -/
theorem exec_fixedRequest {i : Instr} {kind tag : Byte} {n : Nat} {p : List Byte} (h : fixedRequest i = some (kind, n, tag, p)) :
    (∃ body, ∀ s, exec i s = arrive ⟨kind, tag, p⟩ (takeRequest kind tag (p.length == n) body) s) ∧ kind.toNat < 128 ∨
    i = .reset tag p ∧ kind = 0x03 ∧ n = 0 := by
  cases i <;> simp only [fixedRequest, Option.some.injEq, Prod.mk.injEq, reduceCtorEq] at h <;> obtain ⟨rfl, rfl, rfl, rfl⟩ := h
  case reset => exact .inr ⟨rfl, rfl, rfl⟩
  all_goals exact .inl ⟨⟨_, fun s => rfl⟩, by decide⟩

/-- Settles O8: the length is looked at before anything else, and an unknown KIND has no rule. -/
theorem unknownKindAndWrongLengthAreRefused : Obligations.UnknownKindAndWrongLengthAreRefused := by
  refine ⟨fun s hfree => ⟨fun i kind n tag p hfixed hlength => ?_, fun tag p hlength => ?_, fun tag p hlength => ?_⟩,
    fun kind tag p s hfree hunknown => ?_⟩
  · rcases exec_fixedRequest hfixed with ⟨⟨body, hexec⟩, hlow⟩ | ⟨rfl, rfl, rfl⟩
    · rw [hexec, arrive_badLength _ kind tag _ body s hfree (by simpa using hlength), replyKind_eq, if_pos hlow]
    · exact (resetIsTheWarmReset tag s hfree).2 p fun h => hlength (by rw [h]; rfl)
  · refine arrive_badLength _ 0x18 tag _ _ s hfree ?_
    rw [submitLengthOk, Bool.and_eq_false_iff, decide_eq_false_iff_not, beq_eq_false_iff_ne]
    rcases hlength with hshort | ⟨hrel, hlength⟩ | ⟨hrel, hlength⟩
    · exact .inl (by omega)
    · exact .inr (by rw [if_pos hrel]; exact hlength)
    · exact .inr (by rw [if_neg hrel]; exact hlength)
  · refine arrive_badLength _ 0x20 tag _ _ s hfree ?_
    rw [programWriteLengthOk, Bool.and_eq_false_iff, decide_eq_false_iff_not, beq_eq_false_iff_ne]
    rcases hlength with hshort | hlength
    · exact .inl (by omega)
    · exact .inr hlength
  · show arrive ⟨kind, tag, p⟩ (takeFrame ⟨kind, tag, p⟩) s = _
    rw [arrive_free _ _ _ hfree, takeFrame_unknown kind tag p s hunknown, ← replyKind_eq]
    exact done_queueReply s.closeUnlock kind tag [1, 18] rfl

/-! ### Requests that wait -/

/-- Settles O9: a request that is not taken at once goes the way of a frame that waits. -/
theorem requestsWaitOrAreLost : Obligations.RequestsWaitOrAreLost := by
  refine fun i f s hframe => ⟨fun hrun hbusy => ?_, fun hdown => ?_⟩
  · have hwaits : exec i s = done (s.joinReceiveBuffer f) := by
      have hnot : (s.link.rxBuffer.isEmpty && decide (s.link.replies.length < Config.replyPlaces)) = false := by
        rw [Bool.and_eq_false_iff, List.isEmpty_eq_false_iff, decide_eq_false_iff_not]
        exact hbusy.imp_right Nat.not_lt.mpr
      rw [exec_request hframe, arrive, hrun]
      simp only [hnot, Bool.false_eq_true, if_false]
    rw [hwaits]
    refine ⟨fun hroom => ?_, fun hfull => ⟨(s.latch .linkOverrun).beginTx, ?_, ?_, ?_, ?_⟩⟩
    · rw [State.joinReceiveBuffer_of_room hroom]; rfl
    · rw [State.joinReceiveBuffer_of_full hfull]; rfl
    · simp
    · simp
    · rw [State.beginTx, State.latch_only]; rfl
  · rw [exec_request hframe, arrive]
    split
    · exact absurd ‹_› hdown
    · rfl

end Sys2Proof.Machine

/-! SUPPORT. The receiver (R157 to R160): a byte at a time as Table 11-1 states, a whole frame, and the conditions of the line. -/

namespace Sys2Proof.Machine

/-! ### One byte -/

/-- The receiver has taken a byte and goes on in state `x`. -/
def State.hears (s : State) (x : RxState) : State :=
  { s with link := Link.begin { s.link with rx := x, receiving := false, gapTimer := 0 } }

/-- A byte with a high stop bit, where one can be taken. -/
theorem exec_rxByte_high {s : State} (hrun : s.phase = .running) (hwait : s.link.waitHigh = false) (b : Byte) :
    exec (.rxByte b (.taken .high)) s = done ((s.setLink { s.link with receiving := false }).takeByte b) := by
  show byteTaken b .high s = _
  have hlink : { s.link with waitHigh := (Level.high == Level.low), receiving := false } = { s.link with receiving := false } := by
    rw [show (Level.high == Level.low) = s.link.waitHigh from hwait.symm]
  simp only [byteTaken, hrun, hwait, Bool.false_eq_true, if_false, hlink]

section
variable {s : State} (hrun : s.phase = .running) (hwait : s.link.waitHigh = false)
include hrun hwait

theorem exec_rxByte_sync (hrx : s.link.rx = .hunt) : exec (.rxByte 0x5A (.taken .high)) s = .next (s.hears .len) := by
  rw [exec_rxByte_high hrun hwait, State.takeByte, show (s.setLink { s.link with receiving := false }).link.rx = .hunt from hrx]
  rfl

theorem exec_rxByte_hunt (hrx : s.link.rx = .hunt) {b : Byte} (hb : b ≠ 0x5A) : exec (.rxByte b (.taken .high)) s =
    .next { s with link := Link.begin { s.link with receiving := false } } := by
  rw [exec_rxByte_high hrun hwait, State.takeByte, show (s.setLink { s.link with receiving := false }).link.rx = .hunt from hrx]
  dsimp only
  rw [if_neg (show ¬ b = syncByte from hb)]
  rfl

theorem exec_rxByte_len (hrx : s.link.rx = .len) {b : Byte} (hb : b.toNat ≤ 250) :
    exec (.rxByte b (.taken .high)) s = .next (s.hears (.kind b)) := by
  rw [exec_rxByte_high hrun hwait, State.takeByte, show (s.setLink { s.link with receiving := false }).link.rx = .len from hrx]
  dsimp only
  rw [if_pos (show b.toNat ≤ Config.largestPayload from hb)]
  rfl

theorem exec_rxByte_long (hrx : s.link.rx = .len) {b : Byte} (hb : 250 < b.toNat) :
    exec (.rxByte b (.taken .high)) s = done (((s.setLink { s.link with receiving := false }).rxGo .hunt).latch .linkError) := by
  rw [exec_rxByte_high hrun hwait, State.takeByte, show (s.setLink { s.link with receiving := false }).link.rx = .len from hrx]
  dsimp only
  rw [if_neg (show ¬ b.toNat ≤ Config.largestPayload from Nat.not_le.mpr hb)]

theorem exec_rxByte_kind {n : Byte} (hrx : s.link.rx = .kind n) (b : Byte) :
    exec (.rxByte b (.taken .high)) s = .next (s.hears (.tag n b)) := by
  rw [exec_rxByte_high hrun hwait, State.takeByte, show (s.setLink { s.link with receiving := false }).link.rx = .kind n from hrx]
  rfl

theorem exec_rxByte_tag {n k : Byte} (hrx : s.link.rx = .tag n k) (b : Byte) : exec (.rxByte b (.taken .high)) s =
    .next (s.hears (if n = 0 then .crcLow n k b [] else .payload n k b [])) := by
  rw [exec_rxByte_high hrun hwait, State.takeByte, show (s.setLink { s.link with receiving := false }).link.rx = .tag n k from hrx]
  dsimp only
  split <;> rfl

theorem exec_rxByte_payload {n k t : Byte} {got : List Byte} (hrx : s.link.rx = .payload n k t got) (b : Byte) :
    exec (.rxByte b (.taken .high)) s =
      .next (s.hears (if got.length + 1 < n.toNat then .payload n k t (got ++ [b]) else .crcLow n k t (got ++ [b]))) := by
  rw [exec_rxByte_high hrun hwait, State.takeByte,
    show (s.setLink { s.link with receiving := false }).link.rx = .payload n k t got from hrx]
  dsimp only
  split <;> rfl

theorem exec_rxByte_crcLow {n k t : Byte} {got : List Byte} (hrx : s.link.rx = .crcLow n k t got) (b : Byte) :
    exec (.rxByte b (.taken .high)) s = .next (s.hears (.crcHigh n k t got b)) := by
  rw [exec_rxByte_high hrun hwait, State.takeByte,
    show (s.setLink { s.link with receiving := false }).link.rx = .crcLow n k t got from hrx]
  rfl

theorem exec_rxByte_crcHigh {n k t low : Byte} {got : List Byte} (hrx : s.link.rx = .crcHigh n k t got low) (b : Byte) :
    exec (.rxByte b (.taken .high)) s =
      done (((s.setLink { s.link with receiving := false }).rxGo .hunt).frameComplete ⟨k, t, got⟩ low b) := by
  rw [exec_rxByte_high hrun hwait, State.takeByte,
    show (s.setLink { s.link with receiving := false }).link.rx = .crcHigh n k t got low from hrx]

end

/-- The receiver goes into HUNT, and an alarm latches. -/
theorem hunt_latch (s : State) (a : Alarm) :
    (((s.setLink { s.link with receiving := false }).rxGo .hunt).latch a).beginTx = { s with
      alarms := (((s.setLink { s.link with receiving := false }).rxGo .hunt).latch a).alarms
      link := (((s.setLink { s.link with receiving := false }).rxGo .hunt).latch a).beginTx.link } := by
  rw [State.beginTx, State.latch_only]
  rfl

/-- A frame that is judged touches the alarms and the link alone. -/
theorem State.frameComplete_only (s : State) (f : Frame) (low high : Byte) :
    s.frameComplete f low high =
      { s with alarms := (s.frameComplete f low high).alarms, link := (s.frameComplete f low high).link } ∧
    (s.frameComplete f low high).link.rx = s.link.rx ∧ (s.frameComplete f low high).link.receiving = s.link.receiving ∧
    (s.frameComplete f low high).link.gapTimer = s.link.gapTimer := by
  unfold State.frameComplete State.joinReceiveBuffer
  split
  · split
    · exact ⟨rfl, rfl, rfl, rfl⟩
    · exact ⟨State.latch_only .., by simp, by simp, by simp⟩
  · exact ⟨State.latch_only .., by simp, by simp, by simp⟩

/-- Settles O11: each row of Table 11-1. -/
theorem receiverFollowsItsTable : Obligations.ReceiverFollowsItsTable := by
  refine fun b s hrun hwait => ⟨fun hrx hb => ?_, fun hrx hb => exec_rxByte_hunt hrun hwait hrx hb,
    fun hrx hb => exec_rxByte_len hrun hwait hrx hb, fun hrx hb => ⟨_, exec_rxByte_long hrun hwait hrx hb, ?_, ?_, ?_, ?_⟩,
    fun n hrx => exec_rxByte_kind hrun hwait hrx b, fun n k hrx => exec_rxByte_tag hrun hwait hrx b,
    fun n k t got hrx => exec_rxByte_payload hrun hwait hrx b, fun n k t got hrx => exec_rxByte_crcLow hrun hwait hrx b,
    fun n k t got low hrx => ⟨_, exec_rxByte_crcHigh hrun hwait hrx b, ?_, ?_, ?_, ?_⟩⟩
  · subst hb; exact exec_rxByte_sync hrun hwait hrx
  · simp [State.rxGo]
  · simp [State.rxGo]
  · simp
  · exact hunt_latch s .linkError
  all_goals
    obtain ⟨honly, hrx', hreceiving, hgap⟩ :=
      ((s.setLink { s.link with receiving := false }).rxGo .hunt).frameComplete_only ⟨k, t, got⟩ low b
  · rw [State.beginTx_link, Link.begin_rx, hrx']; rfl
  · rw [State.beginTx_link, Link.begin_receiving, hreceiving]; rfl
  · rw [State.beginTx_link, Link.begin_gapTimer, hgap]; rfl
  · rw [State.beginTx, honly]; rfl

/-! ### The end of a frame -/

/-- Settles O12: the two CRC bytes decide, then the room in the receive buffer. -/
theorem completeFrameIsJudgedByItsCrc : Obligations.CompleteFrameIsJudgedByItsCrc := by
  intro n k t low high got s hrun hwait hrx good
  have hgood : crcBytes (Frame.covered ⟨k, t, got⟩) = [low, high] ↔ good := crcBytes_eq _ low high
  rw [exec_rxByte_crcHigh hrun hwait hrx, State.frameComplete]
  refine ⟨fun hok hroom => ?_, fun hok hfull => ?_, fun hbad => ?_⟩
  · rw [if_pos (hgood.mpr hok), State.joinReceiveBuffer_of_room (by simpa [State.rxGo] using hroom)]
    rfl
  · rw [if_pos (hgood.mpr hok), State.joinReceiveBuffer_of_full (by simpa [State.rxGo] using hfull)]
    exact ⟨_, rfl, by simp [State.rxGo], by simp [State.rxGo], by simp, hunt_latch s .linkOverrun⟩
  · rw [if_neg fun h => hbad (hgood.mp h)]
    exact ⟨_, rfl, by simp [State.rxGo], by simp [State.rxGo], by simp, hunt_latch s .linkError⟩

/-- Settles O13 by evaluating the CRC. -/
theorem crcOfTheNineDigits : Obligations.CrcOfTheNineDigits := by
  unfold Obligations.CrcOfTheNineDigits
  decide +kernel

/-! ### A whole frame -/

/-- Table 11-1 inside a frame: the state after the byte `b`. -/
def RxState.after (x : RxState) (b : Byte) : RxState :=
  match x with
  | .hunt => .len
  | .len => .kind b
  | .kind n => .tag n b
  | .tag n k => if n = 0 then .crcLow n k b [] else .payload n k b []
  | .payload n k t got => if got.length + 1 < n.toNat then .payload n k t (got ++ [b]) else .crcLow n k t (got ++ [b])
  | .crcLow n k t got => .crcHigh n k t got b
  | .crcHigh .. => .hunt

/-- The byte goes on with a frame: it is not its last, a SYNC where one is looked for, and no over-long length. -/
def RxState.goesOn (x : RxState) (b : Byte) : Prop :=
  match x with
  | .hunt => b = 0x5A
  | .len => b.toNat ≤ 250
  | .crcHigh .. => False
  | _ => True

theorem exec_rxByte_goesOn {s : State} (hrun : s.phase = .running) (hwait : s.link.waitHigh = false) {b : Byte}
    (h : s.link.rx.goesOn b) : exec (.rxByte b (.taken .high)) s = .next (s.hears (s.link.rx.after b)) := by
  cases hrx : s.link.rx with
  | hunt => rw [hrx] at h; rw [show b = 0x5A from h]; exact exec_rxByte_sync hrun hwait hrx
  | len => rw [hrx] at h; exact exec_rxByte_len hrun hwait hrx h
  | kind n => exact exec_rxByte_kind hrun hwait hrx b
  | tag n k => exact exec_rxByte_tag hrun hwait hrx b
  | payload n k t got => exact exec_rxByte_payload hrun hwait hrx b
  | crcLow n k t got => exact exec_rxByte_crcLow hrun hwait hrx b
  | crcHigh n k t got low => rw [hrx] at h; exact h.elim

/-- The transmitter does not look at the receiver. -/
theorem Link.begin_receiver (x : Link) (r : RxState) (receiving : Bool) (gap : Nat) (buffer : List Frame) :
    ({ x.begin with rx := r, receiving := receiving, gapTimer := gap, rxBuffer := buffer } : Link) =
      Link.begin { x with rx := r, receiving := receiving, gapTimer := gap, rxBuffer := buffer } := by
  unfold Link.begin Link.beginReport Link.startWaits
  dsimp only
  (repeat' split) <;> rfl

theorem State.hears_hears (s : State) (x y : RxState) : (s.hears x).hears y = s.hears y := by
  have hlink : Link.begin { (s.hears x).link with rx := y, receiving := false, gapTimer := 0 } = (s.hears y).link := by
    have hbuffer : (s.hears x).link.rxBuffer = s.link.rxBuffer := Link.begin_rxBuffer _
    rw [show ({ (s.hears x).link with rx := y, receiving := false, gapTimer := 0 } : Link) =
      { (s.hears x).link with rx := y, receiving := false, gapTimer := 0, rxBuffer := (s.hears x).link.rxBuffer } from rfl,
      State.hears, Link.begin_receiver, Link.begin_begin, Link.begin_rxBuffer]
    rfl
  rw [State.hears, hlink]
  rfl

/-- The bytes go on with a frame, one after another. -/
def RxState.goOn : RxState → List Byte → Prop
  | _, [] => True
  | x, b :: rest => x.goesOn b ∧ (x.after b).goOn rest

theorem RxState.goOn_append (x : RxState) (as bs : List Byte) : x.goOn (as ++ bs) ↔ x.goOn as ∧ (as.foldl RxState.after x).goOn bs := by
  induction as generalizing x with
  | nil => simp [RxState.goOn]
  | cons a rest ih => rw [List.cons_append, RxState.goOn, RxState.goOn, ih, List.foldl_cons, and_assoc]

/-- The command of a byte with a high stop bit. -/
def received (b : Byte) : Instr := .rxByte b (.taken .high)

theorem run_succ (M : Host.Core) (n : Nat) {s t : M.State} (h : M.step s = .next t) : M.run (n + 1) s = M.run n t := by
  rw [Host.Core.run, h]

/-- A run carries out its front command, and goes on. -/
theorem run_received {s t : State} {b : Byte} {rest : List Instr} (h : exec (received b) { s with pending := rest } = .next t) (n : Nat) :
    Host.Core.run Sys2Proof.core (n + 1) { s with pending := received b :: rest } = Host.Core.run Sys2Proof.core n t :=
  run_succ Sys2Proof.core n (s := { s with pending := received b :: rest }) h

/-- The bytes of a frame but the last, one after another. -/
theorem run_hears (bs : List Byte) {s : State} (hrun : s.phase = .running) (hwait : s.link.waitHigh = false) (rest : List Instr)
    {x : RxState} (h : x.goOn bs) (n : Nat) :
    Host.Core.run Sys2Proof.core (bs.length + n) { s.hears x with pending := bs.map received ++ rest } =
      Host.Core.run Sys2Proof.core n { s.hears (bs.foldl RxState.after x) with pending := rest } := by
  induction bs generalizing x with
  | nil => rw [List.length_nil, Nat.zero_add]; rfl
  | cons b bs ih =>
    obtain ⟨hfirst, hrest⟩ := h
    have hrx : (s.hears x).link.rx = x := Link.begin_rx _
    have hwait' : (s.hears x).link.waitHigh = false := (Link.begin_waitHigh _).trans hwait
    have hexec : exec (received b) { s.hears x with pending := bs.map received ++ rest } =
        .next { s.hears (x.after b) with pending := bs.map received ++ rest } := by
      have hgoes := exec_rxByte_goesOn (s := { s.hears x with pending := bs.map received ++ rest }) hrun hwait' (b := b)
        (by rw [show State.link _ = (s.hears x).link from rfl, hrx]; exact hfirst)
      rw [show State.link _ = (s.hears x).link from rfl, hrx] at hgoes
      rw [← s.hears_hears x (x.after b)]
      exact hgoes
    rw [List.length_cons, Nat.add_right_comm]
    exact (run_received hexec (bs.length + n)).trans (ih hrest)

/-- The payload bytes of a frame. -/
theorem payload_goOn {n k t : Byte} (bs : List Byte) {got : List Byte} (h : got.length + bs.length = n.toNat) (hne : bs ≠ []) :
    (RxState.payload n k t got).goOn bs ∧ bs.foldl RxState.after (.payload n k t got) = .crcLow n k t (got ++ bs) := by
  induction bs generalizing got with
  | nil => exact absurd rfl hne
  | cons b rest ih =>
    rw [List.length_cons] at h
    rw [List.foldl_cons, RxState.goOn, RxState.after]
    cases rest with
    | nil =>
      rw [if_neg (by simp at h; omega)]
      exact ⟨⟨trivial, trivial⟩, rfl⟩
    | cons c rest =>
      rw [if_pos (by simp at h; omega)]
      obtain ⟨hgoes, hends⟩ := ih (got := got ++ [b]) (by simp at h ⊢; omega) (List.cons_ne_nil _ _)
      exact ⟨⟨trivial, hgoes⟩, by rw [hends, List.append_assoc]; rfl⟩

/-- LEN, KIND, TAG and the payload. -/
theorem covered_goOn {f : Frame} (h : f.payload.length ≤ 250) : RxState.len.goOn f.covered ∧
    f.covered.foldl RxState.after .len = .crcLow (BitVec.ofNat 8 f.payload.length) f.kind f.tag f.payload := by
  have hlen : (BitVec.ofNat 8 f.payload.length).toNat = f.payload.length := by rw [BitVec.toNat_ofNat]; omega
  have hzero : BitVec.ofNat 8 f.payload.length = 0 ↔ f.payload = [] := by
    rw [← List.length_eq_zero_iff, ← BitVec.toNat_inj, hlen]; rfl
  rw [Frame.covered]
  simp only [RxState.goOn, RxState.goesOn, RxState.after, List.foldl_cons, hlen, true_and]
  by_cases hempty : f.payload = []
  · rw [if_pos (hzero.mpr hempty), hempty]
    exact ⟨⟨Nat.zero_le _, trivial⟩, rfl⟩
  · rw [if_neg fun h0 => hempty (hzero.mp h0)]
    obtain ⟨hgoes, hends⟩ := payload_goOn (n := BitVec.ofNat 8 f.payload.length) (k := f.kind) (t := f.tag) (got := []) f.payload
      (by rw [hlen]; simp) hempty
    exact ⟨⟨h, hgoes⟩, hends⟩

/-- Settles O14: SYNC, the covered bytes and the low CRC byte lead to the last state of Table 11-1, where the CRC agrees. -/
theorem frameOnTheWireIsReceivedWhole : Obligations.FrameOnTheWireIsReceivedWhole := by
  intro f s hlength hrun hwait hrx hroom
  obtain ⟨low, high, hcrc⟩ : ∃ low high, crcBytes f.covered = [low, high] := ⟨_, _, rfl⟩
  obtain ⟨hgoes, hends⟩ := covered_goOn hlength
  have hsync := exec_rxByte_sync (s := { s with pending := (f.covered ++ [low]).map received ++ (received high :: s.pending) })
    hrun hwait hrx
  have hwire : f.wire.map received ++ s.pending =
      received 0x5A :: ((f.covered ++ [low]).map received ++ (received high :: s.pending)) := by
    simp [Frame.wire, hcrc, syncByte]
  have hcount : f.wire.length = (f.covered ++ [low]).length + 1 + 1 := by
    simp [Frame.wire, hcrc]
  have hbytes := run_hears (f.covered ++ [low]) hrun hwait (received high :: s.pending) (x := .len)
    ((RxState.goOn_append _ _ _).mpr ⟨hgoes, by rw [hends]; exact ⟨trivial, trivial⟩⟩)
  rw [List.foldl_append, hends] at hbytes
  have hlast := (completeFrameIsJudgedByItsCrc (BitVec.ofNat 8 f.payload.length) f.kind f.tag low high f.payload
    { s.hears (.crcHigh (BitVec.ofNat 8 f.payload.length) f.kind f.tag f.payload low) with pending := s.pending } hrun
    ((Link.begin_waitHigh _).trans hwait) (Link.begin_rx _)).1 ((crcBytes_eq _ _ _).mp hcrc)
    (by rw [show State.link _ = (s.hears _).link from rfl, State.hears, Link.begin_rxBuffer]; exact hroom)
  show Host.Core.run Sys2Proof.core f.wire.length { s with pending := f.wire.map received ++ s.pending } = _
  rw [hwire, hcount]
  refine ((run_received hsync _).trans (hbytes 1)).trans ((run_received hlast 0).trans ?_)
  have hlink (x : RxState) : Link.begin { (s.hears x).link with
      rx := .hunt, receiving := false, gapTimer := 0, rxBuffer := (s.hears x).link.rxBuffer ++ [f] } =
      Link.begin { s.link with receiving := false, gapTimer := 0, rxBuffer := s.link.rxBuffer ++ [f] } := by
    rw [State.hears, Link.begin_receiver, Link.begin_begin, Link.begin_rxBuffer, ← hrx]
  exact congrArg (fun x : Link => Host.Outcome.next { s with link := x }) (hlink _)

/-! ### The conditions of the line -/

/-- A change of the link that neither looks at the reports nor touches them. -/
structure LinkAside (φ : Link → Link) : Prop where
  reports (x : Link) : (φ x).reports = x.reports
  deferred (x : Link) : (φ x).deferred = x.deferred
  write (x : Link) (r d : List Report) : φ { x with reports := r, deferred := d } = { φ x with reports := r, deferred := d }

/-- The state with its link so changed. -/
def State.onLink (s : State) (φ : Link → Link) : State := { s with link := φ s.link }

theorem Link.queueReport_aside {φ : Link → Link} (h : LinkAside φ) (x : Link) (r : Report) :
    (φ x).queueReport r = φ (x.queueReport r) := by
  have hwrite := h.write x (x.reports ++ [r]) x.deferred
  unfold Link.queueReport
  rw [h.reports]
  split
  · rw [hwrite, ← h.deferred x]
  · rfl

theorem State.queueReport_onLink {φ : Link → Link} (h : LinkAside φ) (s : State) (r : Report) :
    (s.onLink φ).queueReport r = (s.queueReport r).onLink φ := by
  unfold State.queueReport
  rw [show (s.onLink φ).phase = s.phase from rfl]
  split
  · exact congrArg s.setLink (Link.queueReport_aside h s.link r)
  · have hwrite := h.write s.link s.link.reports (s.link.deferred ++ [r])
    refine congrArg s.setLink (Eq.trans ?_ hwrite.symm)
    rw [show (s.onLink φ).link = φ s.link from rfl, h.deferred, ← h.reports s.link]

theorem State.latch_onLink {φ : Link → Link} (h : LinkAside φ) (s : State) (a : Alarm) :
    (s.onLink φ).latch a = (s.latch a).onLink φ := by
  unfold State.latch
  rw [show (s.onLink φ).alarms = s.alarms from rfl]
  split
  · rfl
  · dsimp only
    split
    · exact State.queueReport_onLink h (s.setAlarms _) _
    · rfl

/-- Whether RXD has to return high is nothing the transmitter looks at. -/
theorem waitHigh_aside (w : Bool) : LinkAside fun x => { x with waitHigh := w } := ⟨fun _ => rfl, fun _ => rfl, fun _ _ _ => rfl⟩

theorem Link.begin_setWaitHigh (x : Link) (w : Bool) : ({ x.begin with waitHigh := w } : Link) = Link.begin { x with waitHigh := w } := by
  unfold Link.begin Link.beginReport Link.startWaits
  dsimp only
  (repeat' split) <;> rfl

/-- What a byte does, it does whether RXD has to return high or not. -/
theorem State.takeByte_waitHigh (s : State) (b : Byte) (w : Bool) :
    (s.onLink fun x => { x with waitHigh := w }).takeByte b = (s.takeByte b).onLink fun x => { x with waitHigh := w } := by
  have hjoin (u : State) (f : Frame) : (u.onLink fun x => { x with waitHigh := w }).joinReceiveBuffer f =
      (u.joinReceiveBuffer f).onLink fun x => { x with waitHigh := w } := by
    unfold State.joinReceiveBuffer
    rw [show (u.onLink fun x => { x with waitHigh := w }).link.rxBuffer = u.link.rxBuffer from rfl]
    split
    · rfl
    · exact State.latch_onLink (waitHigh_aside w) u _
  unfold State.takeByte
  rw [show (s.onLink fun x => { x with waitHigh := w }).link.rx = s.link.rx from rfl]
  split
  case h_1 => split <;> rfl
  case h_2 =>
    split
    · rfl
    · exact State.latch_onLink (waitHigh_aside w) (s.rxGo .hunt) _
  case h_3 => rfl
  case h_4 => split <;> rfl
  case h_5 => split <;> rfl
  case h_6 => rfl
  case h_7 =>
    unfold State.frameComplete
    split
    · exact hjoin (s.rxGo .hunt) _
    · exact State.latch_onLink (waitHigh_aside w) (s.rxGo .hunt) _

theorem State.takeByte_keeps_waitHigh (s : State) (b : Byte) : (s.takeByte b).link.waitHigh = s.link.waitHigh := by
  have hsame := s.takeByte_waitHigh b s.link.waitHigh
  have hbit := congrArg (fun t : State => t.link.waitHigh) hsame
  exact hbit

theorem exec_rxByte_low {s : State} (hrun : s.phase = .running) (hwait : s.link.waitHigh = false) (b : Byte) :
    exec (.rxByte b (.taken .low)) s =
      done (((s.setLink { s.link with receiving := false }).takeByte b).onLink fun x => { x with waitHigh := true }) := by
  show byteTaken b .low s = _
  simp only [byteTaken, hrun, hwait, Bool.false_eq_true, if_false]
  rw [← State.takeByte_waitHigh]
  rfl

/-- A byte before START is discarded; one whose stop bit reads low leaves the receiver waiting. -/
theorem exec_rxByte_starting {s : State} {c : StartCause} (h : s.phase = .starting c) (b : Byte) (stop : Level) :
    exec (.rxByte b (.taken stop)) s =
      if s.link.waitHigh then .next s else .next (s.setLink { s.link with waitHigh := stop == .low }) := by
  show byteTaken b stop s = _
  rw [byteTaken, h]

theorem exec_startBit {s : State} (hrun : s.phase = .running) (b : Byte) : exec (.rxByte b .startBit) s =
    if s.link.waitHigh then .next s else .next (s.setLink { s.link with receiving := true }) := by
  show startBitComes s = _
  rw [startBitComes, hrun]

/-- Settles O15: a low stop bit by what a high one does, the start bit, and the gap by its timer. -/
theorem lineConditionsOfTheReceiver : Obligations.LineConditionsOfTheReceiver := by
  refine ⟨fun b stop s hrun hwait => ?_, fun b s hrun hwait => ⟨_, exec_rxByte_high hrun hwait b, ?_, ?_⟩, fun s => rfl,
    fun b stop c s hstarting => ?_, fun b stop s hcold => ?_, fun b s hrun hwait => ?_, fun b s hnot => ?_, ?_,
    fun s hrx hreceiving hlate => ?_, fun s hearly => ?_⟩
  · show byteTaken b stop s = _
    simp only [byteTaken, hrun, hwait, if_true]
  · rw [State.beginTx_link, Link.begin_waitHigh, State.takeByte_keeps_waitHigh]
    exact hwait
  · rw [exec_rxByte_low hrun hwait, done, State.beginTx_link, Link.begin_setWaitHigh]
    rfl
  · rw [exec_rxByte_starting hstarting]
    split <;> exact ⟨_, rfl, rfl⟩
  · show byteTaken b stop s = _
    simp only [byteTaken, hcold]
  · rw [exec_startBit hrun, hwait, if_neg Bool.false_ne_true]
    rfl
  · by_cases hrun : s.phase = .running
    · rw [exec_startBit hrun, if_pos (hnot.resolve_left fun h => h hrun)]
    · show startBitComes s = _
      unfold startBitComes
      split
      · exact absurd ‹_› hrun
      · rfl
  · have h0 : 171 ≤ stopBitRest 0 ∧ stopBitRest 0 ≤ 176 := stopBitRest_bounds 0
    have h1 : 42 ≤ stopBitRest 1 ∧ stopBitRest 1 ≤ 44 := stopBitRest_bounds 1
    have h2 : 19 ≤ stopBitRest 2 ∧ stopBitRest 2 ≤ 21 := stopBitRest_bounds 2
    have h3 : 6 ≤ stopBitRest 3 ∧ stopBitRest 3 ≤ 7 := stopBitRest_bounds 3
    omega
  · refine ⟨((s.rxGo .hunt).latch .linkError).beginTx, ?_, by simp [State.rxGo], by simp [State.rxGo], by simp, ?_⟩
    · show execGapTimeout s = _
      rw [execGapTimeout, if_pos ((Link.gapDue_iff _).mpr ⟨hrx, hreceiving, hlate⟩)]
      rfl
    · rw [State.beginTx, State.latch_only]
      rfl
  · show execGapTimeout s = _
    rw [execGapTimeout, if_neg]
    rw [Link.gapDue_iff]
    rintro ⟨hrx, hreceiving, hlate⟩
    rcases hearly with h | h | h
    · exact hrx h
    · rw [hreceiving] at h; cases h
    · omega

end Sys2Proof.Machine

/-! SUPPORT. The end of a shot (R34, R145, R146) by the room in the outcome queue; OUTCOME_FETCH (R147) and the bytes of a record. -/

namespace Sys2Proof.Machine

/-! ### A record appended (R145, R146) -/

section
variable {s : State} (r : OutcomeRecord)

/-- The record that leaves the queue no longer empty reports OUTCOME_READY. -/
theorem State.appendOutcome_of_empty (hempty : s.outcomes = []) :
    s.appendOutcome r = (s.setOutcomes [r]).queueReport .outcomeReady := by
  simp only [State.appendOutcome, hempty, List.nil_append, List.isEmpty_nil, if_true]
  exact if_pos (show 0 < 64 from by omega)

theorem State.appendOutcome_of_room (hsome : s.outcomes ≠ []) (hroom : s.outcomes.length < 64) :
    s.appendOutcome r = s.setOutcomes (s.outcomes ++ [r]) := by
  simp only [State.appendOutcome, List.isEmpty_eq_false_iff.mpr hsome, Bool.false_eq_true, if_false]
  exact if_pos hroom

theorem State.appendOutcome_of_full (hfull : 64 ≤ s.outcomes.length) : s.appendOutcome r = s.latch .outcomeOverflow :=
  if_neg (Nat.not_lt.mpr hfull)

/-- With room the record is the youngest of the queue and no alarm latches, whether or not a report goes out. -/
theorem State.appendOutcome_appends (hroom : s.outcomes.length < 64) :
    (s.appendOutcome r).outcomes = s.outcomes ++ [r] ∧ (s.appendOutcome r).alarms = s.alarms := by
  by_cases hempty : s.outcomes = []
  · rw [State.appendOutcome_of_empty r hempty, hempty, State.queueReport_outcomes, State.queueReport_alarms]
    exact ⟨rfl, rfl⟩
  · rw [State.appendOutcome_of_room r hempty hroom]
    exact ⟨rfl, rfl⟩

/-- An append reaches the outcomes, the alarms and the link, and nothing else. -/
theorem State.appendOutcome_only (s : State) (r : OutcomeRecord) : s.appendOutcome r = { s with
    outcomes := (s.appendOutcome r).outcomes
    alarms := (s.appendOutcome r).alarms
    link := (s.appendOutcome r).link } := by
  by_cases hempty : s.outcomes = []
  · rw [State.appendOutcome_of_empty r hempty, State.queueReport]
    split <;> rfl
  · by_cases hroom : s.outcomes.length < 64
    · rw [State.appendOutcome_of_room r hempty hroom]; rfl
    · rw [State.appendOutcome_of_full r (Nat.not_lt.mp hroom), State.latch_outcomes]
      exact s.latch_only .outcomeOverflow

end

/-- The end of a shot frees its slot and appends the record taken from it (R34). -/
theorem State.endShot_of_shot {s : State} {h : Handle} {sh : Shot} (hshot : s.slots[h].shot = some sh) (code : OutcomeCode) :
    s.endShot h code =
      (s.setSlot h ⟨s.slots[h].generation, none⟩).appendOutcome (outcomeOf h s.slots[h].generation sh code) := by
  simp only [State.endShot, hshot]

/-- Settles O19: the end of a shot is an append to the outcome queue of the state with the slot FREE, so each clause is that of
the append. -/
theorem shotEndWritesItsRecord : Obligations.ShotEndWritesItsRecord := by
  intro h code sh s hshot r
  rw [State.endShot_of_shot hshot code]
  refine ⟨State.appendOutcome_slots _ r, State.appendOutcome_appends (s := s.setSlot h ⟨s.slots[h].generation, none⟩) r,
    fun hempty hrun hroom => ?ready, fun hsome hroom => ?noReport, fun hfull => ?dropped, ?only⟩
  case ready =>
    rw [State.appendOutcome_of_empty _ (by exact hempty)]
    simp only [State.queueReport, State.setOutcomes, State.setSlot, hrun, State.setLink]
    exact Link.queueReport_of_room hroom _
  case noReport => rw [State.appendOutcome_of_room _ (by exact hsome) (by exact hroom)]; rfl
  case dropped =>
    rw [State.appendOutcome_of_full _ (by exact hfull), State.latch_outcomes, State.latch_isLatched]
    exact ⟨rfl, by simp⟩
  case only =>
    rw [State.appendOutcome_slots]
    exact State.appendOutcome_only (s.setSlot h ⟨s.slots[h].generation, none⟩) r

/-! ### The bytes of a record (Table 11-9) -/

theorem FrameEntry.bytes_length (e : FrameEntry) : e.bytes.length = 5 := rfl

theorem frameBytes_length (fs : List FrameEntry) : (fs.flatMap FrameEntry.bytes).length = 5 * fs.length := by
  simp [List.length_flatMap, FrameEntry.bytes_length, Nat.mul_comm]

/-- A list of at most four frames is carried whole, and the unused bytes of its 20 are 0. -/
theorem frameListBytes_eq {fs : List FrameEntry} (h : fs.length ≤ 4) :
    frameListBytes fs = fs.flatMap FrameEntry.bytes ++ List.replicate (20 - 5 * fs.length) 0 := by
  simp only [frameListBytes, List.take_of_length_le h, frameBytes_length, zeros]

theorem frameListBytes_length {fs : List FrameEntry} (h : fs.length ≤ 4) : (frameListBytes fs).length = 20 := by
  rw [frameListBytes_eq h, List.length_append, frameBytes_length, List.length_replicate]
  omega

theorem OutcomeRecord.bytes_length {r : OutcomeRecord} (h : r.frames.length ≤ 4) : r.bytes.length = 40 := by
  simp only [OutcomeRecord.bytes, List.length_append, frameListBytes_length h]
  rfl

/-! ### OUTCOME_FETCH -/

/-- R147 with a count from 1 to 6. -/
theorem outcomeFetch_of_count {n : Byte} (hmin : 1 ≤ n.toNat) (hmax : n.toNat ≤ 6) (s : State) : outcomeFetch [n] s =
    ⟨s.setOutcomes (s.outcomes.drop n.toNat), okReply (le1 (min n.toNat s.outcomes.length)
      ++ le1 (s.outcomes.length - n.toNat) ++ (s.outcomes.take n.toNat).flatMap OutcomeRecord.bytes)⟩ := by
  have hcount : ¬ (u8 [n] 0 = 0 ∨ 6 < u8 [n] 0) := show ¬ (n.toNat = 0 ∨ 6 < n.toNat) by omega
  simp only [outcomeFetch, if_neg hcount, List.length_take, List.length_drop]
  rfl

/-- R147's one refusal. -/
theorem outcomeFetch_badField {n : Byte} (h : n.toNat = 0 ∨ 6 < n.toNat) (s : State) : outcomeFetch [n] s = ⟨s, [1, 1, 0, 0]⟩ :=
  if_pos h

/-- Settles O20: the bytes by their layout, the request by its rule on each side of the count's span. -/
theorem outcomeFetchReturnsTheOldest : Obligations.OutcomeFetchReturnsTheOldest := by
  refine ⟨fun r hr => ⟨OutcomeRecord.bytes_length hr, rfl⟩, fun fs => frameListBytes_eq, fun tag n s hfree =>
    ⟨fun hmin hmax => ?fetched, fun hbad => arrive_answer hfree rfl rfl (outcomeFetch_badField hbad s.closeUnlock)⟩⟩
  case fetched => exact arrive_answer hfree rfl rfl (outcomeFetch_of_count hmin hmax s.closeUnlock)

end Sys2Proof.Machine

/-! SUPPORT. The codes of the enumerated values (Tables 11-3 to 11-5) and the little-endian fields of a payload: each reading
function takes back just what the writing function gives. -/

namespace Sys2Proof.Machine

/-! ### A code read is the code of the value -/

theorem EncoderMode.ofCode_eq_some_iff (k : Nat) (x : EncoderMode) : EncoderMode.ofCode k = some x ↔ k = x.code.toNat := by
  constructor
  · intro h
    match k, h with
    | 0, rfl | 1, rfl | 2, rfl | 3, rfl => rfl
    | _ + 4, h => nomatch h
  · rintro rfl; cases x <;> rfl

theorem EdgeSelection.ofCode_eq_some_iff (k : Nat) (x : EdgeSelection) :
    EdgeSelection.ofCode k = some x ↔ k = x.code.toNat := by
  constructor
  · intro h
    match k, h with
    | 0, rfl | 1, rfl | 2, rfl => rfl
    | _ + 3, h => nomatch h
  · rintro rfl; cases x <;> rfl

theorem IndexEdge.ofCode_eq_some_iff (k : Nat) (x : IndexEdge) : IndexEdge.ofCode k = some x ↔ k = x.code.toNat := by
  constructor
  · intro h
    match k, h with
    | 0, rfl | 1, rfl | 2, rfl => rfl
    | _ + 3, h => nomatch h
  · rintro rfl; cases x <;> rfl

theorem Source.ofCode_eq_some_iff (k : Nat) (x : Source) : Source.ofCode k = some x ↔ k = x.code.toNat := by
  constructor
  · intro h
    match k, h with
    | 0, rfl | 1, rfl | 2, rfl | 3, rfl => rfl
    | _ + 4, h => nomatch h
  · rintro rfl; cases x <;> rfl

theorem Direction.ofCode_eq_some_iff (k : Nat) (x : Direction) : Direction.ofCode k = some x ↔ k = x.code.toNat := by
  constructor
  · intro h
    match k, h with
    | 0, rfl | 1, rfl => rfl
    | _ + 2, h => nomatch h
  · rintro rfl; cases x <;> rfl

theorem Polarity.ofCode_eq_some_iff (k : Nat) (x : Polarity) : Polarity.ofCode k = some x ↔ k = x.code.toNat := by
  constructor
  · intro h
    match k, h with
    | 0, rfl | 1, rfl => rfl
    | _ + 2, h => nomatch h
  · rintro rfl; cases x <;> rfl

theorem OutputMode.ofCode_eq_some_iff (k : Nat) (x : OutputMode) : OutputMode.ofCode k = some x ↔ k = x.code.toNat := by
  constructor
  · intro h
    match k, h with
    | 0, rfl | 1, rfl => rfl
    | _ + 2, h => nomatch h
  · rintro rfl; cases x <;> rfl

theorem DriveLevel.ofCode_eq_some_iff (k : Nat) (x : DriveLevel) : DriveLevel.ofCode k = some x ↔ k = x.code.toNat := by
  constructor
  · intro h
    match k, h with
    | 0, rfl | 1, rfl => rfl
    | _ + 2, h => nomatch h
  · rintro rfl; cases x <;> rfl

theorem FrameEdge.ofCode_eq_some_iff (k : Nat) (x : FrameEdge) : FrameEdge.ofCode k = some x ↔ k = x.code.toNat := by
  constructor
  · intro h
    match k, h with
    | 0, rfl | 1, rfl | 2, rfl => rfl
    | _ + 3, h => nomatch h
  · rintro rfl; cases x <;> rfl

theorem Detection.ofCode_eq_some_iff (k : Nat) (x : Detection) : Detection.ofCode k = some x ↔ k = x.code.toNat := by
  constructor
  · intro h
    match k, h with
    | 0, rfl | 1, rfl | 2, rfl | 3, rfl | 4, rfl | 5, rfl => rfl
    | _ + 6, h => nomatch h
  · rintro rfl; cases x <;> rfl

theorem bitOfCode_eq_some_iff (k : Nat) (x : Bool) : bitOfCode k = some x ↔ k = (flagByte x).toNat := by
  constructor
  · intro h
    match k, h with
    | 0, rfl | 1, rfl => rfl
    | _ + 2, h => nomatch h
  · rintro rfl; cases x <;> rfl

/-! ### Little-endian fields -/

/-- A byte of a payload at a place in the second of three parts. -/
theorem u8_mid (before mid after : List Byte) {k : Nat} (hk : k < mid.length) :
    u8 (before ++ mid ++ after) (before.length + k) = u8 mid k := by
  rw [u8, List.append_assoc, List.getD_append_right _ _ _ _ (Nat.le_add_right _ _), Nat.add_sub_cancel_left,
    List.getD_append _ _ _ _ hk, u8]

theorem u16_mid (before mid after : List Byte) (h : 2 ≤ mid.length) :
    u16 (before ++ mid ++ after) before.length = u16 mid 0 := by
  rw [u16, u16, u8_mid before mid after (k := 1) (by omega), ← u8_mid before mid after (k := 0) (by omega), Nat.add_zero]

theorem u32_mid (before mid after : List Byte) (h : 4 ≤ mid.length) :
    u32 (before ++ mid ++ after) before.length = u32 mid 0 := by
  have hlow := u16_mid before mid after (by omega)
  have hthird := u8_mid before mid after (k := 2) (by omega)
  have hfourth := u8_mid before mid after (k := 3) (by omega)
  have hhigh : u16 (before ++ mid ++ after) (before.length + 2) = u16 mid 2 := by
    rw [u16, u16, hthird]
    exact congrArg (fun x => u8 mid 2 + 256 * x) hfourth
  rw [u32, u32, hlow, hhigh]

/-- A field read at the place where its two bytes were written. -/
theorem u16_of_written (before after : List Byte) {n : Nat} (h : n < 65536) :
    u16 (before ++ [BitVec.ofNat 8 n, BitVec.ofNat 8 (n / 256)] ++ after) before.length = n := by
  rw [u16_mid before _ after le_rfl]
  have hbytes : u16 [BitVec.ofNat 8 n, BitVec.ofNat 8 (n / 256)] 0 = n % 256 + 256 * (n / 256 % 256) := rfl
  omega

/-- A field read at the place where its four bytes were written. -/
theorem u32_of_written (before after : List Byte) {n : Nat} (h : n < 4294967296) :
    u32 (before ++ [BitVec.ofNat 8 n, BitVec.ofNat 8 (n / 256), BitVec.ofNat 8 (n / 65536), BitVec.ofNat 8 (n / 16777216)]
      ++ after) before.length = n := by
  rw [u32_mid before _ after le_rfl]
  have hbytes : u32 [BitVec.ofNat 8 n, BitVec.ofNat 8 (n / 256), BitVec.ofNat 8 (n / 65536), BitVec.ofNat 8 (n / 16777216)] 0 =
    n % 256 + 256 * (n / 256 % 256) + 65536 * (n / 65536 % 256 + 256 * (n / 16777216 % 256)) := rfl
  omega

/-- Settles O22: the readings by their inverses, the listed codes by the definitions. -/
theorem valuesHaveTheirEncodings : Obligations.ValuesHaveTheirEncodings := by
  refine ⟨⟨EncoderMode.ofCode_eq_some_iff, EdgeSelection.ofCode_eq_some_iff, IndexEdge.ofCode_eq_some_iff,
    Source.ofCode_eq_some_iff, Direction.ofCode_eq_some_iff, Polarity.ofCode_eq_some_iff, OutputMode.ofCode_eq_some_iff,
    DriveLevel.ofCode_eq_some_iff, FrameEdge.ofCode_eq_some_iff, Detection.ofCode_eq_some_iff, ?_⟩,
    ⟨bitOfCode_eq_some_iff, rfl, fun _ => rfl, fun _ _ => rfl, fun _ => rfl, fun _ _ => rfl, fun _ _ => rfl, rfl, rfl⟩,
    fun before after n => ⟨u16_of_written before after, u32_of_written before after⟩⟩
  decide

end Sys2Proof.Machine

/-! SUPPORT. What a change of A and B decodes to, mode by mode (R4 to R8). -/

namespace Sys2Proof.Machine

/-- The edge selection and the level that a change leads to (R7). -/
theorem EdgeSelection.selects_iff (e : EdgeSelection) (x : Level) :
    e.selects x = true ↔ e = .both ∨ (e = .rise ∧ x = .high) ∨ (e = .fall ∧ x = .low) := by
  cases e <;> cases x <;> decide

section
variable {c : EncoderConfig} {a b a' b' : Level}

/-- R5: both levels change. -/
theorem decodeAB_illegal (hmode : c.mode = .quad4 ∨ c.mode = .quad1) (ha : a ≠ a') (hb : b ≠ b') :
    decodeAB c a b a' b' = .illegal := by
  rcases hmode with hmode | hmode <;> simp only [decodeAB, hmode] <;> exact if_pos ⟨ha, hb⟩

/-- R4: one level changes. -/
theorem decodeAB_quad4 (hmode : c.mode = .quad4) (hone : ¬ (a ≠ a' ∧ b ≠ b')) (hsome : a ≠ a' ∨ b ≠ b') :
    decodeAB c a b a' b' = .step (forwardStep a b a' b') := by
  simp only [decodeAB, hmode, if_neg hone, if_pos hsome]

theorem decodeAB_same (hmode : c.mode ≠ .stepdir ∧ c.mode ≠ .count) : decodeAB c a b a b = .nothing := by
  obtain ⟨hstepdir, hcount⟩ := hmode
  cases hmode : c.mode with
  | quad4 | quad1 => simp [decodeAB, hmode]
  | stepdir => exact absurd hmode hstepdir
  | count => exact absurd hmode hcount

/-- R6: the selected edge of A counts by the level of B. -/
theorem decodeAB_quad1_rise (hmode : c.mode = .quad1) (hedge : c.edge = .rise) :
    decodeAB c .low b .high b = .step (b == .low) := by
  simp [decodeAB, hmode, hedge]

theorem decodeAB_quad1_fall (hmode : c.mode = .quad1) (hedge : c.edge = .fall) :
    decodeAB c .high b .low b = .step (b == .high) := by
  simp [decodeAB, hmode, hedge]

theorem decodeAB_quad1_sameA (hmode : c.mode = .quad1) : decodeAB c a b a b' = .nothing := by
  simp [decodeAB, hmode]

/-- R6: the other edge of A counts nothing. -/
theorem decodeAB_quad1_unselected (hmode : c.mode = .quad1) (hedge : c.edge = .rise ∧ a' = .low ∨ c.edge = .fall ∧ a' = .high) :
    decodeAB c a b a' b = .nothing := by
  rcases hedge with ⟨hedge, rfl⟩ | ⟨hedge, rfl⟩ <;> simp [decodeAB, hmode, hedge]

/-- R7. -/
theorem decodeAB_stepdir (hmode : c.mode = .stepdir) : decodeAB c a b a' b' =
    if a ≠ a' ∧ (c.edge = .both ∨ (c.edge = .rise ∧ a' = .high) ∨ (c.edge = .fall ∧ a' = .low))
    then .step (b' == .high) else .nothing := by
  simp only [decodeAB, hmode, EdgeSelection.selects_iff]

/-- R8. -/
theorem decodeAB_count (hmode : c.mode = .count) : decodeAB c a b a' b' =
    if a ≠ a' ∧ (c.edge = .both ∨ (c.edge = .rise ∧ a' = .high) ∨ (c.edge = .fall ∧ a' = .low))
    then .step true else .nothing := by
  simp only [decodeAB, hmode, EdgeSelection.selects_iff]

end

/-- The four steps that Table 1-1 lists as forward, each with its reverse. -/
theorem forwardSteps (x : Level × Level × Level × Level) (h : x ∈ [(Level.low, Level.low, Level.high, Level.low),
    (.high, .low, .high, .high), (.high, .high, .low, .high), (.low, .high, .low, .low)]) :
    (¬ (x.1 ≠ x.2.2.1 ∧ x.2.1 ≠ x.2.2.2) ∧ (x.1 ≠ x.2.2.1 ∨ x.2.1 ≠ x.2.2.2)) ∧
    forwardStep x.1 x.2.1 x.2.2.1 x.2.2.2 = true ∧ forwardStep x.2.2.1 x.2.2.2 x.1 x.2.1 = false := by
  revert x
  decide

/-- Settles O23, a clause for each mode and kind of change. -/
theorem decoderCountsByMode : Obligations.DecoderCountsByMode := by
  intro c a b a' b'
  refine ⟨decodeAB_illegal, fun hmode hstep => ?forward, fun hmode hstep => ?reverse, ?same, ?quad1Rise, ?quad1Fall,
    fun hmode hnot => ?quad1Nothing, decodeAB_stepdir, decodeAB_count⟩
  case forward =>
    obtain ⟨⟨hone, hsome⟩, hforward, -⟩ := forwardSteps _ hstep
    rw [decodeAB_quad4 hmode hone hsome, hforward]
  case reverse =>
    obtain ⟨⟨hone, hsome⟩, -, hreverse⟩ := forwardSteps _ hstep
    rw [decodeAB_quad4 hmode (fun h => hone ⟨h.1.symm, h.2.symm⟩) (hsome.imp Ne.symm Ne.symm), hreverse]
  case same => rintro hmode rfl rfl; exact decodeAB_same hmode
  case quad1Rise => rintro hmode rfl hedge rfl rfl; exact decodeAB_quad1_rise hmode hedge
  case quad1Fall => rintro hmode rfl hedge rfl rfl; exact decodeAB_quad1_fall hmode hedge
  case quad1Nothing =>
    rcases hnot with rfl | ⟨hedge, hlevel, rfl⟩ | ⟨hedge, hlevel, rfl⟩
    · exact decodeAB_quad1_sameA hmode
    · exact decodeAB_quad1_unselected hmode (.inl ⟨hedge, hlevel⟩)
    · exact decodeAB_quad1_unselected hmode (.inr ⟨hedge, hlevel⟩)

end Sys2Proof.Machine

/-! SUPPORT. A filtered change handled whole (R3 to R10): the model's handling of it is the encoder that `encoderAfterChange` writes
out in the state that `changeHanded` writes out; ENCODER_PIN_CHANGE and FILTERED_CHANGE by the filter and its stable times. -/

namespace Sys2Proof.Machine

/-! ### The encoder after the change -/

theorem IndexEdge.selects_iff (e : IndexEdge) (x : Level) :
    e.selects x = true ↔ (e = .rise ∧ x = .high) ∨ (e = .fall ∧ x = .low) := by
  cases e <;> cases x <;> decide

/-- The channel once its count event is over: counted after invert on a step, as it was otherwise (R2, R9). -/
def Encoder.decoded (e : Encoder) : Decoded → Encoder
  | .step up => e.counted (up != e.config.invert)
  | .nothing | .illegal => e

/-- A count after invert, as the statement writes it: the step is taken down when it equals the invert flag. -/
theorem Encoder.counted_invert (e : Encoder) (up : Bool) : e.counted (up != e.config.invert) = { e with
    position := (if up = e.config.invert then e.position - 1 else e.position + 1)
    lastDirection := (if up = e.config.invert then .rev else .fwd) } := by
  cases up <;> cases hinvert : e.config.invert <;> rfl

theorem Encoder.settleChange_eq (e : Encoder) (z : EncoderPins) :
    let index := e.filtered.z ≠ z.z ∧
      ((e.config.indexEdge = .rise ∧ z.z = .high) ∨ (e.config.indexEdge = .fall ∧ z.z = .low))
    e.settleChange z = { e with
      indexLatch := (if index then e.position else e.indexLatch)
      indexCount := (if index then e.indexCount + 1 else e.indexCount)
      indexSeen := (if index then true else e.indexSeen)
      filtered := z, referenceA := z.a, referenceB := z.b } := by
  simp only [Encoder.settleChange, IndexEdge.selects_iff]
  split <;> rfl

/-- The model's two stages make the encoder that the statement writes out. -/
theorem encoderAfterChange_eq (e : Encoder) (z : EncoderPins) : encoderAfterChange e z =
    (e.decoded (decodeAB e.config e.referenceA e.referenceB z.a z.b)).settleChange z := by
  rw [Encoder.settleChange_eq]
  cases hdecoded : decodeAB e.config e.referenceA e.referenceB z.a z.b with
  | nothing | illegal => simp only [encoderAfterChange, hdecoded, Encoder.decoded]; congr
  | step up => simp only [encoderAfterChange, hdecoded, Encoder.decoded, Encoder.counted_invert]

/-! ### The part after the change -/

/-- An alarm latches beside an encoder. -/
theorem State.latch_setEncoder (s : State) (n : EncoderId) (e : Encoder) (a : Alarm) :
    (s.setEncoder n e).latch a = (s.latch a).setEncoder n e := by
  cases hlatched : s.alarms.isLatched a with
  | true => rw [State.latch_of_latched hlatched, State.latch_of_latched (s := s.setEncoder n e) hlatched]
  | false =>
    cases hon : s.alarms.isEnabled a with
    | false => rw [State.latch_of_disabled hlatched hon, State.latch_of_disabled (s := s.setEncoder n e) hlatched hon]; rfl
    | true =>
      simp only [State.latch, State.setEncoder, hlatched, hon, Bool.false_eq_true, if_false, if_true, State.queueReport,
        State.setAlarms]
      cases s.phase <;> rfl

/-- The encoders after a count event: the channel counted, the other as it was. -/
theorem State.encoderCount_setEncoder (s : State) (n : EncoderId) (e : Encoder) (up : Bool) :
    ((s.setEncoder n e).encoderCount n up).encoders = s.encoders.set n (e.counted (up != e.config.invert)) := by
  simp [State.encoderCount, State.setEncoder]

/-- A channel standing at `e` that handles a change: its own encoder is the one written out, the rest of the part is handed the
count event or the alarm. -/
theorem State.filteredTo_handed (s : State) (n : EncoderId) (e : Encoder) (z : EncoderPins) :
    ((s.setEncoder n e).filteredTo n z).beginTx = changeHanded s n e z (s.encoders.set n (encoderAfterChange e z)) := by
  have hself : (s.setEncoder n e).encoders[n] = e := by simp [State.setEncoder]
  rw [encoderAfterChange_eq]
  unfold State.filteredTo changeHanded
  dsimp only
  rw [hself]
  cases decodeAB e.config e.referenceA e.referenceB z.a z.b with
  | nothing =>
    dsimp only
    rw [hself]
    simp [State.setEncoder, Encoder.decoded]
  | illegal =>
    dsimp only
    rw [State.latch_setEncoder]
    simp [State.setEncoder, Encoder.decoded]
  | step up =>
    have hcounted := s.encoderCount_setEncoder n e up
    dsimp only
    rw [State.setEncoder, hcounted]
    simp only [Fin.getElem_fin, Vector.getElem_set_self, Vector.set_set]
    rfl

section
variable (s : State) (n : EncoderId) (e : Encoder) (z : EncoderPins) (encoders : Vector Encoder 2)

@[simp] theorem changeHanded_encoders : (changeHanded s n e z encoders).encoders = encoders := rfl

/-- What no change of a channel reaches. -/
theorem changeHanded_keeps : (changeHanded s n e z encoders).pacers = s.pacers ∧
    (changeHanded s n e z encoders).outputs = s.outputs ∧ (changeHanded s n e z encoders).safes = s.safes ∧
    (changeHanded s n e z encoders).timestamp = s.timestamp ∧ (changeHanded s n e z encoders).updateHold = s.updateHold ∧
    (changeHanded s n e z encoders).unlock = s.unlock ∧ (changeHanded s n e z encoders).phase = s.phase ∧
    (changeHanded s n e z encoders).pending = s.pending := by
  unfold changeHanded
  split <;> simp

/-- R5. -/
theorem changeHanded_latches (h : decodeAB e.config e.referenceA e.referenceB z.a z.b = .illegal) :
    (changeHanded s n e z encoders).alarms.isLatched (.encFault n) = true := by
  simp [changeHanded, h]

end

/-! ### ENCODER_PIN_CHANGE -/

theorem exec_encoderPinChange_of_reset {s : State} (h : s.phase = .coldReset) (n : EncoderId) (z : EncoderPins) :
    exec (.encoderPinChange n z) s = .next (s.setEncoder n { s.encoders[n] with pins := z }) := by
  show execEncoderPinChange n z s = _
  rw [execEncoderPinChange, h]

theorem exec_encoderPinChange_of_awake {s : State} (h : s.phase ≠ .coldReset) (n : EncoderId) (z : EncoderPins) :
    exec (.encoderPinChange n z) s = .next (s.wholeTick.encoderPins n z).beginTx := by
  show execEncoderPinChange n z s = _
  unfold execEncoderPinChange
  split
  · exact absurd ‹_› h
  · rfl

/-- In the second half of a tick with nothing due, the end of the tick is the half tick alone. -/
theorem wholeTick_of_nothingDue {s : State} (hhalf : s.halfTick = true) (awake : s.phase ≠ .coldReset) (hdue : s.dueEvents = []) :
    s.wholeTick = s.halfTickPasses := by
  have hover : s.halfTickPasses.halfTick = false := by simp [State.halfTickPasses, hhalf]
  simp only [State.wholeTick, eventsPerHalfTick, State.endTick, hhalf, if_true, idle_of_nothingDue awake hdue, hover,
    Bool.false_eq_true, if_false]

/-- Settles O24: the whole tick by what a tick's end is, the pins by the filter; a change of filtered levels is handed whole by
`State.filteredTo_handed`. -/
theorem encoderPinChangeFollowsTheFilter : Obligations.EncoderPinChangeFollowsTheFilter := by
  intro n z s0 s e pick still timed f e0
  refine ⟨wholeTick_halfTick s0, wholeTick_of_whole s0, fun hhalf awake hdue => ?tickEnds,
    fun hcold => exec_encoderPinChange_of_reset hcold n z, fun awake hfilter => ?unfiltered, fun awake hfilter => ?filtered⟩
  case tickEnds =>
    have hwhole : s = s0.halfTickPasses := wholeTick_of_nothingDue hhalf awake hdue
    rw [hwhole]
    exact idle_of_nothingDue (s := { s0 with pending := [] }) awake hdue
  case unfiltered =>
    by_cases hsame : f = e.filtered
    · have hpins : s.encoderPins n z = s.setEncoder n e0 := by
        rw [State.encoderPins, if_pos hfilter]; exact if_pos hsame
      refine ⟨_, exec_encoderPinChange_of_awake awake n z, ?_⟩
      rw [if_pos hsame, show s0.wholeTick = s from rfl, hpins]
      exact ⟨rfl, fun _ => rfl, fun hne => absurd hsame hne, fun hne => absurd hsame hne, rfl, rfl, rfl, rfl, rfl, rfl, rfl, rfl⟩
    · have hpins : s.encoderPins n z = (s.setEncoder n e0).filteredTo n f := by
        rw [State.encoderPins, if_pos hfilter]; exact if_neg hsame
      refine ⟨_, exec_encoderPinChange_of_awake awake n z, ?_⟩
      rw [if_neg hsame, show s0.wholeTick = s from rfl, hpins, State.filteredTo_handed]
      exact ⟨rfl, fun heq => absurd heq hsame, fun _ => rfl, fun _ => changeHanded_latches s n e0 f _,
        changeHanded_keeps s n e0 f _⟩
  case filtered =>
    refine ⟨_, exec_encoderPinChange_of_awake awake n z, ?_⟩
    rw [State.encoderPins, if_neg (by exact hfilter)]
    exact ⟨rfl, rfl⟩

/-! ### FILTERED_CHANGE -/

theorem exec_filteredChange_of_ready {s : State} {n : EncoderId} (awake : s.phase ≠ .coldReset) (h : s.changeReady n = true) :
    exec (.filteredChange n) s = .next (s.filteredChange n).beginTx := if_pos ⟨awake, h⟩

theorem exec_filteredChange_of_notReady {s : State} {n : EncoderId} (h : s.changeReady n = false) :
    exec (.filteredChange n) s = .next s := if_neg fun hready => Bool.false_ne_true (h.symm.trans hready.2)

section
variable {c : Fin 8} {t : Option Nat}

theorem afterFilter_of_due (h : stable c t = true) (filtered pin : Level) : afterFilter c t filtered pin = pin := if_pos h

theorem afterFilter_of_notDue (h : ¬ stable c t = true) (filtered pin : Level) : afterFilter c t filtered pin = filtered := if_neg h

theorem timingAfter_of_due (h : stable c t = true) : timingAfter c t = none := if_pos h

theorem timingAfter_of_notDue (h : ¬ stable c t = true) : timingAfter c t = t := if_neg h

end

/-- Settles O25: what a pin's stable time decides is told pin by pin, the change itself by `State.filteredTo_handed`. -/
theorem filteredChangeIsHandledWhole : Obligations.FilteredChangeIsHandledWhole := by
  intro n s awake e due
  have hdue (t : Option Nat) : due t ↔ stable e.config.filter t = true := by
    rw [stable_iff]; exact exists_congr fun _ => and_comm
  simp only [hdue]
  refine ⟨fun hwhole hsome => ?handled, fun hhalf => ?secondHalf, fun ⟨ha, hb, hz⟩ => ?none⟩
  case handled =>
    have hready : s.changeReady n = true := by
      simpa only [State.changeReady, hwhole, Encoder.changeDue, Bool.not_false, Bool.true_and, Bool.or_eq_true, or_assoc] using hsome
    let z : EncoderPins := ⟨afterFilter e.config.filter e.timing.a e.filtered.a e.pins.a,
      afterFilter e.config.filter e.timing.b e.filtered.b e.pins.b, afterFilter e.config.filter e.timing.z e.filtered.z e.pins.z⟩
    refine ⟨_, z, exec_filteredChange_of_ready awake hready, fun h => afterFilter_of_due h _ _,
      fun h => afterFilter_of_notDue h _ _, fun h => afterFilter_of_due h _ _, fun h => afterFilter_of_notDue h _ _,
      fun h => afterFilter_of_due h _ _, fun h => afterFilter_of_notDue h _ _, ?_⟩
    let e' : Encoder := { e with timing := ⟨timingAfter e.config.filter e.timing.a, timingAfter e.config.filter e.timing.b,
      timingAfter e.config.filter e.timing.z⟩ }
    have hhanded : (s.filteredChange n).beginTx = changeHanded s n e' z (s.encoders.set n (encoderAfterChange e' z)) :=
      s.filteredTo_handed n e' z
    have hself : (s.encoders.set n (encoderAfterChange e' z))[n] = encoderAfterChange e' z := Vector.getElem_set_self ..
    rw [hhanded, changeHanded_encoders, hself]
    exact ⟨rfl, timingAfter_of_due, timingAfter_of_notDue, timingAfter_of_due, timingAfter_of_notDue, timingAfter_of_due,
      timingAfter_of_notDue, rfl, changeHanded_latches s n e' z _, changeHanded_keeps s n e' z _⟩
  case secondHalf => exact exec_filteredChange_of_notReady (by simp [State.changeReady, hhalf])
  case none =>
    refine exec_filteredChange_of_notReady ?_
    rw [State.changeReady, Encoder.changeDue]
    simp only [Bool.eq_false_of_not_eq_true ha, Bool.eq_false_of_not_eq_true hb, Bool.eq_false_of_not_eq_true hz, e,
      Bool.or_self, Bool.and_false]

end Sys2Proof.Machine

/-! SUPPORT. The requests on encoder channels and the pacers' settings and expiries (R11, R12, R14, R15), and the lanes that take a
count event (R2, R20). -/

namespace Sys2Proof.Machine

/-! ### The flag byte of a preset -/

theorem yesAt_of_ne {p : List Byte} {i : Nat} (h : u8 p i ≠ 0) : yesAt p i = true := bne_iff_ne.mpr h

theorem yesAt_of_zero {p : List Byte} {i : Nat} (h : u8 p i = 0) : yesAt p i = false := by rw [yesAt, h]; rfl

theorem State.sourceInUse_eq_false {s : State} {src : Source}
    (h : ¬ ∃ l : LaneId, s.lanes[l].settings.source = src ∧ s.lanes[l].state ≠ .off) : s.sourceInUse src = false :=
  Bool.eq_false_of_not_eq_true (mt (s.sourceInUse_iff src).mp h)

/-! ### The configuration of an ENCODER_SET payload (R11) -/

theorem encoderConfigAt_eq {p : List Byte} {c : EncoderConfig} (hmode : EncoderMode.ofCode (u8 p 1) = some c.mode)
    (hedge : EdgeSelection.ofCode (u8 p 2) = some c.edge) (hinvert : c.invert = decide (u8 p 3 ≠ 0))
    (hfilter : u8 p 4 = c.filter.val) (hindex : IndexEdge.ofCode (u8 p 5) = some c.indexEdge)
    (hpair : ¬ (c.mode = .quad1 ∧ c.edge = .both)) : encoderConfigAt p = some c := by
  have hyes : yesAt p 3 = c.invert := by
    rw [hinvert]
    exact Bool.eq_iff_iff.mpr (bne_iff_ne.trans decide_eq_true_iff.symm)
  simp only [encoderConfigAt, hmode, hedge, index?_eq c.filter hfilter, hindex, if_neg hpair, hyes]

/-- The values that no configuration has. -/
theorem encoderConfigAt_none {p : List Byte} (h : 3 < u8 p 1 ∨ 2 < u8 p 2 ∨ 7 < u8 p 4 ∨ 2 < u8 p 5 ∨ (u8 p 1 = 1 ∧ u8 p 2 = 2)) :
    encoderConfigAt p = none := by
  unfold encoderConfigAt
  split
  next mode edge filter index hmode hedge hfilter hindex =>
    have hm : u8 p 1 ≤ 3 := by rw [(EncoderMode.ofCode_eq_some_iff _ _).mp hmode]; cases mode <;> decide
    have he : u8 p 2 ≤ 2 := by rw [(EdgeSelection.ofCode_eq_some_iff _ _).mp hedge]; cases edge <;> decide
    have hi : u8 p 5 ≤ 2 := by rw [(IndexEdge.ofCode_eq_some_iff _ _).mp hindex]; cases index <;> decide
    have hf : ¬ 7 < u8 p 4 := fun hout => by rw [index?_none (k := 8) hout] at hfilter; cases hfilter
    have hpair : u8 p 1 = 1 ∧ u8 p 2 = 2 := by omega
    rw [hpair.1] at hmode
    rw [hpair.2] at hedge
    cases hmode
    cases hedge
    rfl
  next => rfl

/-- R11: a pin is timed afresh exactly where the filter value changes. -/
theorem retime_eq (filter filter' : Fin 8) (t : Option Nat) :
    retime (filter' != filter) t = if filter = filter' then t else t.map (fun _ => 0) := by
  by_cases h : filter = filter'
  · simp [retime, h]
  · simp [retime, h, Ne.symm h]

/-! ### The rules of ENCODER_SET and ENCODER_READ -/

section
variable {p : List Byte} {n : EncoderId} {c : EncoderConfig} (hn : u8 p 0 = n.val) (hc : encoderConfigAt p = some c) {s : State}
include hn hc

theorem encoderSet_configures (hpreset : u8 p 6 = 0) :
    encoderSet p s = ⟨s.setEncoder n (s.encoders[n].configured c), [0, 0]⟩ := by
  simp only [encoderSet, index?_eq n hn, hc, yesAt_of_zero hpreset, Bool.false_and, Bool.false_eq_true, if_false]
  rfl

theorem encoderSet_presets (hpreset : u8 p 6 ≠ 0) (hidle : s.sourceInUse (encoderSource n) = false) : encoderSet p s =
    ⟨s.setEncoder n { s.encoders[n].configured c with position := w32 p 7, indexSeen := false }, [0, 0]⟩ := by
  simp only [encoderSet, index?_eq n hn, hc, yesAt_of_ne hpreset, hidle, Bool.and_false, Bool.false_eq_true, if_false, if_true]
  rfl

theorem encoderSet_badState (hpreset : u8 p 6 ≠ 0) (huse : s.sourceInUse (encoderSource n) = true) :
    encoderSet p s = ⟨s, [1, 2]⟩ := by
  simp only [encoderSet, index?_eq n hn, hc, yesAt_of_ne hpreset, huse, Bool.and_self, if_true]
  rfl

end

theorem encoderSet_badField {p : List Byte}
    (h : 1 < u8 p 0 ∨ 3 < u8 p 1 ∨ 2 < u8 p 2 ∨ 7 < u8 p 4 ∨ 2 < u8 p 5 ∨ (u8 p 1 = 1 ∧ u8 p 2 = 2)) (s : State) :
    encoderSet p s = ⟨s, [1, 1]⟩ := by
  rcases h with hchannel | hconfig
  · simp only [encoderSet, index?_none (k := 2) hchannel]; rfl
  · simp only [encoderSet, encoderConfigAt_none hconfig]; cases index? 2 (u8 p 0) <;> rfl

/-- R12: the reply is made of the channel as it stood. -/
theorem encoderRead_bytes {a b : Byte} {n : EncoderId} (hn : a.toNat = n.val) (s : State) : encoderRead [a, b] s =
    ⟨if b = 0 then s else s.setEncoder n { s.encoders[n] with indexSeen := false }, okReply s.encoders[n].bytes⟩ := by
  have hbyte : u8 [a, b] 1 = 0 ↔ b = 0 := (BitVec.toNat_eq (y := 0)).symm
  have hflag : yesAt [a, b] 1 = true ↔ ¬ b = 0 := bne_iff_ne.trans (not_congr hbyte)
  simp only [encoderRead, index?_eq (n := u8 [a, b] 0) n hn, hflag, ite_not]

theorem encoderRead_badField {a b : Byte} (h : 1 < a.toNat) (s : State) : encoderRead [a, b] s = ⟨s, [1, 1] ++ zeros 18⟩ := by
  simp only [encoderRead, index?_none (k := 2) (n := u8 [a, b] 0) h]
  rfl

/-- The unlock flag goes down beside the encoders. -/
theorem closeUnlock_ite (c : Prop) [Decidable c] (s t : State) :
    (if c then s.closeUnlock else t.closeUnlock) = (if c then s else t).closeUnlock := (apply_ite State.closeUnlock c s t).symm

/-- Settles O26: ENCODER_SET by what its payload carries and whether the preset may be done, ENCODER_READ by its bytes. -/
theorem encoderSetAndRead : Obligations.EncoderSetAndRead := by
  refine ⟨fun tag p s hfree hlen => ⟨fun n c hn hmode hedge hinvert hfilter hindex hpair => ?set,
      fun hbad => arrive_answer hfree (beq_iff_eq.mpr hlen) rfl (encoderSet_badField hbad s.closeUnlock)⟩,
    fun tag a b s hfree => ⟨fun n hn => ?read, fun hbad => arrive_answer hfree rfl rfl (encoderRead_badField hbad s.closeUnlock)⟩⟩
  case set =>
    intro e afresh e' inUse
    have hc := encoderConfigAt_eq hmode hedge hinvert hfilter hindex hpair
    have hconfigured : s.encoders[n].configured c = e' := by
      simp only [Encoder.configured, retime_eq]
      rfl
    refine ⟨fun hpreset => ?_, fun hpreset hidle => ?_, fun hpreset huse => ?_⟩
    · rw [← hconfigured]
      exact arrive_answer hfree (beq_iff_eq.mpr hlen) rfl (encoderSet_configures (s := s.closeUnlock) hn hc hpreset)
    · rw [← hconfigured]
      exact arrive_answer hfree (beq_iff_eq.mpr hlen) rfl
        (encoderSet_presets (s := s.closeUnlock) hn hc hpreset (State.sourceInUse_eq_false (by exact hidle)))
    · exact arrive_answer hfree (beq_iff_eq.mpr hlen) rfl
        (encoderSet_badState (s := s.closeUnlock) hn hc hpreset ((State.sourceInUse_iff _ _).mpr huse))
  case read =>
    refine arrive_answer hfree rfl rfl ((encoderRead_bytes hn s.closeUnlock).trans ?_)
    exact congrArg (Answer.mk · _) (closeUnlock_ite (b = 0) s (s.setEncoder n { s.encoders[n] with indexSeen := false }))

/-! ### PACER_SET (R15) -/

section
variable {x : Pacer} (interval : Nat)

theorem Pacer.written_of_stopped (h : x.running = false) (preset : Option Position) :
    x.written interval preset = { x with interval := interval, position := preset.getD x.position } := by
  simp [Pacer.written, h]

theorem Pacer.written_of_running (h : x.running = true) :
    x.written interval none = { x with pendingInterval := some interval } := by
  simp [Pacer.written, h]

end

section
variable {p : List Byte} {n : PacerId} (hn : u8 p 0 = n.val) (hmin : 1 ≤ u32 p 1) (hmax : u32 p 1 ≤ 16777216) {s : State}
include hn hmin hmax

/-- Without a preset the interval is written whatever the lanes do. -/
theorem pacerSet_writes (hpreset : u8 p 5 = 0) : pacerSet p s = ⟨s.setPacer n (s.pacers[n].written (u32 p 1) none), [0, 0]⟩ := by
  have hspan : ¬ (u32 p 1 = 0 ∨ Config.longSpan < u32 p 1) := show ¬ (u32 p 1 = 0 ∨ 16777216 < u32 p 1) by omega
  simp only [pacerSet, index?_eq n hn, if_neg hspan, yesAt_of_zero hpreset, Bool.false_and, Bool.false_eq_true, if_false]
  rfl

theorem pacerSet_presets (hpreset : u8 p 5 ≠ 0) (hstopped : s.pacers[n].running = false)
    (hidle : s.sourceInUse (pacerSource n) = false) :
    pacerSet p s = ⟨s.setPacer n (s.pacers[n].written (u32 p 1) (some (w32 p 6))), [0, 0]⟩ := by
  have hspan : ¬ (u32 p 1 = 0 ∨ Config.longSpan < u32 p 1) := show ¬ (u32 p 1 = 0 ∨ 16777216 < u32 p 1) by omega
  simp only [pacerSet, index?_eq n hn, if_neg hspan, yesAt_of_ne hpreset, hstopped, hidle, Bool.or_self, Bool.and_false,
    Bool.false_eq_true, if_false, if_true]
  rfl

theorem pacerSet_badState (hpreset : u8 p 5 ≠ 0)
    (huse : (s.pacers[n].running || s.sourceInUse (pacerSource n)) = true) : pacerSet p s = ⟨s, [1, 2]⟩ := by
  have hspan : ¬ (u32 p 1 = 0 ∨ Config.longSpan < u32 p 1) := show ¬ (u32 p 1 = 0 ∨ 16777216 < u32 p 1) by omega
  simp only [pacerSet, index?_eq n hn, if_neg hspan, yesAt_of_ne hpreset, huse, Bool.and_self, if_true]
  rfl

end

theorem pacerSet_badField {p : List Byte} (h : 1 < u8 p 0 ∨ u32 p 1 = 0 ∨ 16777216 < u32 p 1) (s : State) :
    pacerSet p s = ⟨s, [1, 1]⟩ := by
  rcases h with hpacer | hspan
  · simp only [pacerSet, index?_none (k := 2) hpacer]; rfl
  · have hspan : u32 p 1 = 0 ∨ Config.longSpan < u32 p 1 := hspan
    simp only [pacerSet, if_pos hspan]
    cases index? 2 (u8 p 0) <;> rfl

/-- Settles O27: the write by the run state, the preset by the run state and the lanes. -/
theorem pacerSetWritesOrHoldsPending : Obligations.PacerSetWritesOrHoldsPending := by
  refine fun tag p s hfree hlen => ⟨fun n hn hmin hmax => ?_,
    fun hbad => arrive_answer hfree (beq_iff_eq.mpr hlen) rfl (pacerSet_badField hbad s.closeUnlock)⟩
  have hexec {t : State} {reply : List Byte} (h : pacerSet p s.closeUnlock = ⟨t.closeUnlock, reply⟩) :
      exec (.pacerSet tag p) s = .next (replied t 0x8A tag reply) := arrive_answer hfree (beq_iff_eq.mpr hlen) rfl h
  refine ⟨fun hpreset hstopped => ?_, fun hpreset hrunning => ?_, fun hpreset hstopped hidle => ?_, fun hpreset huse => ?_⟩
  · refine hexec ((pacerSet_writes hn hmin hmax hpreset).trans ?_)
    rw [Pacer.written_of_stopped _ (by exact hstopped)]
    rfl
  · refine hexec ((pacerSet_writes hn hmin hmax hpreset).trans ?_)
    rw [Pacer.written_of_running _ (by exact hrunning)]
    rfl
  · refine hexec ((pacerSet_presets hn hmin hmax hpreset (by exact hstopped)
      (State.sourceInUse_eq_false (by exact hidle))).trans ?_)
    rw [Pacer.written_of_stopped _ (by exact hstopped)]
    rfl
  · refine hexec (t := s) (pacerSet_badState hn hmin hmax hpreset ?_)
    rw [Bool.or_eq_true, State.sourceInUse_iff]
    exact huse

/-! ### The lanes that take a count event (R2) -/

theorem State.mem_listeners_iff (s : State) (src : Source) (l : LaneId) :
    l ∈ s.listeners src ↔ s.lanes[l].settings.source = src ∧ s.lanes[l].state ≠ .off := by
  simp only [State.listeners, allLanes, List.mem_filter, List.mem_finRange, true_and, Bool.and_eq_true, beq_iff_eq, bne_iff_ne]

theorem State.listeners_nodup (s : State) (src : Source) : (s.listeners src).Nodup := (List.nodup_finRange 4).filter _

/-- A count event goes once to each lane outside OFF that names the source, in an order that nothing says (log entry 5). -/
theorem State.handCount_lanes (s : State) (src : Source) (up : Bool) : ∃ (ls : List LaneId) (a : Nat), ls.Nodup ∧
    (∀ l : LaneId, l ∈ ls ↔ s.lanes[l].settings.source = src ∧ s.lanes[l].state ≠ .off) ∧
    s.handCount src up = ls.foldl (State.laneCount up) { s with arbiter := a } := by
  have horder := anyOrder_perm s.arbiter (s.listeners src)
  have hchosen : ∃ a, (if (s.listeners src).length ≤ 1 then s
      else { s with arbiter := s.arbiter + (s.listeners src).length }) = { s with arbiter := a } := by
    split
    · exact ⟨s.arbiter, rfl⟩
    · exact ⟨_, rfl⟩
  obtain ⟨a, ha⟩ := hchosen
  refine ⟨anyOrder s.arbiter (s.listeners src), a, horder.nodup_iff.mpr (s.listeners_nodup src),
    fun l => horder.mem_iff.trans (s.mem_listeners_iff src l), ?_⟩
  rw [State.handCount, ha]

/-- Settles O31: the lane position by the direction, a count event by the lanes it is handed to. -/
theorem countEventsMoveTheLanes : Obligations.CountEventsMoveTheLanes := by
  constructor
  · intro l s c source
    have hsource : s.sourcePosition c.source = source c.source := by cases c.source <;> rfl
    refine ⟨fun hsame => ?_, fun hopposite => ?_⟩
    · rw [← hsource, State.lanePosition, hsame]
    · rw [← hsource, State.lanePosition, hopposite]
  · intro n up s e forward
    obtain ⟨ls, a, hnodup, hmem, hcount⟩ := State.handCount_lanes (s.setEncoder n (e.counted forward)) (encoderSource n) forward
    exact ⟨ls, a, hnodup, hmem, hcount⟩

/-! ### PACER_EXPIRY (R14) -/

theorem exec_pacerExpiry_of_due {s : State} {n : PacerId} (h : s.pacers[n].expiryDue s.timestamp = true) :
    exec (.pacerExpiry n) s =
      .next ((s.setPacer n (s.pacers[n].expired s.timestamp)).handCount (pacerSource n) true).beginTx := if_pos h

theorem exec_pacerExpiry_of_notDue {s : State} {n : PacerId} (h : ¬ s.pacers[n].expiryDue s.timestamp = true) :
    exec (.pacerExpiry n) s = .next s := if_neg h

/-- Settles O29: an expiry writes its pacer and hands a count event to the lanes. -/
theorem pacerExpiryCountsOnce : Obligations.PacerExpiryCountsOnce := by
  intro n t0 s x hrunning hstart
  refine ⟨fun hpassed => ?_, fun hbefore => exec_pacerExpiry_of_notDue fun hdue => ?_⟩
  · have hdue := (Pacer.expiryDue_iff x s.timestamp).mpr ⟨t0, hrunning, hstart, hpassed⟩
    obtain ⟨ls, a, hnodup, hmem, hcount⟩ := State.handCount_lanes (s.setPacer n (x.expired s.timestamp)) (pacerSource n) true
    have hpacers : ((s.setPacer n (x.expired s.timestamp)).handCount (pacerSource n) true).beginTx.pacers =
        s.pacers.set n (x.expired s.timestamp) := by
      rw [State.beginTx_pacers, State.handCount_pacers]; rfl
    have hexpired : x.expired s.timestamp =
        ⟨x.pendingInterval.getD x.interval, none, true, x.position + 1, some s.timestamp⟩ := by
      rw [Pacer.expired, hrunning]
    refine ⟨_, ls, a, exec_pacerExpiry_of_due hdue, by rw [hpacers, hexpired], hnodup, hmem, ?_⟩
    rw [hpacers, hcount]
    rfl
  · obtain ⟨t1, -, hstart', hpassed⟩ := (Pacer.expiryDue_iff x s.timestamp).mp hdue
    cases hstart.symm.trans hstart'
    exact absurd hpassed (Nat.not_le.mpr hbefore)

end Sys2Proof.Machine

/-! SUPPORT. The lane requests that move a lane between its states (R26 to R28), and what a lane does with a count event (R22 to
R25). -/

namespace Sys2Proof.Machine

/-! ### LANE_ARM, LANE_PAUSE and LANE_RESUME by the state of the lane -/

theorem State.laneHeld_eq_false {s : State} {l : LaneId}
    (h : ¬ ∃ n : SafeId, s.safes[n].hold = true ∧ s.safes[n].binding.getLsbD l.val = true) : s.laneHeld l = false :=
  Bool.eq_false_of_not_eq_true (mt (s.laneHeld_iff l).mp h)

/-- A lane that becomes what it is. -/
theorem laneBecomes_self (s : State) (l : LaneId) : laneBecomes s l s.lanes[l] = ⟨s, okReply [s.lanes[l].state.code]⟩ := by
  simp [laneBecomes, State.setLane]

section
variable {b : Byte} {l : LaneId} (hl : b.toNat = l.val) {s : State}
include hl

theorem laneArm_off (hoff : s.lanes[l].state = .off) (hfree : s.laneHeld l = false) : laneArm [b] s =
    ⟨s.setLane l { s.lanes[l] with state := .armed, mark := s.lanePosition l }, [0, 0, 1]⟩ := by
  simp only [laneArm, index?_eq (n := u8 [b] 0) l hl, hoff, hfree, Bool.false_eq_true, if_false]
  rfl

theorem laneArm_held (hoff : s.lanes[l].state = .off) (hheld : s.laneHeld l = true) : laneArm [b] s = ⟨s, [1, 3, 0]⟩ := by
  simp only [laneArm, index?_eq (n := u8 [b] 0) l hl, hoff, hheld, if_true]
  rfl

theorem laneArm_paused (hpaused : s.lanes[l].state = .paused) :
    laneArm [b] s = ⟨s.setLane l { s.lanes[l] with state := .armed }, [0, 0, 1]⟩ := by
  simp only [laneArm, index?_eq (n := u8 [b] 0) l hl, hpaused]
  rfl

theorem laneArm_armed (harmed : s.lanes[l].state = .armed) : laneArm [b] s = ⟨s, [0, 0, 1]⟩ := by
  simp only [laneArm, index?_eq (n := u8 [b] 0) l hl, harmed, laneBecomes_self]
  rfl

theorem laneArm_halted (hhalted : s.lanes[l].state = .halted) : laneArm [b] s = ⟨s, [1, 2, 0]⟩ := by
  simp only [laneArm, index?_eq (n := u8 [b] 0) l hl, hhalted]
  rfl

theorem lanePause_armed (harmed : s.lanes[l].state = .armed) :
    lanePause [b] s = ⟨s.setLane l { s.lanes[l] with state := .paused }, [0, 0, 2]⟩ := by
  simp only [lanePause, index?_eq (n := u8 [b] 0) l hl, harmed]
  rfl

theorem lanePause_paused (hpaused : s.lanes[l].state = .paused) : lanePause [b] s = ⟨s, [0, 0, 2]⟩ := by
  simp only [lanePause, index?_eq (n := u8 [b] 0) l hl, hpaused, laneBecomes_self]
  rfl

/-- Log entry 15. -/
theorem lanePause_badState (hstate : s.lanes[l].state = .off ∨ s.lanes[l].state = .halted) :
    lanePause [b] s = ⟨s, [1, 2, s.lanes[l].state.code]⟩ := by
  rcases hstate with hstate | hstate <;> simp only [lanePause, index?_eq (n := u8 [b] 0) l hl, hstate] <;> rfl

theorem laneResume_halted (hhalted : s.lanes[l].state = .halted) (hfree : s.laneHeld l = false) :
    laneResume [b] s = ⟨s.setLane l { s.lanes[l] with state := .paused }, [0, 0, 2]⟩ := by
  simp only [laneResume, index?_eq (n := u8 [b] 0) l hl, hhalted, hfree, Bool.false_eq_true, if_false]
  rfl

theorem laneResume_held (hhalted : s.lanes[l].state = .halted) (hheld : s.laneHeld l = true) :
    laneResume [b] s = ⟨s, [1, 3, 0]⟩ := by
  simp only [laneResume, index?_eq (n := u8 [b] 0) l hl, hhalted, hheld, if_true]
  rfl

theorem laneResume_badState (hstate : s.lanes[l].state ≠ .halted) : laneResume [b] s = ⟨s, [1, 2, 0]⟩ := by
  simp only [laneResume, index?_eq (n := u8 [b] 0) l hl]
  cases hlane : s.lanes[l].state with
  | halted => exact absurd hlane hstate
  | off | armed | paused => rfl

end

/-- A lane number that no lane has. -/
theorem laneState_badField {b : Byte} (h : 3 < b.toNat) (s : State) :
    laneArm [b] s = ⟨s, [1, 1, 0]⟩ ∧ lanePause [b] s = ⟨s, [1, 1, 0]⟩ ∧ laneResume [b] s = ⟨s, [1, 1, 0]⟩ := by
  have hnone : index? 4 (u8 [b] 0) = none := index?_none h
  simp only [laneArm, lanePause, laneResume, hnone]
  exact ⟨rfl, rfl, rfl⟩

section
variable {b : Byte} {s t : State} {reply : List Byte} (hfree : LinkFree s) (tag : Byte)
include hfree

theorem exec_laneArm (h : laneArm [b] s.closeUnlock = ⟨t.closeUnlock, reply⟩) :
    exec (.laneArm tag [b]) s = .next (replied t 0x91 tag reply) := arrive_answer hfree rfl rfl h

theorem exec_lanePause (h : lanePause [b] s.closeUnlock = ⟨t.closeUnlock, reply⟩) :
    exec (.lanePause tag [b]) s = .next (replied t 0x92 tag reply) := arrive_answer hfree rfl rfl h

theorem exec_laneResume (h : laneResume [b] s.closeUnlock = ⟨t.closeUnlock, reply⟩) :
    exec (.laneResume tag [b]) s = .next (replied t 0x93 tag reply) := arrive_answer hfree rfl rfl h

end

/-- Settles O32, a clause for each request and state of the lane. -/
theorem laneStateRequestsFollowTheTable : Obligations.LaneStateRequestsFollowTheTable := by
  intro tag b s hfree
  constructor
  · intro l hl x held becomes
    have hheld (h : held) : s.closeUnlock.laneHeld l = true := (s.laneHeld_iff l).mpr h
    have hfreed (h : ¬ held) : s.closeUnlock.laneHeld l = false := State.laneHeld_eq_false (s := s.closeUnlock) h
    exact ⟨fun hoff hno => exec_laneArm hfree tag (laneArm_off (s := s.closeUnlock) hl hoff (hfreed hno)),
      fun hoff h => exec_laneArm hfree tag (laneArm_held (s := s.closeUnlock) hl hoff (hheld h)),
      fun h => exec_laneArm hfree tag (laneArm_paused (s := s.closeUnlock) hl h),
      fun h => exec_laneArm hfree tag (laneArm_armed (s := s.closeUnlock) hl h),
      fun h => exec_laneArm hfree tag (laneArm_halted (s := s.closeUnlock) hl h),
      fun h => exec_lanePause hfree tag (lanePause_armed (s := s.closeUnlock) hl h),
      fun h => exec_lanePause hfree tag (lanePause_paused (s := s.closeUnlock) hl h),
      fun h => exec_lanePause hfree tag (lanePause_badState (s := s.closeUnlock) hl h),
      fun h hno => exec_laneResume hfree tag (laneResume_halted (s := s.closeUnlock) hl h (hfreed hno)),
      fun h hh => exec_laneResume hfree tag (laneResume_held (s := s.closeUnlock) hl h (hheld hh)),
      fun h => exec_laneResume hfree tag (laneResume_badState (s := s.closeUnlock) hl h)⟩
  · intro hout
    obtain ⟨harm, hpause, hresume⟩ := laneState_badField hout s.closeUnlock
    exact ⟨exec_laneArm hfree tag harm, exec_lanePause hfree tag hpause, exec_laneResume hfree tag hresume⟩

/-! ### A count event at a lane -/

theorem Direction.forward_iff (d : Direction) (up : Bool) :
    d.forward up = true ↔ (d = .same ∧ up = true) ∨ (d = .opposite ∧ up = false) := by
  cases d <;> cases up <;> decide

/-- A count taken with lag 0 leaves the lane position one ahead of the mark. -/
theorem lagBefore_eq_zero_iff (mark position : Position) : (mark - (position - 1)).toNat = 0 ↔ position = mark + 1 := by
  bv_omega

section
variable {s : State} {l : LaneId} {up : Bool}

theorem State.laneCount_off (hoff : s.lanes[l].state = .off) : State.laneCount up s l = s := if_pos hoff

variable (hon : s.lanes[l].state ≠ .off)
include hon

/-- Forward with a lag. -/
theorem State.laneCount_lagging (hforward : s.lanes[l].settings.direction.forward up = true)
    (hlag : s.lanePosition l ≠ s.lanes[l].mark + 1) : State.laneCount up s l = s := by
  simp only [State.laneCount, if_neg hon, if_pos hforward, if_neg hlag]

/-- Forward with lag 0: the mark moves on (R22). -/
theorem State.laneCount_marks (hforward : s.lanes[l].settings.direction.forward up = true)
    (hlag : s.lanePosition l = s.lanes[l].mark + 1) :
    State.laneCount up s l = (s.setLane l { s.lanes[l] with mark := s.lanes[l].mark + 1 }).checkHead l := by
  simp only [State.laneCount, if_neg hon, if_pos hforward, if_pos hlag]

theorem State.laneCount_reverse (hreverse : ¬ s.lanes[l].settings.direction.forward up = true) :
    State.laneCount up s l = s.checkReverse l := by
  simp only [State.laneCount, if_neg hon, if_neg hreverse]

end

section
variable {s : State} {l : LaneId}

/-- R25: no reverse limit, or a lag within it. -/
theorem State.checkReverse_within (h : s.lanes[l].settings.reverseLimit = 0 ∨ s.lag l ≤ s.lanes[l].settings.reverseLimit) :
    s.checkReverse l = s := if_neg (by omega)

variable (hlimit : s.lanes[l].settings.reverseLimit ≠ 0) (hexcess : s.lanes[l].settings.reverseLimit < s.lag l)
include hlimit hexcess

theorem State.checkReverse_armed (harmed : s.lanes[l].state = .armed) :
    s.checkReverse l = { s.latch (.reverse l) with lanes := s.lanes.set l { s.lanes[l] with state := .paused } } := by
  simp only [State.checkReverse, if_pos (And.intro hlimit hexcess), harmed, State.setLane, State.latch_lanes]

theorem State.checkReverse_notArmed (hstate : s.lanes[l].state ≠ .armed) : s.checkReverse l = s.latch (.reverse l) := by
  simp only [State.checkReverse, if_pos (And.intro hlimit hexcess)]

end

/-! ### The head that the mark reaches (R23) -/

section
variable {s : State} {l : LaneId} {h : Handle} {rest : List Handle} {sh : Shot} (hqueue : s.lanes[l].queue = h :: rest)
  (hshot : s.slots[h].shot = some sh)
include hqueue hshot

/-- The head has left its queue, and the reference of its program is gone. -/
theorem State.reach_armed (harmed : s.lanes[l].state = .armed) :
    s.reach l h = ((s.setLane l { s.lanes[l] with queue := rest }).decRef sh.program).fireAttempt h := by
  simp only [State.reach, hqueue, List.tail_cons, harmed, State.dropRef, State.setLane_slots, hshot]

theorem State.reach_passed (hstate : s.lanes[l].state = .paused ∨ s.lanes[l].state = .halted) :
    s.reach l h = ((s.setLane l { s.lanes[l] with queue := rest }).decRef sh.program).endShot h .passed := by
  rcases hstate with hstate | hstate <;>
    simp only [State.reach, hqueue, List.tail_cons, hstate, State.dropRef, State.setLane_slots, hshot]

end

/-- Settles O34: the direction, the lag before the count and the lane state choose the case. -/
theorem laneTakesACountEvent : Obligations.LaneTakesACountEvent := by
  intro up l s x forward lagBefore lag moved
  have hforward : x.settings.direction.forward up = true ↔ forward := Direction.forward_iff _ _
  have hlag : lagBefore = 0 ↔ s.lanePosition l = x.mark + 1 := lagBefore_eq_zero_iff _ _
  refine ⟨State.laneCount_off, fun hon hfwd hlagging => State.laneCount_lagging hon (hforward.mpr hfwd) fun h => ?lagging,
    fun hon hfwd hzero => ?marks, fun hon hrev hwithin => ?within, fun hon hrev hlimit hexcess => ?excess⟩
  case lagging => exact hlagging.ne' (hlag.mpr h)
  case marks =>
    have hmarks := State.laneCount_marks hon (hforward.mpr hfwd) (hlag.mp hzero)
    have hself : (s.setLane l moved).lanes[l] = moved := Vector.getElem_set_self ..
    refine ⟨(hlag.mp hzero).symm, fun hempty => ?_, ?_⟩
    · exact hmarks.trans (State.checkHead_nil (by rw [hself]; exact hempty))
    · intro h rest sh hqueue hshot left
      have hqueue : (s.setLane l moved).lanes[l].queue = h :: rest := by rw [hself]; exact hqueue
      have hcheck := State.checkHead_cons hqueue hshot
      have harmed := State.reach_armed hqueue hshot
      have hpassed := State.reach_passed hqueue hshot
      have hleft : ((s.setLane l moved).setLane l { moved with queue := rest }).decRef sh.program = left := by
        simp [State.setLane, State.decRef, State.setProgram, left]
      rw [hself] at hcheck harmed hpassed
      rw [hleft] at harmed hpassed
      exact ⟨fun hne => hmarks.trans (hcheck.trans (if_neg hne)),
        fun heq h => hmarks.trans (hcheck.trans ((if_pos heq).trans (harmed h))),
        fun heq h => hmarks.trans (hcheck.trans ((if_pos heq).trans (hpassed h)))⟩
  case within => exact (State.laneCount_reverse hon (mt hforward.mp hrev)).trans (State.checkReverse_within hwithin)
  case excess =>
    have hreverse := State.laneCount_reverse hon (mt hforward.mp hrev)
    exact ⟨fun harmed => hreverse.trans (State.checkReverse_armed hlimit hexcess harmed),
      fun hstate => hreverse.trans (State.checkReverse_notArmed hlimit hexcess hstate)⟩

end Sys2Proof.Machine

/-! SUPPORT. What an operation on the shots neither looks at nor touches: the unlock flag, and the link but for its reports. CANCEL and
SHOT_READ (R48, R50). -/

namespace Sys2Proof.Machine

/-! ### Beside the unlock flag and the link -/

/-- The state with its unlock flag and its link changed. -/
def State.beside (s : State) (υ : Bool → Bool) (φ : Link → Link) : State := { s with unlock := υ s.unlock, link := φ s.link }

theorem linkAside_id : LinkAside id := ⟨fun _ => rfl, fun _ => rfl, fun _ _ _ => rfl⟩

theorem State.closeUnlock_eq_beside (s : State) : s.closeUnlock = s.beside (fun _ => false) id := rfl

section
variable {φ : Link → Link} (aside : LinkAside φ) (υ : Bool → Bool)
include aside

theorem State.queueReport_beside (s : State) (r : Report) : (s.beside υ φ).queueReport r = (s.queueReport r).beside υ φ := by
  have honLink := State.queueReport_onLink aside s r
  calc (s.beside υ φ).queueReport r
      = { (s.onLink φ).queueReport r with unlock := υ s.unlock } := by
        unfold State.queueReport
        rw [show (s.beside υ φ).phase = s.phase from rfl, show (s.onLink φ).phase = s.phase from rfl]
        split <;> rfl
    _ = (s.queueReport r).beside υ φ := by rw [honLink, State.beside, State.queueReport_unlock]; rfl

theorem State.latch_beside (s : State) (a : Alarm) : (s.beside υ φ).latch a = (s.latch a).beside υ φ := by
  unfold State.latch
  rw [show (s.beside υ φ).alarms = s.alarms from rfl]
  split
  · rfl
  · dsimp only
    split
    · exact State.queueReport_beside aside υ (s.setAlarms ⟨s.alarms.latched ||| a.mask, s.alarms.enabled⟩) _
    · rfl

theorem State.appendOutcome_beside (s : State) (r : OutcomeRecord) :
    (s.beside υ φ).appendOutcome r = (s.appendOutcome r).beside υ φ := by
  unfold State.appendOutcome
  rw [show (s.beside υ φ).outcomes = s.outcomes from rfl]
  split
  · dsimp only
    split
    · exact State.queueReport_beside aside υ (s.setOutcomes (s.outcomes ++ [r])) _
    · rfl
  · exact State.latch_beside aside υ s _

theorem State.endShot_beside (s : State) (h : Handle) (code : OutcomeCode) :
    (s.beside υ φ).endShot h code = (s.endShot h code).beside υ φ := by
  unfold State.endShot
  rw [show (s.beside υ φ).slots = s.slots from rfl]
  split
  · rfl
  · exact State.appendOutcome_beside aside υ (s.setSlot h _) _

omit aside in
theorem State.dropRef_beside (s : State) (h : Handle) : (s.beside υ φ).dropRef h = (s.dropRef h).beside υ φ := by
  unfold State.dropRef
  rw [show (s.beside υ φ).slots = s.slots from rfl]
  split <;> rfl

theorem State.flushShot_beside (s : State) (h : Handle) : (s.beside υ φ).flushShot h = (s.flushShot h).beside υ φ := by
  rw [State.flushShot, State.dropRef_beside, State.endShot_beside aside, State.flushShot]

omit aside in
/-- A fold of an operation that goes on beside the flag and the link does so too. -/
theorem foldl_beside {α : Type} {g : State → α → State} (h : ∀ s x, g (s.beside υ φ) x = (g s x).beside υ φ) (xs : List α)
    (s : State) : xs.foldl g (s.beside υ φ) = (xs.foldl g s).beside υ φ := by
  induction xs generalizing s with
  | nil => rfl
  | cons x xs ih => rw [List.foldl_cons, h, ih, List.foldl_cons]

theorem State.disarm_beside (s : State) (l : LaneId) : (s.beside υ φ).disarm l = (s.disarm l).beside υ φ :=
  foldl_beside υ (State.flushShot_beside aside υ) s.lanes[l].queue (s.setLane l { s.lanes[l] with queue := [], state := .off })

theorem State.cancelShot_beside (s : State) (h : Handle) (sh : Shot) :
    (s.beside υ φ).cancelShot h sh = (s.cancelShot h sh).beside υ φ :=
  State.endShot_beside aside υ ((s.setLane sh.lane _).decRef sh.program) h .cancelled

end

/-! ### CANCEL (R48) -/

/-- The handle leaves its queue, the reference of its program is gone, and the shot ends. -/
theorem State.cancelShot_eq (s : State) (h : Handle) (sh : Shot) : s.cancelShot h sh = State.endShot { s with
    lanes := s.lanes.set sh.lane { s.lanes[sh.lane] with queue := s.lanes[sh.lane].queue.filter (fun j => j ≠ h) }
    programs := s.programs.set sh.program { s.programs[sh.program] with
      refCount := s.programs[sh.program].refCount - 1 } } h .cancelled := by
  have hother : (fun j => j != h) = fun j => decide (j ≠ h) := funext fun j => by rw [decide_not]; rfl
  simp only [State.cancelShot, hother]
  rfl

section
variable {a b : Byte} {h : Handle} (ha : a.toNat = h.val) {s : State}
include ha

theorem cancel_queued {sh : Shot} (hwaits : s.waits h sh) (hgeneration : s.slots[h].generation = b) :
    cancel [a, b] s = ⟨s.cancelShot h sh, [0, 0, 0, b, 0]⟩ := by
  have hhandle : handleAt [a, b] 0 = h := handleAt_eq ha
  have hbyte : generationAt [a, b] 1 = b := (eq_generationAt_iff _ _ _).mpr rfl |>.symm
  have hslots : (s.cancelShot h sh).slots = s.slots.set h ⟨s.slots[h].generation, none⟩ :=
    State.endShot_slots _ h .cancelled sh hwaits.1
  have hfreed : (s.cancelShot h sh).slots[h] = ⟨b, none⟩ := by
    rw [hslots, vector_getElem_set, if_pos rfl, hgeneration]
  simp only [cancel, hhandle, State.queuedShot_eq_some hwaits, hbyte, if_pos hgeneration, State.cancelBytes, hfreed]
  rfl

theorem cancel_mismatch {sh : Shot} (hwaits : s.waits h sh) (hgeneration : s.slots[h].generation ≠ b) :
    cancel [a, b] s = ⟨s, [1, 10, 0, s.slots[h].generation, 1]⟩ := by
  have hhandle : handleAt [a, b] 0 = h := handleAt_eq ha
  have hbyte : generationAt [a, b] 1 = b := (eq_generationAt_iff _ _ _).mpr rfl |>.symm
  have hstate : s.slots[h].stateCode = 1 := by rw [Slot.stateCode, hwaits.1]; exact congrArg ShotPhase.code hwaits.2
  simp only [cancel, hhandle, State.queuedShot_eq_some hwaits, hbyte, if_neg hgeneration, State.cancelBytes, hstate]
  rfl

theorem cancel_gone (hno : ¬ ∃ sh, s.waits h sh) :
    cancel [a, b] s = ⟨s, [1, 11, 0, s.slots[h].generation, s.slots[h].stateCode]⟩ := by
  have hhandle : handleAt [a, b] 0 = h := handleAt_eq ha
  simp only [cancel, hhandle, State.queuedShot_eq_none hno, State.cancelBytes]
  rfl

end

theorem Slot.stateCode_of_shot {x : Slot} {sh : Shot} (h : x.shot = some sh) : x.stateCode = sh.phase.code := by
  simp only [Slot.stateCode, h]

theorem Slot.stateCode_of_free {x : Slot} (h : x.shot = none) : x.stateCode = 0 := by simp only [Slot.stateCode, h]

theorem exec_cancel {a b : Byte} {s t : State} {reply : List Byte} (hfree : LinkFree s) (tag : Byte)
    (h : cancel [a, b] s.closeUnlock = ⟨t.closeUnlock, reply⟩) :
    exec (.cancel tag [a, b]) s = .next (replied t 0x99 tag reply) := arrive_answer hfree rfl rfl h

/-! ### SHOT_READ (R50) -/

theorem shotRead_free {a : Byte} {h : Handle} (ha : a.toNat = h.val) {s : State} (hnone : s.slots[h].shot = none) :
    shotRead [a] s = ⟨s, [0, 0, 0, s.slots[h].generation] ++ zeros 51⟩ := by
  have hhandle : handleAt [a] 0 = h := handleAt_eq ha
  simp only [shotRead, hhandle, hnone, Slot.stateCode_of_free hnone]
  rfl

theorem shotRead_shot {a : Byte} {h : Handle} (ha : a.toNat = h.val) {s : State} {sh : Shot} (hshot : s.slots[h].shot = some sh) :
    shotRead [a] s = ⟨s, [0, 0, sh.phase.code, s.slots[h].generation] ++ s.shotBytes h sh⟩ := by
  have hhandle : handleAt [a] 0 = h := handleAt_eq ha
  simp only [shotRead, hhandle, hshot, Slot.stateCode_of_shot hshot]
  rfl

/-- The queue place and the ahead-distance of a QUEUED shot (R50). -/
theorem State.placeBytes_eq {s : State} {h : Handle} {sh : Shot} (hshot : s.slots[h].shot = some sh) : s.placeBytes h sh =
    if sh.phase = .queued then le1 (s.lanes[sh.lane].queue.idxOf h) ++ le4 (sh.trigger - s.lanes[sh.lane].mark).toNat
    else [0, 0, 0, 0, 0] := by
  simp only [State.placeBytes, State.aheadOf, Slot.trigger, hshot]
  rfl

/-- Settles O37: CANCEL by whether the slot is QUEUED and its generation expected, SHOT_READ by what the slot holds. -/
theorem cancelAndShotRead : Obligations.CancelAndShotRead := by
  constructor
  · intro tag a b h s hfree ha
    refine ⟨fun sh hshot hqueued => ⟨fun hgeneration => ?cancelled, fun hgeneration => ?mismatch⟩, fun hnone => ?free,
      fun sh hshot hphase => ?fired⟩
    case cancelled =>
      refine exec_cancel hfree tag ((cancel_queued (s := s.closeUnlock) ha ⟨hshot, hqueued⟩ hgeneration).trans ?_)
      rw [← State.cancelShot_eq]
      exact congrArg (Answer.mk · _) (State.cancelShot_beside linkAside_id (fun _ => false) s h sh)
    case mismatch => exact exec_cancel hfree tag (cancel_mismatch (s := s.closeUnlock) ha ⟨hshot, hqueued⟩ hgeneration)
    case free =>
      have hgone := cancel_gone (b := b) (s := s.closeUnlock) ha fun ⟨sh, hshot, _⟩ => by cases hnone.symm.trans hshot
      rw [Slot.stateCode_of_free (by exact hnone)] at hgone
      exact exec_cancel hfree tag hgone
    case fired =>
      have hgone := cancel_gone (b := b) (s := s.closeUnlock) ha fun ⟨sh', hshot', hqueued⟩ => by
        cases hshot.symm.trans hshot'; exact hphase hqueued
      rw [Slot.stateCode_of_shot (by exact hshot)] at hgone
      exact exec_cancel hfree tag hgone
  · intro tag a h s hfree ha g
    refine ⟨fun hnone => arrive_answer hfree rfl rfl (shotRead_free (s := s.closeUnlock) ha hnone), fun sh hshot => ?_⟩
    refine (arrive_answer hfree rfl rfl (shotRead_shot (s := s.closeUnlock) ha hshot)).trans ?_
    simp only [State.shotBytes, State.placeBytes_eq (s := s.closeUnlock) hshot, optBytes, Option.isSome_map, List.append_assoc]
    rfl

end Sys2Proof.Machine

/-! SUPPORT. LANE_DISARM (R30): what a flush of a queue leaves, part by part. -/

namespace Sys2Proof.Machine

/-! ### One shot flushed -/

/-- The outcome record of the shot in a slot as it is flushed; a FREE slot has none. -/
def State.flushedRecord (s : State) (h : Handle) : Option OutcomeRecord :=
  (s.slots[h].shot).map (fun sh => outcomeOf h s.slots[h].generation sh .flushed)

/-- A waiting shot that is flushed: the reference of its program is gone, its slot is FREE and its record is appended. -/
theorem State.flushShot_eq {s : State} {h : Handle} {sh : Shot} (hshot : s.slots[h].shot = some sh) : s.flushShot h =
    ((s.decRef sh.program).setSlot h ⟨s.slots[h].generation, none⟩).appendOutcome
      (outcomeOf h s.slots[h].generation sh .flushed) := by
  rw [State.flushShot, State.dropRef, hshot]
  exact State.endShot_of_shot (s := s.decRef sh.program) hshot .flushed

theorem State.flushShot_slots {s : State} {h : Handle} {sh : Shot} (hshot : s.slots[h].shot = some sh) (j : Handle) :
    (s.flushShot h).slots[j] = if h = j then ⟨s.slots[h].generation, none⟩ else s.slots[j] := by
  rw [State.flushShot_eq hshot, State.appendOutcome_slots]
  exact State.setSlot_at (s.decRef sh.program) h j _

/-- A program that a QUEUED shot names loses a reference as the shot is flushed. -/
theorem State.flushShot_programs {s : State} {h : Handle} {sh : Shot} (hwaits : s.waits h sh) (i : ProgramId) :
    (s.flushShot h).programs[i] =
      { s.programs[i] with refCount := s.programs[i].refCount - if s.waitsFor i h then 1 else 0 } := by
  have hnames : s.waitsFor i h = (sh.program == i) := by
    simp only [State.waitsFor, hwaits.1, hwaits.2]
    rfl
  rw [State.flushShot_eq hwaits.1, State.appendOutcome_programs, hnames]
  refine (State.setProgram_at s sh.program i _).trans ?_
  split
  next heq => subst heq; simp
  next hne => simp [hne]

/-- The outcome queue after an append: the record is the youngest, or is dropped at 64. -/
theorem State.appendOutcome_outcomes {s : State} (hfit : s.outcomes.length ≤ 64) (r : OutcomeRecord) :
    (s.appendOutcome r).outcomes = (s.outcomes ++ [r]).take 64 := by
  by_cases hroom : s.outcomes.length < 64
  · rw [(State.appendOutcome_appends r hroom).1, List.take_of_length_le]
    rw [List.length_append]
    exact hroom
  · have hfull : s.outcomes.length = 64 := by omega
    rw [State.appendOutcome_of_full r hfull.ge, State.latch_outcomes, List.take_left' hfull]

/-- A flush of one slot leaves the others as they were. -/
theorem State.flushShot_others {s : State} {h j : Handle} {sh : Shot} (hshot : s.slots[h].shot = some sh) (hne : h ≠ j) :
    (∀ x, (s.flushShot h).waits j x ↔ s.waits j x) ∧ (∀ i, (s.flushShot h).waitsFor i j = s.waitsFor i j) ∧
    (s.flushShot h).flushedRecord j = s.flushedRecord j := by
  have hslot : (s.flushShot h).slots[j] = s.slots[j] := by rw [State.flushShot_slots hshot, if_neg hne]
  refine ⟨fun x => ?_, fun i => ?_, ?_⟩
  · rw [State.waits, hslot, State.waits]
  · rw [State.waitsFor, hslot, State.waitsFor]
  · rw [State.flushedRecord, hslot, State.flushedRecord]

/-! ### The alarms and the link -/

/-- What the reports of a step are made of. -/
def State.voice (s : State) : AlarmSet × Link := (s.alarms, s.link)

/-- An alarm latches by the alarms, the phase and the link alone. -/
theorem State.latch_voice {s t : State} (hphase : s.phase = t.phase) (hvoice : s.voice = t.voice) (a : Alarm) :
    (s.latch a).voice = (t.latch a).voice := by
  obtain ⟨halarms, hlink⟩ := Prod.mk.inj hvoice
  simp only [State.latch, State.queueReport, State.setAlarms, State.setLink, hphase, halarms, hlink]
  split
  · exact hvoice
  · split
    · split <;> rfl
    · rfl

theorem State.queueReport_voice {s t : State} (hphase : s.phase = t.phase) (hvoice : s.voice = t.voice) (r : Report) :
    (s.queueReport r).voice = (t.queueReport r).voice := by
  obtain ⟨halarms, hlink⟩ := Prod.mk.inj hvoice
  simp only [State.queueReport, State.setLink, hphase, hlink]
  split <;> exact Prod.ext halarms rfl

/-- The part told of the first record of an empty outcome queue (R145). -/
def State.told (s : State) (q : List Handle) : State :=
  if q = [] ∨ s.outcomes ≠ [] then s else s.queueReport .outcomeReady

section
variable {s : State} {h : Handle} {sh : Shot} (hshot : s.slots[h].shot = some sh)
include hshot

theorem State.flushShot_voice_empty (hempty : s.outcomes = []) :
    (s.flushShot h).voice = (s.queueReport .outcomeReady).voice := by
  rw [State.flushShot_eq hshot, State.appendOutcome_of_empty _ (by exact hempty)]
  exact State.queueReport_voice (s := ((s.decRef sh.program).setSlot h _).setOutcomes _) (t := s) rfl rfl _

theorem State.flushShot_voice_room (hsome : s.outcomes ≠ []) (hroom : s.outcomes.length < 64) :
    (s.flushShot h).voice = s.voice := by
  rw [State.flushShot_eq hshot, State.appendOutcome_of_room _ (by exact hsome) (by exact hroom)]
  rfl

theorem State.flushShot_voice_full (hfull : 64 ≤ s.outcomes.length) :
    (s.flushShot h).voice = (s.latch .outcomeOverflow).voice := by
  rw [State.flushShot_eq hshot, State.appendOutcome_of_full _ (by exact hfull)]
  exact State.latch_voice (s := (s.decRef sh.program).setSlot h _) (t := s) rfl rfl _

end

/-! ### A queue flushed -/

/-- The shots of a list wait, each once. -/
def State.waitsAll (s : State) (q : List Handle) : Prop := q.Nodup ∧ ∀ h ∈ q, ∃ sh, s.waits h sh

/-- The first of them waits, and once it is flushed the rest still do. -/
theorem State.waitsAll_cons {s : State} {h : Handle} {q : List Handle} (hall : s.waitsAll (h :: q)) :
    ∃ sh, s.waits h sh ∧ (∀ j ∈ q, h ≠ j) ∧ (s.flushShot h).waitsAll q := by
  obtain ⟨hnodup, hwaits⟩ := hall
  obtain ⟨hnew, hrest⟩ := List.nodup_cons.mp hnodup
  obtain ⟨sh, hsh⟩ := hwaits h List.mem_cons_self
  have hne (j : Handle) (hj : j ∈ q) : h ≠ j := fun heq => hnew (heq ▸ hj)
  refine ⟨sh, hsh, hne, hrest, fun j hj => ?_⟩
  obtain ⟨x, hx⟩ := hwaits j (List.mem_cons_of_mem _ hj)
  exact ⟨x, ((State.flushShot_others hsh.1 (hne j hj)).1 x).mpr hx⟩

theorem flushShots_slots {q : List Handle} {s : State} (hall : s.waitsAll q) (j : Handle) :
    (q.foldl State.flushShot s).slots[j] = if j ∈ q then ⟨s.slots[j].generation, none⟩ else s.slots[j] := by
  induction q generalizing s with
  | nil => rfl
  | cons h q ih =>
    obtain ⟨sh, hwaits, hne, hrest⟩ := State.waitsAll_cons hall
    rw [List.foldl_cons, ih hrest, State.flushShot_slots hwaits.1]
    by_cases hj : h = j
    · subst hj
      rw [if_neg fun hmem => hne h hmem rfl, if_pos rfl, if_pos List.mem_cons_self]
    · simp only [if_neg hj, List.mem_cons, Ne.symm hj, false_or]

theorem flushShots_programs {q : List Handle} {s : State} (hall : s.waitsAll q) (i : ProgramId) :
    (q.foldl State.flushShot s).programs[i] =
      { s.programs[i] with refCount := s.programs[i].refCount - q.countP (s.waitsFor i) } := by
  induction q generalizing s with
  | nil => rfl
  | cons h q ih =>
    obtain ⟨sh, hwaits, hne, hrest⟩ := State.waitsAll_cons hall
    have hsame : q.countP ((s.flushShot h).waitsFor i) = q.countP (s.waitsFor i) :=
      List.countP_congr fun j hj => by rw [(State.flushShot_others hwaits.1 (hne j hj)).2.1 i]
    rw [List.foldl_cons, ih hrest, State.flushShot_programs hwaits, hsame, List.countP_cons, Nat.sub_sub, Nat.add_comm]

theorem State.flushShot_outcomes {s : State} {h : Handle} {sh : Shot} (hshot : s.slots[h].shot = some sh)
    (hfit : s.outcomes.length ≤ 64) :
    (s.flushShot h).outcomes = (s.outcomes ++ [outcomeOf h s.slots[h].generation sh .flushed]).take 64 := by
  rw [State.flushShot_eq hshot]
  exact State.appendOutcome_outcomes (s := (s.decRef sh.program).setSlot h _) hfit _

/-- What a list is cut to, it may be cut to before more is appended. -/
theorem take_take_append {α : Type} (n : Nat) (xs ys : List α) : (xs.take n ++ ys).take n = (xs ++ ys).take n := by
  rcases Nat.le_total xs.length n with h | h
  · rw [List.take_of_length_le h]
  · rw [List.take_append_of_le_length (by rw [List.length_take]; omega), List.take_append_of_le_length h, List.take_take, min_self]

theorem flushShots_outcomes {q : List Handle} {s : State} (hall : s.waitsAll q) (hfit : s.outcomes.length ≤ 64) :
    (q.foldl State.flushShot s).outcomes = (s.outcomes ++ q.filterMap s.flushedRecord).take 64 := by
  induction q generalizing s with
  | nil => rw [List.filterMap_nil, List.append_nil, List.take_of_length_le hfit]; rfl
  | cons h q ih =>
    obtain ⟨sh, hwaits, hne, hrest⟩ := State.waitsAll_cons hall
    have hfirst : s.flushedRecord h = some (outcomeOf h s.slots[h].generation sh .flushed) := by
      rw [State.flushedRecord, hwaits.1]; rfl
    have happend := State.flushShot_outcomes hwaits.1 hfit
    have hsame : q.filterMap (s.flushShot h).flushedRecord = q.filterMap s.flushedRecord :=
      List.filterMap_congr fun j hj => (State.flushShot_others hwaits.1 (hne j hj)).2.2
    rw [List.foldl_cons, ih hrest (by rw [happend]; exact List.length_take_le _ _), happend, hsame,
      List.filterMap_cons_some hfirst]
    exact (take_take_append _ _ _).trans (by rw [List.append_assoc]; rfl)

/-- The first record of an empty queue is told, and the first that finds it full latches the alarm. -/
theorem flushShots_voice {q : List Handle} {s : State} (hall : s.waitsAll q) (hfit : s.outcomes.length ≤ 64) :
    (q.foldl State.flushShot s).voice =
      (if s.outcomes.length + q.length ≤ 64 then s.told q else (s.told q).latch .outcomeOverflow).voice := by
  induction q generalizing s with
  | nil => rw [if_pos (by exact hfit)]; rfl
  | cons h q ih =>
    obtain ⟨sh, hwaits, -, hrest⟩ := State.waitsAll_cons hall
    have happend := State.flushShot_outcomes hwaits.1 hfit
    have hlength : (s.flushShot h).outcomes.length = min 64 (s.outcomes.length + 1) := by
      rw [happend, List.length_take, List.length_append, List.length_singleton]
    have htold : (s.flushShot h).told q = s.flushShot h := if_pos (.inr fun hnil => by rw [hnil, List.length_nil] at hlength; omega)
    have hphase : (s.flushShot h).phase = s.phase := by simp [State.flushShot]
    rw [List.foldl_cons, ih hrest (by omega), htold, hlength, List.length_cons]
    by_cases hfull : s.outcomes.length = 64
    · have hsilent : s.told (h :: q) = s := if_pos (.inr fun hnil => by simp [hnil] at hfull)
      have hfirst := State.flushShot_voice_full hwaits.1 hfull.ge
      have hlatched : ((s.latch .outcomeOverflow).latch .outcomeOverflow) = s.latch .outcomeOverflow :=
        State.latch_of_latched (by simp)
      rw [if_neg (show ¬ s.outcomes.length + (q.length + 1) ≤ 64 by omega), hsilent]
      split
      · exact hfirst
      · rw [State.latch_voice (t := s.latch .outcomeOverflow) (by simp) hfirst, hlatched]
    · have hfirst : (s.flushShot h).voice = (s.told (h :: q)).voice := by
        by_cases hempty : s.outcomes = []
        · rw [State.told, if_neg (by simp [hempty])]
          exact State.flushShot_voice_empty hwaits.1 hempty
        · rw [State.told, if_pos (.inr hempty)]
          exact State.flushShot_voice_room hwaits.1 hempty (by omega)
      have htoldPhase : (s.told (h :: q)).phase = s.phase := by rw [State.told]; split <;> simp
      have hcount : min 64 (s.outcomes.length + 1) + q.length ≤ 64 ↔ s.outcomes.length + (q.length + 1) ≤ 64 := by omega
      simp only [hcount]
      split
      · exact hfirst
      · exact State.latch_voice (hphase.trans htoldPhase.symm) hfirst _

/-- A flush reaches the slots, the programs, the outcomes, the alarms and the link, and nothing else. -/
theorem flushShots_only (q : List Handle) (s : State) : q.foldl State.flushShot s = { s with
    slots := (q.foldl State.flushShot s).slots, programs := (q.foldl State.flushShot s).programs
    outcomes := (q.foldl State.flushShot s).outcomes, alarms := (q.foldl State.flushShot s).alarms
    link := (q.foldl State.flushShot s).link } := by
  induction q generalizing s with
  | nil => rfl
  | cons h q ih =>
    have hfirst : s.flushShot h = { s with
        slots := (s.flushShot h).slots, programs := (s.flushShot h).programs, outcomes := (s.flushShot h).outcomes
        alarms := (s.flushShot h).alarms, link := (s.flushShot h).link } := by
      cases hshot : s.slots[h].shot with
      | none => rw [State.flushShot, State.dropRef, hshot, State.endShot_free s h .flushed hshot]
      | some sh =>
        rw [State.flushShot_eq hshot, State.appendOutcome_slots, State.appendOutcome_programs]
        exact State.appendOutcome_only ((s.decRef sh.program).setSlot h ⟨s.slots[h].generation, none⟩) _
    rw [List.foldl_cons]
    refine (ih _).trans ?_
    rw [hfirst]

/-! ### LANE_DISARM -/

/-- The shots of a lane's queue wait, each once (R33). -/
theorem State.waitsAll_queue {s : State} (hpool : s.poolSound) (l : LaneId) : s.waitsAll s.lanes[l].queue := by
  obtain ⟨hnodup, hmem, -⟩ := hpool
  refine ⟨hnodup l, fun h hh => ?_⟩
  obtain ⟨sh, hwaits, -⟩ := (hmem l h).mp hh
  exact ⟨sh, hwaits⟩

theorem exec_laneDisarm {b : Byte} {l : LaneId} {s : State} (hfree : LinkFree s) (hl : b.toNat = l.val) (tag : Byte) :
    exec (.laneDisarm tag [b]) s = .next (replied (s.disarm l) 0x94 tag ([0, 0] ++ le2 s.lanes[l].queue.length)) := by
  refine arrive_answer hfree rfl rfl ?_
  simp only [laneDisarm, index?_eq (n := u8 [b] 0) l hl, s.closeUnlock_eq_beside,
    State.disarm_beside linkAside_id (fun _ => false) s l]
  rfl

theorem exec_laneDisarm_badField {b : Byte} {s : State} (hfree : LinkFree s) (h : 3 < b.toNat) (tag : Byte) :
    exec (.laneDisarm tag [b]) s = .next (replied s 0x94 tag [1, 1, 0, 0]) := by
  refine arrive_answer hfree rfl rfl ?_
  simp only [laneDisarm, index?_none (k := 4) (n := u8 [b] 0) h]
  rfl

/-- In service a report that finds no place is dropped, so the part told is the one the statement writes out. -/
theorem State.told_eq {s : State} (hrun : s.phase = .running) (q : List Handle) : s.told q =
    if q = [] ∨ s.outcomes ≠ [] ∨ 8 ≤ s.link.reports.length then s
    else { s with link := { s.link with reports := s.link.reports ++ [.outcomeReady] } } := by
  have hreport : s.queueReport .outcomeReady = s.setLink (s.link.queueReport .outcomeReady) := by rw [State.queueReport, hrun]
  by_cases hsilent : q = [] ∨ s.outcomes ≠ []
  · rw [State.told, if_pos hsilent, if_pos (hsilent.imp_right .inl)]
  · rw [State.told, if_neg hsilent, hreport]
    rcases Nat.lt_or_ge s.link.reports.length 8 with hroom | hfull
    · rw [Link.queueReport_of_room hroom, if_neg fun h => ?_]; rfl
      exact h.elim (fun hq => hsilent (.inl hq)) fun h => h.elim (fun ho => hsilent (.inr ho)) (Nat.not_le.mpr hroom)
    · rw [Link.queueReport_of_full hfull, if_pos (.inr (.inr hfull))]; rfl

/-- Settles O33: the disarm is the flush of the queue on the part whose lane is OFF and empty; each clause is what the flush leaves
of one part of the state. -/
theorem laneDisarmFlushesTheQueue : Obligations.LaneDisarmFlushesTheQueue := by
  intro tag b s hfree hpool hfit
  constructor
  · intro l hl x record told
    let off : State := s.setLane l { x with queue := [], state := .off }
    have hall : off.waitsAll x.queue := State.waitsAll_queue hpool l
    have hvoice := flushShots_voice hall hfit
    have htold : (off.told x.queue).voice = told.voice ∧ ((off.told x.queue).latch .outcomeOverflow).voice =
        (told.latch .outcomeOverflow).voice := by
      have hrun : off.phase = .running := hfree.1
      have heq : (off.told x.queue).voice = told.voice ∧ (off.told x.queue).phase = told.phase := by
        rw [State.told_eq hrun]
        by_cases hsilent : x.queue = [] ∨ s.outcomes ≠ [] ∨ 8 ≤ s.link.reports.length
        · rw [show told = s from if_pos hsilent, if_pos (by exact hsilent)]; exact ⟨rfl, rfl⟩
        · rw [show told = _ from if_neg hsilent, if_neg (by exact hsilent)]; exact ⟨rfl, rfl⟩
      exact ⟨heq.1, State.latch_voice heq.2 heq.1 _⟩
    refine ⟨s.disarm l, exec_laneDisarm hfree hl tag, s.disarm_lanes l, flushShots_slots hall, flushShots_programs hall,
      flushShots_outcomes hall hfit, fun hroom => ?_, fun hfull => ?_, ?_⟩
    · rw [if_pos (by exact hroom), htold.1] at hvoice
      obtain ⟨halarms, hlink⟩ := Prod.mk.inj hvoice
      refine ⟨halarms.trans ?_, hlink⟩
      simp only [told]
      split <;> rfl
    · rw [if_neg (by exact Nat.not_le.mpr hfull), htold.2] at hvoice
      obtain ⟨halarms, hlink⟩ := Prod.mk.inj hvoice
      exact ⟨by rw [State.disarm]; exact halarms ▸ (by simp), halarms, hlink⟩
    · rw [s.disarm_lanes l]
      exact flushShots_only x.queue off
  · exact fun hbad => exec_laneDisarm_badField hfree hbad tag

end Sys2Proof.Machine

/-! SUPPORT. The requests on the program store (R73 to R77): the version a read shows, the clear, the update hold. -/

namespace Sys2Proof.Machine

/-! ### PROGRAM_READ and PROGRAM_CLEAR -/

/-- A byte as the number that it carries. -/
theorem le1_of_toNat {a : Byte} {n : Nat} (h : a.toNat = n) : le1 n = [a] := by
  subst h
  exact congrArg (fun x => [x]) (BitVec.ofNat_toNat 8 a |>.trans (BitVec.setWidth_eq a))

section
variable {a : Byte} {i : ProgramId} (hi : a.toNat = i.val) {s : State}
include hi

theorem programRead_version {b : Byte} {staged : Bool} (hb : bitOfCode b.toNat = some staged) : programRead [a, b] s =
    ⟨s, [0, 0, a, flagByte staged, s.updateHold.code] ++ le2 s.programs[i].refCount
      ++ versionBytes (if staged then s.programs[i].staged else s.programs[i].active)⟩ := by
  simp only [programRead, u8_cons_succ, u8_cons_zero, index?_eq (n := a.toNat) i hi, hb, le1_of_toNat hi]
  rfl

theorem programClear_busy (hold : s.updateHold = .opened) : programClear [a] s = ⟨s, [2, 14, 0, 0, 0]⟩ := by
  simp only [programClear, index?_eq (n := u8 [a] 0) i hi, if_pos hold]
  rfl

variable (hold : s.updateHold = .closed)
include hold

theorem programClear_inUse (hused : s.programs[i].refCount ≠ 0) :
    programClear [a] s = ⟨s, [1, 12, 0] ++ le2 s.programs[i].refCount⟩ := by
  simp only [programClear, index?_eq (n := u8 [a] 0) i hi, hold, reduceCtorEq, if_false, if_pos (Nat.pos_of_ne_zero hused)]
  rfl

theorem programClear_clears (hunused : s.programs[i].refCount = 0) :
    programClear [a] s = ⟨s.setProgram i { s.programs[i] with active := none }, [0, 0, 0, 0, 0]⟩ := by
  simp only [programClear, index?_eq (n := u8 [a] 0) i hi, hold, reduceCtorEq, if_false, hunused, Nat.lt_irrefl,
    Program.refBytes]
  rfl

end

theorem programRead_badField {a b : Byte} (h : 31 < a.toNat ∨ 1 < b.toNat) (s : State) :
    programRead [a, b] s = ⟨s, [1, 1] ++ zeros 10⟩ := by
  rcases h with hprogram | hselector
  · simp only [programRead, index?_none (k := 32) (n := u8 [a, b] 0) hprogram]; rfl
  · simp only [programRead, bitOfCode_none (k := u8 [a, b] 1) hselector]; cases index? 32 (u8 [a, b] 0) <;> rfl

theorem programClear_badField {a : Byte} (h : 31 < a.toNat) (s : State) : programClear [a] s = ⟨s, [1, 1, 0, 0, 0]⟩ := by
  simp only [programClear, index?_none (k := 32) (n := u8 [a] 0) h]
  rfl

/-! ### The update hold -/

theorem State.stagedPrograms_length (s : State) :
    s.stagedPrograms.length = (List.finRange 32).countP (fun i => (s.programs[i].staged).isSome) :=
  List.countP_eq_length_filter.symm

/-- A program set holds the programs it was made of. -/
theorem programSet_getLsbD (is : List ProgramId) (i : ProgramId) : (programSet is).getLsbD i.val = decide (i ∈ is) := by
  have hbit (j : ProgramId) : (BitVec.ofNat 32 (2 ^ j.val)).getLsbD i.val = decide (i = j) := by
    simp only [BitVec.getLsbD_ofNat, i.isLt, decide_true, Bool.true_and, Nat.testBit_two_pow, Fin.ext_iff, eq_comm]
  have hfold (m : BitVec 32) : (is.foldl (fun m i => m ||| BitVec.ofNat 32 (2 ^ i.val)) m).getLsbD i.val =
      (m.getLsbD i.val || decide (i ∈ is)) := by
    induction is generalizing m with
    | nil => simp
    | cons j is ih =>
      simp only [List.foldl_cons, ih, BitVec.getLsbD_or, hbit, Bool.or_assoc, List.mem_cons, Bool.decide_or]
  rw [programSet, hfold]
  simp

theorem State.stagedSet_getLsbD (s : State) (i : ProgramId) :
    (programSet s.stagedPrograms).getLsbD i.val = (s.programs[i].staged).isSome := by
  rw [programSet_getLsbD]
  simp [State.stagedPrograms, allPrograms]

/-- R76: what a release leaves of one program. -/
theorem Program.released_views (x : Program) : x.released.staged = none ∧ x.released.refCount = x.refCount ∧
    (x.staged = none → x.released.active = x.active) ∧ (∀ v, x.staged = some v → x.released.active = some v) := by
  refine ⟨rfl, rfl, fun hnone => ?_, fun v hsome => ?_⟩
  · simp [Program.released, hnone]
  · simp [Program.released, hsome]

section
variable {s : State} (hold : s.updateHold = .opened)
include hold

theorem holdRelease_opened : holdRelease s = ⟨{ s with programs := s.programs.map Program.released, updateHold := .closed },
    [0, 0, BitVec.ofNat 8 ((List.finRange 32).countP (fun i => (s.programs[i].staged).isSome))]
      ++ le4 (programSet s.stagedPrograms).toNat⟩ := by
  rw [← s.stagedPrograms_length]
  simp only [holdRelease, hold]
  rfl

theorem holdDiscard_opened : holdDiscard s = ⟨{ s with programs := s.programs.map Program.discarded, updateHold := .closed },
    [0, 0, BitVec.ofNat 8 ((List.finRange 32).countP (fun i => (s.programs[i].staged).isSome))]⟩ := by
  rw [← s.stagedPrograms_length]
  simp only [holdDiscard, hold]
  rfl

theorem holdOpen_opened : holdOpen s = ⟨s, [1, 2]⟩ := by
  simp only [holdOpen, hold]
  rfl

end

/-- Out of an open hold, HOLD_OPEN opens it and the others are refused. -/
theorem hold_closed {s : State} (hold : s.updateHold = .closed) : holdOpen s = ⟨{ s with updateHold := .opened }, [0, 0]⟩ ∧
    holdRelease s = ⟨s, [1, 2, 0, 0, 0, 0, 0]⟩ ∧ holdDiscard s = ⟨s, [1, 2, 0]⟩ := by
  simp only [holdOpen, holdRelease, holdDiscard, hold]
  exact ⟨rfl, rfl, rfl⟩

/-- Settles O42: each request by its rule in each state of the hold. -/
theorem programStoreRequests : Obligations.ProgramStoreRequests := by
  constructor
  · intro tag a b s hfree
    refine ⟨fun i hi => ⟨?active, ?staged, fun hold => ?busy, fun hold hused => ?inUse, fun hold hunused => ?clears⟩,
      fun hbad => arrive_answer hfree rfl rfl (programRead_badField hbad s.closeUnlock),
      fun hbad => arrive_answer hfree rfl rfl (programClear_badField hbad s.closeUnlock)⟩
    case active => rintro rfl; exact arrive_answer hfree rfl rfl (programRead_version (s := s.closeUnlock) (staged := false) hi rfl)
    case staged => rintro rfl; exact arrive_answer hfree rfl rfl (programRead_version (s := s.closeUnlock) (staged := true) hi rfl)
    case busy => exact arrive_answer hfree rfl rfl (programClear_busy (s := s.closeUnlock) hi hold)
    case inUse => exact arrive_answer hfree rfl rfl (programClear_inUse (s := s.closeUnlock) hi hold hused)
    case clears => exact arrive_answer hfree rfl rfl (programClear_clears (s := s.closeUnlock) hi hold hunused)
  · intro tag s hfree stagedCount
    refine ⟨fun hold => ?closed, fun hold => ⟨?reopened, ⟨s.programs.map Program.released, programSet s.stagedPrograms,
      ?release, ?released⟩, ⟨s.programs.map Program.discarded, ?discard, ?discarded⟩⟩⟩
    case closed =>
      obtain ⟨hopen, hrelease, hdiscard⟩ := hold_closed (s := s.closeUnlock) hold
      exact ⟨arrive_answer hfree rfl rfl hopen, arrive_answer hfree rfl rfl hrelease, arrive_answer hfree rfl rfl hdiscard⟩
    case reopened => exact arrive_answer hfree rfl rfl (holdOpen_opened (s := s.closeUnlock) hold)
    case release => exact arrive_answer hfree rfl rfl (holdRelease_opened (s := s.closeUnlock) hold)
    case discard => exact arrive_answer hfree rfl rfl (holdDiscard_opened (s := s.closeUnlock) hold)
    case released =>
      intro i
      refine ⟨s.stagedSet_getLsbD i, ?_⟩
      have hmap : (s.programs.map Program.released)[i] = s.programs[i].released := Vector.getElem_map ..
      exact hmap ▸ s.programs[i].released_views
    case discarded => exact fun i => Vector.getElem_map ..

end Sys2Proof.Machine

/-! SUPPORT. A pulse start (R92, R106, R107, R109, R119, R120): the collision it may mark, the camera it may trigger, and the place it
may give up. -/

namespace Sys2Proof.Machine

/-! ### The camera of an output, and its reserved place -/

theorem cameraOf_eq_some_iff (o : OutputId) (c : CameraId) : cameraOf o = some c ↔ c.val = o.val := by
  rw [cameraOf]
  constructor
  · intro h
    by_cases hlt : o.val < 4
    · rw [index?, dif_pos hlt] at h; cases h; rfl
    · rw [index?_none (Nat.not_lt.mp hlt)] at h; cases h
  · exact fun h => index?_eq c h.symm

/-- The reserved places of a run once a pulse on an output has given up its own. -/
def Run.spent (r : Run) (o : OutputId) : Vector Nat 4 :=
  match cameraOf o with
  | none => r.reserved
  | some c => (r.giveUp c).reserved

theorem Run.spent_at (r : Run) (o : OutputId) (c : CameraId) :
    (r.spent o)[c] = if c.val = o.val then r.reserved[c] - 1 else r.reserved[c] := by
  have hcamera := cameraOf_eq_some_iff o
  cases hname : cameraOf o with
  | none => rw [if_neg fun h => by rw [(hcamera c).mpr h] at hname; cases hname]; simp only [Run.spent, hname]
  | some d =>
    have hd : d.val = o.val := (hcamera d).mp hname
    simp only [Run.spent, hname, Run.giveUp]
    rw [vector_getElem_set]
    by_cases h : d = c
    · subst h; rw [if_pos rfl, if_pos hd]
    · rw [if_neg h, if_neg fun hc => h (Fin.ext (hd.trans hc.symm))]

/-- A place that is not reserved is not given up. -/
theorem Run.giveUp_of_zero {r : Run} {c : CameraId} (h : r.reserved[c] = 0) : r.giveUp c = r := by
  have hsame : r.reserved[c] - 1 = r.reserved[c] := by omega
  rw [Run.giveUp, hsame]
  simp

theorem Run.skipPulse_eq (r : Run) (o : OutputId) (i : Nat) :
    r.skipPulse o i = { r with skipped := r.skipped ||| pulseBit i, reserved := r.spent o } := by
  rw [Run.skipPulse, Run.spent]
  cases cameraOf o <;> rfl

/-! ### The shots that collide (R107) -/

/-- The shot of one holder takes the collided flag. -/
def State.markHolder (s : State) (j : RunSlotId) : State :=
  match s.runs[j] with
  | some r => s.mapShot r.handle (fun sh => { sh with collided := true })
  | none => s

/-- The shot of a slot with the collided flag as a mark leaves it. -/
def Shot.marked (sh : Shot) (mark : Bool) : Shot := { sh with collided := sh.collided || mark }

theorem State.markHolder_runs (s : State) (j : RunSlotId) : (s.markHolder j).runs = s.runs := by
  rw [State.markHolder]
  split <;> rfl

theorem State.markHolder_slots (s : State) (j : RunSlotId) (h : Handle) : (s.markHolder j).slots[h] = ⟨s.slots[h].generation,
    (s.slots[h].shot).map (·.marked (decide ((s.runs[j]).map Run.handle = some h)))⟩ := by
  have hsame : (s.slots[h].shot).map (·.marked false) = s.slots[h].shot := by
    simp only [Shot.marked, Bool.or_false]
    exact Option.map_id' ..
  rw [State.markHolder]
  cases hrun : s.runs[j] with
  | none => simp only [Option.map_none, reduceCtorEq, decide_false, hsame]
  | some r =>
    simp only [Option.map_some, Option.some.injEq]
    refine (State.setSlot_at s r.handle h _).trans ?_
    split
    next heq => subst heq; simp only [decide_true, Shot.marked, Bool.or_true]
    next hne => simp only [hne, decide_false, hsame]

/-- The shots of a list of run slots take the flag, and nothing else changes. -/
theorem markHolders_eq (js : List RunSlotId) (s : State) :
    js.foldl State.markHolder s = { s with slots := (js.foldl State.markHolder s).slots } := by
  induction js generalizing s with
  | nil => rfl
  | cons j js ih =>
    have hfirst : s.markHolder j = { s with slots := (s.markHolder j).slots } := by
      rw [State.markHolder]
      split <;> rfl
    rw [List.foldl_cons]
    refine (ih _).trans ?_
    rw [hfirst]

theorem markHolders_slots (js : List RunSlotId) (s : State) (h : Handle) :
    (js.foldl State.markHolder s).slots[h] = ⟨s.slots[h].generation,
      (s.slots[h].shot).map (·.marked (decide (∃ j ∈ js, (s.runs[j]).map Run.handle = some h)))⟩ := by
  induction js generalizing s with
  | nil =>
    simp only [List.foldl_nil, List.not_mem_nil, false_and, exists_false, decide_false, Shot.marked, Bool.or_false]
    exact congrArg (Slot.mk _) (Option.map_id' ..).symm
  | cons j js ih =>
    rw [List.foldl_cons, ih, State.markHolder_slots, State.markHolder_runs, Option.map_map]
    simp only [List.mem_cons, exists_eq_or_imp, Bool.decide_or, Function.comp_def, Shot.marked, Bool.or_assoc]

/-- The collision of a pulse start on an output that other runs hold. -/
def State.collide (s : State) (k : RunSlotId) (others : List RunSlotId) : State :=
  if others.isEmpty then s else s.markCollision k others

section
variable (s : State) (k : RunSlotId) (others : List RunSlotId)

theorem State.markCollision_eq : s.markCollision k others = ((k :: others).foldl State.markHolder s).latch .collision := rfl

theorem State.collide_nil : s.collide k [] = s := rfl

theorem State.collide_of_others {others : List RunSlotId} (h : others ≠ []) : s.collide k others = s.markCollision k others :=
  if_neg (by simpa using h)

theorem State.collide_only : s.collide k others = { s with
    slots := (s.collide k others).slots, alarms := (s.collide k others).alarms, link := (s.collide k others).link } := by
  by_cases h : others = []
  · subst h; rfl
  · rw [s.collide_of_others k h, State.markCollision_eq, State.latch_slots]
    refine (State.latch_only _ _).trans ?_
    rw [markHolders_eq (k :: others) s]

theorem State.collide_slots (h : Handle) : (s.collide k others).slots[h] = ⟨s.slots[h].generation, (s.slots[h].shot).map
    (·.marked (decide (others ≠ [] ∧ ∃ j ∈ k :: others, (s.runs[j]).map Run.handle = some h)))⟩ := by
  by_cases hnone : others = []
  · subst hnone
    simp only [State.collide_nil, ne_eq, not_true_eq_false, false_and, decide_false, Shot.marked, Bool.or_false]
    exact congrArg (Slot.mk _) (Option.map_id' ..).symm
  · rw [s.collide_of_others k hnone, State.markCollision_eq, State.latch_slots, markHolders_slots]
    simp only [ne_eq, hnone, not_false_eq_true, true_and]

theorem State.collide_voice {others : List RunSlotId} (h : others ≠ []) :
    (s.collide k others).voice = (s.latch .collision).voice := by
  rw [s.collide_of_others k h, State.markCollision_eq, markHolders_eq]
  exact State.latch_voice (s := { s with slots := ((k :: others).foldl State.markHolder s).slots }) (t := s) rfl rfl _

end

/-! ### The camera that a pulse start triggers (R119, R120) -/

section
variable {s : State} {k : RunSlotId} {r : Run} (hrun : s.runs[k] = some r) (c : CameraId)
include hrun

theorem State.handTrigger_givesUp : (s.handTrigger k r c).runs = s.runs.set k (some (r.giveUp c)) := by
  rw [State.handTrigger]
  split
  next hzero => rw [Run.giveUp_of_zero hzero, ← hrun]; simp [State.setCamera]
  next => rfl

omit hrun in
theorem State.handTrigger_triggers : (s.handTrigger k r c).cameras = s.cameras.set c { s.cameras[c] with
    lastTrigger := some r.pulseStartTime, elapsed := 0
    queue := (if r.reserved[c] = 0 then s.cameras[c].queue else s.cameras[c].queue
      ++ [⟨r.handle, r.pulseStartTime, r.pulseStartTime + BitVec.ofNat 32 s.cameras[c].settings.window⟩]) } := by
  rw [State.handTrigger]
  split <;> rfl

omit hrun in
theorem State.handTrigger_outstanding (h : Handle) : (s.handTrigger k r c).slots[h] = ⟨s.slots[h].generation,
    (s.slots[h].shot).map (fun sh => { sh with
      outstanding := sh.outstanding + if h = r.handle ∧ r.reserved[c] ≠ 0 then 1 else 0 })⟩ := by
  rw [State.handTrigger]
  split
  next hzero =>
    simp only [hzero, ne_eq, not_true_eq_false, and_false, if_false, Nat.add_zero]
    exact congrArg (Slot.mk _) (Option.map_id' ..).symm
  next hsome =>
    refine (State.setSlot_at s r.handle h _).trans ?_
    split
    next heq => subst heq; simp only [hsome, ne_eq, not_false_eq_true, and_self, if_true]; rfl
    next hne =>
      simp only [Ne.symm hne, false_and, if_false, Nat.add_zero]
      exact congrArg (Slot.mk _) (Option.map_id' ..).symm

omit hrun in
theorem State.handTrigger_only : s.handTrigger k r c = { s with
    runs := (s.handTrigger k r c).runs, cameras := (s.handTrigger k r c).cameras, slots := (s.handTrigger k r c).slots } := by
  rw [State.handTrigger]
  split <;> rfl

end

/-! ### The pulse start -/

section
variable {s : State} {k : RunSlotId} {r : Run} (hrun : s.runs[k] = some r) {x : Pulse} (i : Nat)
include hrun

theorem State.startPulse_static (hmode : s.outputs[x.output].mode = .staticMode) : State.startPulse k s (x, i) =
    s.setRun k (some { r with skipped := r.skipped ||| pulseBit i, reserved := r.spent x.output }) := by
  simp only [State.startPulse, hrun, hmode, Run.skipPulse_eq]

/-- On a PULSE output the run holds the output, and then the camera is told. -/
theorem State.startPulse_pulse (hmode : s.outputs[x.output].mode = .pulseMode) :
    let r' : Run := { r with held := r.held ||| outputBit x.output }
    let t := (s.collide k ((s.holders x.output).filter (fun j => j ≠ k))).setRun k (some r')
    State.startPulse k s (x, i) = match cameraOf x.output with
      | none => t
      | some c => t.handTrigger k r' c := by
  have hother : (fun j => j != k) = fun j => decide (j ≠ k) := funext fun j => by rw [decide_not]; rfl
  simp only [State.startPulse, hrun, hmode, hother]
  rfl

end

/-- A pulse start on a PULSE output, part by part. -/
structure PulseStarted (s : State) (k : RunSlotId) (r : Run) (o : OutputId) (t : State) : Prop where
  runs : t.runs = s.runs.set k (some { r with held := r.held ||| outputBit o, reserved := r.spent o })
  untriggered : ∀ c : CameraId, c.val ≠ o.val → t.cameras[c] = s.cameras[c]
  triggered : ∀ c : CameraId, c.val = o.val → t.cameras[c] = { s.cameras[c] with
    lastTrigger := some r.pulseStartTime, elapsed := 0
    queue := (if r.reserved[c] = 0 then s.cameras[c].queue else s.cameras[c].queue
      ++ [⟨r.handle, r.pulseStartTime, r.pulseStartTime + BitVec.ofNat 32 s.cameras[c].settings.window⟩]) }
  slots : ∀ h : Handle, t.slots[h] = ⟨s.slots[h].generation, (s.slots[h].shot).map (fun sh => { sh with
    outstanding := sh.outstanding + if h = r.handle ∧ ∃ c : CameraId, c.val = o.val ∧ r.reserved[c] ≠ 0 then 1 else 0 })⟩
  only : t = { s with runs := t.runs, cameras := t.cameras, slots := t.slots }

/-- Past the collision, the hold and the camera make the pulse start. -/
theorem pulseStarted {s : State} {k : RunSlotId} {r : Run} (o : OutputId) :
    let r' : Run := { r with held := r.held ||| outputBit o }
    PulseStarted s k r o (match cameraOf o with
      | none => s.setRun k (some r')
      | some c => (s.setRun k (some r')).handTrigger k r' c) := by
  intro r'
  cases hcamera : cameraOf o with
  | none =>
    have hno (c : CameraId) : c.val ≠ o.val := fun h => by rw [(cameraOf_eq_some_iff o c).mpr h] at hcamera; cases hcamera
    refine ⟨?_, fun _ _ => rfl, fun c h => absurd h (hno c), fun h => ?_, rfl⟩
    · simp only [Run.spent, hcamera]; rfl
    · simp only [hno, false_and, exists_false, and_false, if_false, Nat.add_zero]
      exact congrArg (Slot.mk _) (Option.map_id' ..).symm
  | some c =>
    have hc : c.val = o.val := (cameraOf_eq_some_iff o c).mp hcamera
    have honly (d : CameraId) (hd : d.val = o.val) : d = c := Fin.ext (hd.trans hc.symm)
    have hset : (s.setRun k (some r')).runs[k] = some r' := Vector.getElem_set_self ..
    have hcameras := State.handTrigger_triggers (s := s.setRun k (some r')) (k := k) (r := r') c
    refine ⟨?_, fun d hd => ?_, fun d hd => ?_, fun h => ?_, ?_⟩
    · rw [State.handTrigger_givesUp hset, State.setRun, Vector.set_set, Run.spent, hcamera]; rfl
    · dsimp only
      rw [hcameras, vector_getElem_set, if_neg fun heq : c = d => hd (heq ▸ hc)]
      rfl
    · obtain rfl := honly d hd
      dsimp only
      rw [hcameras, vector_getElem_set, if_pos rfl]
      rfl
    · have hplace : (∃ d : CameraId, d.val = o.val ∧ r.reserved[d] ≠ 0) ↔ r.reserved[c] ≠ 0 :=
        ⟨fun ⟨d, hd, hne⟩ => honly d hd ▸ hne, fun hne => ⟨c, hc, hne⟩⟩
      simp only [hplace]
      exact State.handTrigger_outstanding c h
    · exact State.handTrigger_only c

/-- Settles O44: past the holders, the static output is the skip, and the pulse output the collision and then the start. -/
theorem pulseStartHoldsItsOutput : Obligations.PulseStartHoldsItsOutput := by
  intro k r x i s hrun o time others marked
  refine ⟨s.mem_holders o, r.spent o, r.spent_at o, State.startPulse_static hrun i, fun hmode => ?_⟩
  obtain ⟨t, ht, hruns, huntriggered, htriggered, hslots, honly⟩ :
      ∃ t, State.startPulse k s (x, i) = t ∧ PulseStarted (s.collide k others) k r o t :=
    ⟨_, State.startPulse_pulse hrun i hmode, pulseStarted o⟩
  have hcollide := s.collide_only k others
  have hruns' : (s.collide k others).runs = s.runs := (congrArg State.runs hcollide).trans rfl
  have hcameras' : (s.collide k others).cameras = s.cameras := (congrArg State.cameras hcollide).trans rfl
  have hmarked (h : Handle) : (others ≠ [] ∧ ∃ j ∈ k :: others, (s.runs[j]).map Run.handle = some h) ↔ marked h := by
    simp only [List.mem_cons, exists_eq_or_imp, hrun, Option.map_some, Option.some.injEq, marked, eq_comm (a := r.handle)]
  have hslot (h : Handle) := (hslots h).trans (by rw [s.collide_slots k others h])
  rw [hruns'] at hruns
  rw [hcameras'] at huntriggered htriggered
  refine ⟨t, ht, hruns, huntriggered, htriggered, fun h hfree => ?free, fun h sh hshot => ?shot, fun hothers => ?collided,
    fun hnone => ?alone, ?only⟩
  case free =>
    rw [hslot, hfree]
    exact congrArg (Slot.mk _) hfree.symm
  case shot =>
    refine ⟨_, _, (hslot h).trans (by rw [hshot]; rfl), ?_, fun hplace => congrArg (_ + ·) (if_pos hplace),
      fun hplace => congrArg (_ + ·) (if_neg hplace)⟩
    show (sh.collided || decide _) = true ↔ _
    rw [Bool.or_eq_true, decide_eq_true_eq, hmarked]
  case collided =>
    obtain ⟨halarms, hlink⟩ := Prod.mk.inj (s.collide_voice k hothers)
    exact ⟨(congrArg State.alarms honly).trans halarms, (congrArg State.link honly).trans hlink⟩
  case alone =>
    rw [hnone, State.collide_nil] at honly
    exact ⟨(congrArg State.alarms honly).trans rfl, (congrArg State.link honly).trans rfl⟩
  case only =>
    have halarms : t.alarms = (s.collide k others).alarms := (congrArg State.alarms honly).trans rfl
    have hlink : t.link = (s.collide k others).link := (congrArg State.link honly).trans rfl
    rw [halarms, hlink]
    refine honly.trans ?_
    rw [hcollide]

end Sys2Proof.Machine

/-! SUPPORT. The event of a run (R92 to R94): the run that it leaves, the pulses it starts, the completion; and the abort (R97). -/

namespace Sys2Proof.Machine

/-! ### The run after its event -/

/-- The run once the pulses that end have left their outputs and the burst has turned. -/
def Run.afterEvent (r : Run) : Run := { r.release.turnBurst with eventDone := true }

/-- The burst whose pulses begin at the run position: the next one where a burst ends and another follows (R93). -/
def Run.burstNow (r : Run) : Nat :=
  if r.atBurstEnd = true ∧ r.burstIndex + 1 < r.burstCount then r.burstIndex + 1 else r.burstIndex

theorem Run.afterEvent_eq (r : Run) : r.afterEvent = { r with
    held := r.release.held, skipped := (if r.atBurstEnd = true then 0 else r.skipped), burstIndex := r.burstNow
    eventDone := true } := by
  have hends : r.release.atBurstEnd = r.atBurstEnd := rfl
  rw [Run.afterEvent, Run.turnBurst, hends, Run.burstNow]
  by_cases h : r.atBurstEnd = true
  · simp only [h, if_true, true_and]; rfl
  · simp only [h]; rfl

theorem Run.afterEvent_starting (r : Run) :
    r.afterEvent.starting = r.pulses.zipIdx.filter (fun x => r.position = r.burstStart r.burstNow + x.1.begins) := by
  rw [Run.afterEvent_eq]
  rfl

/-- The burst turns alike whether its outputs have been left or not. -/
theorem Run.turnBurst_starting (r : Run) : r.turnBurst.starting = r.afterEvent.starting := by
  have hends : r.release.atBurstEnd = r.atBurstEnd := rfl
  rw [Run.afterEvent, Run.turnBurst, Run.turnBurst, hends]
  split <;> rfl

/-- An output leaves the held ones where a pulse on it ends that was not skipped (R93). -/
theorem Run.release_held (r : Run) (o : OutputId) : r.release.held.getLsbD o.val = true ↔ r.held.getLsbD o.val = true ∧
    ¬ ∃ x ∈ r.pulses.zipIdx, x.1.output = o ∧ r.position = r.burstStart r.burstIndex + x.1.ends ∧
      r.skipped.getLsbD x.2 = false := by
  have hfold (xs : List (Pulse × Nat)) (m : BitVec 12) :
      (xs.foldl (fun m x => m &&& ~~~ outputBit x.1.output) m).getLsbD o.val = true ↔
        m.getLsbD o.val = true ∧ ∀ x ∈ xs, x.1.output ≠ o := by
    induction xs generalizing m with
    | nil => simp
    | cons x xs ih =>
      simp only [List.foldl_cons, ih, BitVec.getLsbD_and, BitVec.getLsbD_not, outputBit_getLsbD, o.isLt, decide_true,
        Bool.true_and, Bool.and_eq_true, Bool.not_eq_true', decide_eq_false_iff_not, List.forall_mem_cons, and_assoc]
  rw [Run.release, hfold, Run.ending, Run.indexed]
  simp only [List.mem_filter, Bool.and_eq_true, beq_iff_eq, Bool.not_eq_true', not_exists, not_and]
  refine and_congr_right fun _ => ⟨fun h x hx ho hends hskip => h x ⟨hx, hends, hskip⟩ ho,
    fun h x ⟨hx, hends, hskip⟩ ho => h x hx ho hends hskip⟩

/-! ### The commands of a run -/

section
variable {s : State} {k : RunSlotId}

/-- Where no run stands, or the event of its position is done, the commands do nothing. -/
theorem exec_runEvents_idle (h : ∀ r, s.runs[k] = some r → r.eventDone = true) :
    exec (.pulseStart k) s = .next s ∧ exec (.pulseEnd k) s = .next s ∧ exec (.runCompletion k) s = .next s := by
  show execPulseStart k s = _ ∧ execPulseEnd k s = _ ∧ execRunCompletion k s = _
  unfold execPulseStart execPulseEnd execRunCompletion
  cases hrun : s.runs[k] with
  | none => exact ⟨rfl, rfl, rfl⟩
  | some r =>
    have hdone := h r hrun
    exact ⟨if_neg (by simp [Run.startDue, hdone]), if_neg (by simp [Run.endDue, hdone]), if_neg (by simp [Run.completionDue, hdone])⟩

variable {r : Run} (hrun : s.runs[k] = some r)
include hrun

theorem exec_pulseStart : exec (.pulseStart k) s = if r.startDue then .next (s.runEvent k).beginTx else .next s := by
  show execPulseStart k s = _
  rw [execPulseStart, hrun]
  rfl

theorem exec_pulseEnd : exec (.pulseEnd k) s = if r.endDue then .next (s.runEvent k).beginTx else .next s := by
  show execPulseEnd k s = _
  rw [execPulseEnd, hrun]
  rfl

theorem exec_runCompletion : exec (.runCompletion k) s = if r.completionDue then .next (s.runEvent k).beginTx else .next s := by
  show execRunCompletion k s = _
  rw [execRunCompletion, hrun]
  rfl

theorem State.runEvent_goesOn (h : r.completionDue = false) :
    s.runEvent k = r.afterEvent.starting.foldl (State.startPulse k) (s.setRun k (some r.afterEvent)) := by
  simp only [State.runEvent, hrun, h, Bool.false_eq_true, if_false]
  rfl

theorem State.runEvent_completes (h : r.completionDue = true) :
    s.runEvent k = (s.setRun k (some r.afterEvent)).completeRun k r.afterEvent := by
  simp only [State.runEvent, hrun, h, if_true]
  rfl

end

section
variable {r : Run} (hopen : r.eventDone = false)
include hopen

theorem Run.startDue_iff_starting : r.startDue = true ↔ r.afterEvent.starting ≠ [] := by
  rw [Run.startDue, hopen, Run.turnBurst_starting]
  simp

theorem Run.completionDue_iff : r.completionDue = true ↔ r.position = r.length := by
  simp [Run.completionDue, hopen]

end

/-- Settles O45: each command is the one event of the run where its own part is due, and the event leaves the run that
`Run.afterEvent_eq` writes out. -/
theorem runEventsFollowThePulses : Obligations.RunEventsFollowThePulses := by
  intro k s
  refine ⟨exec_runEvents_idle, fun r hrun hopen => ?_⟩
  intro period here ending burstOver burst starts endsHere
  have hover : r.atBurstEnd = true ↔ burstOver := r.atBurstEnd_iff
  have hburst : r.burstNow = burst := by simp only [Run.burstNow, hover]; rfl
  have hstarting : r.afterEvent.starting = starts := by rw [Run.afterEvent_starting, hburst]; rfl
  have hstarts : r.startDue = true ↔ starts ≠ [] := by rw [Run.startDue_iff_starting hopen, hstarting]
  have hends : r.endDue = true ↔ endsHere := by
    rw [Run.endDue_iff, hover]; exact and_iff_right hopen
  have hcompletes := Run.completionDue_iff hopen
  rw [exec_pulseStart hrun, exec_pulseEnd hrun, exec_runCompletion hrun]
  refine ⟨fun hnone => if_neg fun h => hstarts.mp h hnone, fun hnone => if_neg fun h => hnone (hends.mp h),
    fun hlength => ⟨fun hsome => ?_, fun hsome => ?_⟩, fun hlength => ⟨r.release.held, r.release_held, ?_⟩⟩
  · rw [if_pos (hstarts.mpr hsome), if_pos (hcompletes.mpr hlength)]
  · rw [if_pos (hends.mpr hsome), if_pos (hcompletes.mpr hlength)]
  · have hevent := State.runEvent_goesOn hrun (Bool.eq_false_of_not_eq_true (mt hcompletes.mp hlength))
    rw [hstarting, Run.afterEvent_eq, hburst] at hevent
    simp only [hover] at hevent
    rw [hevent]
    exact ⟨fun hsome => if_pos (hstarts.mpr hsome), fun hsome => if_pos (hends.mpr hsome)⟩

/-! ### The end of a run -/

/-- The state with the run slot FREE and the shot of the run changed. -/
def State.runOver (s : State) (k : RunSlotId) (h : Handle) (sh : Shot) : State := { s with
  runs := s.runs.set k none
  slots := s.slots.set h ⟨s.slots[h].generation, some sh⟩ }

/-- A shot whose run is over ends with nothing outstanding, and awaits its cameras otherwise (R94). -/
theorem State.leaveFiring_runOver (s : State) (k : RunSlotId) (h : Handle) (sh : Shot) : (s.runOver k h sh).leaveFiring h =
    if sh.outstanding = 0 then (s.runOver k h sh).endShot h sh.endCode else s.runOver k h { sh with phase := .awaiting } := by
  have hshot : (s.runOver k h sh).slots[h] = ⟨s.slots[h].generation, some sh⟩ := Vector.getElem_set_self ..
  simp only [State.leaveFiring, hshot, State.mapShot]
  split
  · rfl
  · simp [State.runOver, State.setSlot]

section
variable {s : State} {k : RunSlotId} {h : Handle} {sh : Shot} (hshot : s.slots[h].shot = some sh) {r : Run} (hhandle : r.handle = h)
include hshot hhandle

theorem State.completeRun_eq : (s.setRun k (some r)).completeRun k r =
    (s.runOver k h { sh with runSlot := none }).leaveFiring h := by
  subst hhandle
  simp [State.completeRun, State.setRun, State.mapShot, State.setSlot, hshot, State.runOver, -Fin.getElem_fin]

theorem State.abortRun_eq (hrun : s.runs[k] = some r) :
    s.abortRun k = (s.runOver k h { sh with runSlot := none, aborted := true }).leaveFiring h := by
  subst hhandle
  simp [State.abortRun, hrun, State.setRun, State.mapShot, State.setSlot, hshot, State.runOver, -Fin.getElem_fin]

end

/-- The run slots whose run names an output of a set, in their order. -/
theorem State.abortNaming_slots (s : State) (outputs : BitVec 12) : ∃ ks : List RunSlotId, ks.Pairwise (fun i j => i.val < j.val) ∧
    (∀ k : RunSlotId, k ∈ ks ↔ ∃ r, s.runs[k] = some r ∧ ∃ x ∈ r.pulses, outputs.getLsbD x.output.val = true) ∧
    s.abortNaming outputs = ks.foldl State.abortRun s := by
  refine ⟨_, List.Pairwise.filter _ (List.pairwise_lt_finRange 6), fun k => ?_, rfl⟩
  rw [List.mem_filter, and_iff_right (List.mem_finRange k)]
  cases s.runs[k] with
  | none => simp
  | some r => simp [Run.names]

/-- Settles O46: completion and abort by the state with the run slot FREE, the abort of a set by its run slots. -/
theorem runsCompleteOrAbort : Obligations.RunsCompleteOrAbort := by
  refine ⟨fun k r sh s hrun hshot => ?_, fun outputs s => s.abortNaming_slots outputs⟩
  intro length after code
  have hcode : ({ sh with runSlot := none } : Shot).endCode = code := rfl
  have hcompleted (hlength : r.position = length) (hopen : r.eventDone = false) : exec (.runCompletion k) s = .next
      ((s.runOver k r.handle { sh with runSlot := none }).leaveFiring r.handle).beginTx := by
    have hdue := (Run.completionDue_iff hopen).mpr hlength
    rw [exec_runCompletion hrun, if_pos hdue, State.runEvent_completes hrun hdue]
    have hhandle : r.afterEvent.handle = r.handle := by rw [Run.afterEvent_eq]
    rw [State.completeRun_eq hshot hhandle]
  have habort := State.abortRun_eq hshot rfl hrun
  rw [State.leaveFiring_runOver] at habort
  refine ⟨fun hbefore => ?before, fun hlength hopen hnone => ?ends, fun hlength hopen hsome => ?awaits,
    fun hnone => habort.trans (if_pos hnone), fun hsome => habort.trans (if_neg hsome)⟩
  case before =>
    rw [exec_runCompletion hrun, if_neg fun hdue => ?_]
    rw [Run.completionDue, Bool.and_eq_true, beq_iff_eq] at hdue
    exact hbefore hdue.2
  case ends =>
    rw [hcompleted hlength hopen, State.leaveFiring_runOver, if_pos (by exact hnone), hcode]
    rfl
  case awaits =>
    rw [hcompleted hlength hopen, State.leaveFiring_runOver, if_neg (by exact hsome)]
    rfl

end Sys2Proof.Machine

/-! SUPPORT. Outputs: the active state and the pin (R104, R105), and the requests of the output stage (R110 to R114). -/

namespace Sys2Proof.Machine

/-! ### The active state and the pin -/

theorem State.outputActive_iff (s : State) (o : OutputId) : s.outputActive o = true ↔ s.outputHeld o = false ∧
    ((s.outputs[o].mode = .staticMode ∧ s.outputs[o].level = .active) ∨
     (s.outputs[o].mode = .pulseMode ∧ ∃ (k : RunSlotId) (r : Run), s.runs[k] = some r ∧ r.held.getLsbD o.val = true)) := by
  have hheld : (s.holders o).isEmpty = false ↔
      ∃ (k : RunSlotId) (r : Run), s.runs[k] = some r ∧ r.held.getLsbD o.val = true := by
    simp only [List.isEmpty_eq_false_iff_exists_mem, s.mem_holders]
  rw [State.outputActive, Bool.and_eq_true, Bool.not_eq_true']
  cases hmode : s.outputs[o].mode with
  | staticMode => simp
  | pulseMode => simpa using fun _ => hheld

theorem State.pinLevel_of_reset {s : State} (h : s.phase = .coldReset) (o : OutputId) : s.pinLevel o = .low := if_pos h

theorem State.pinLevel_activeHigh {s : State} {o : OutputId} (h : s.phase ≠ .coldReset)
    (hpolarity : s.outputs[o].polarity = .activeHigh) : s.pinLevel o = .high ↔ s.outputActive o = true := by
  rw [State.pinLevel, if_neg h, hpolarity]
  cases s.outputActive o <;> simp

theorem State.pinLevel_activeLow {s : State} {o : OutputId} (h : s.phase ≠ .coldReset)
    (hpolarity : s.outputs[o].polarity = .activeLow) : s.pinLevel o = .low ↔ s.outputActive o = true := by
  rw [State.pinLevel, if_neg h, hpolarity]
  cases s.outputActive o <;> simp

/-- Settles O47. -/
theorem pinsShowTheActiveState : Obligations.PinsShowTheActiveState := fun o s =>
  ⟨s.outputHeld_iff o, s.outputActive_iff o, fun h => State.pinLevel_of_reset h o, State.pinLevel_activeHigh,
    State.pinLevel_activeLow⟩

/-! ### OUTPUT_SET -/

theorem State.writeOutput_same {s : State} {o : OutputId} {mode : OutputMode} (h : mode = s.outputs[o].mode) (pol : Polarity) :
    s.writeOutput o pol mode = s.setOutput o { s.outputs[o] with polarity := pol } := if_pos h.symm

theorem State.writeOutput_toPulse {s : State} {o : OutputId} (h : s.outputs[o].mode = .staticMode) (pol : Polarity) :
    s.writeOutput o pol .pulseMode = s.setOutput o ⟨pol, .pulseMode, .inactive, s.outputs[o].protect⟩ := by
  simp only [State.writeOutput, h, reduceCtorEq, if_false]

theorem State.writeOutput_toStatic {s : State} {o : OutputId} (h : s.outputs[o].mode = .pulseMode) (pol : Polarity) :
    s.writeOutput o pol .staticMode = (s.setOutput o ⟨pol, .staticMode, .inactive, s.outputs[o].protect⟩).dropHolds o := by
  simp only [State.writeOutput, h, reduceCtorEq, if_false]

/-- A mode written is the one that stands, or the other. -/
theorem OutputMode.change (old new : OutputMode) :
    new = old ∨ (old = .staticMode ∧ new = .pulseMode) ∨ (old = .pulseMode ∧ new = .staticMode) := by
  cases old <;> cases new <;> decide

/-- The unlock flag is neither read nor written by a write of an output. -/
theorem State.writeOutput_closeUnlock (s : State) (o : OutputId) (pol : Polarity) (mode : OutputMode) :
    s.closeUnlock.writeOutput o pol mode = (s.writeOutput o pol mode).closeUnlock := by
  rcases OutputMode.change s.outputs[o].mode mode with hsame | ⟨hmode, rfl⟩ | ⟨hmode, rfl⟩
  · rw [State.writeOutput_same hsame, State.writeOutput_same (s := s.closeUnlock) hsame]; rfl
  · rw [State.writeOutput_toPulse hmode, State.writeOutput_toPulse (s := s.closeUnlock) hmode]; rfl
  · rw [State.writeOutput_toStatic hmode, State.writeOutput_toStatic (s := s.closeUnlock) hmode]; rfl

/-- Polarity and mode are as written. -/
theorem State.writeOutput_written (s : State) (o : OutputId) (pol : Polarity) (mode : OutputMode) :
    (s.writeOutput o pol mode).outputs[o].polarity = pol ∧ (s.writeOutput o pol mode).outputs[o].mode = mode := by
  have hself (x : Output) : (s.setOutput o x).outputs[o] = x := Vector.getElem_set_self ..
  rcases OutputMode.change s.outputs[o].mode mode with hsame | ⟨hmode, rfl⟩ | ⟨hmode, rfl⟩
  · rw [State.writeOutput_same hsame, hself]; exact ⟨rfl, hsame.symm⟩
  · rw [State.writeOutput_toPulse hmode, hself]; exact ⟨rfl, rfl⟩
  · rw [State.writeOutput_toStatic hmode, State.dropHolds, hself]; exact ⟨rfl, rfl⟩

section
variable {a b c : Byte} {o : OutputId} {pol : Polarity} {mode : OutputMode} (ho : a.toNat = o.val) (hb : b = pol.code)
  (hc : c = mode.code) {s : State}
include ho hb hc

theorem outputSet_protected (hprotect : s.outputs[o].protect = true) :
    outputSet [a, b, c] s = ⟨s, [1, 15, 0, 0, 0, 0, 0, 0]⟩ := by
  have hpol : Polarity.ofCode (u8 [a, b, c] 1) = some pol := (Polarity.ofCode_eq_some_iff _ _).mpr (congrArg BitVec.toNat hb)
  have hmode : OutputMode.ofCode (u8 [a, b, c] 2) = some mode :=
    (OutputMode.ofCode_eq_some_iff _ _).mpr (congrArg BitVec.toNat hc)
  simp only [outputSet, index?_eq (n := u8 [a, b, c] 0) o ho, hpol, hmode, hprotect, if_true]
  rfl

theorem outputSet_writes (hprotect : s.outputs[o].protect = false) :
    outputSet [a, b, c] s = outputBecomes (s.writeOutput o pol mode) o := by
  have hpol : Polarity.ofCode (u8 [a, b, c] 1) = some pol := (Polarity.ofCode_eq_some_iff _ _).mpr (congrArg BitVec.toNat hb)
  have hmode : OutputMode.ofCode (u8 [a, b, c] 2) = some mode :=
    (OutputMode.ofCode_eq_some_iff _ _).mpr (congrArg BitVec.toNat hc)
  simp only [outputSet, index?_eq (n := u8 [a, b, c] 0) o ho, hpol, hmode, hprotect, Bool.false_eq_true, if_false]

/-- A write that is let through replies with the output as written. -/
theorem exec_outputSet_writes (hfree : LinkFree s) (tag : Byte) (hprotect : s.outputs[o].protect = false) {t : State}
    (ht : s.writeOutput o pol mode = t) : exec (.outputSet tag [a, b, c]) s = .next (replied t 0xA8 tag
      [0, 0, 0, b, c, t.outputs[o].level.code, flagByte (t.outputHeld o), flagByte (t.outputActive o)]) := by
  refine arrive_answer hfree rfl rfl ((outputSet_writes (s := s.closeUnlock) ho hb hc hprotect).trans ?_)
  obtain ⟨hpol, hmode⟩ := s.writeOutput_written o pol mode
  rw [State.writeOutput_closeUnlock, outputBecomes, State.outputBytes, State.closeUnlock_outputs, hpol, hmode, ht, hb, hc]
  rfl

end

theorem outputSet_badField {a b c : Byte} (h : 11 < a.toNat ∨ 1 < b.toNat ∨ 1 < c.toNat) (s : State) :
    outputSet [a, b, c] s = ⟨s, [1, 1, 0, 0, 0, 0, 0, 0]⟩ := by
  have hone (x : Polarity) : x.code.toNat ≤ 1 := by cases x <;> decide
  have hone' (x : OutputMode) : x.code.toNat ≤ 1 := by cases x <;> decide
  unfold outputSet
  split
  next o pol mode ho hpol hmode =>
    have hb : b.toNat ≤ 1 := by rw [show b.toNat = _ from (Polarity.ofCode_eq_some_iff _ _).mp hpol]; exact hone pol
    have hc : c.toNat ≤ 1 := by rw [show c.toNat = _ from (OutputMode.ofCode_eq_some_iff _ _).mp hmode]; exact hone' mode
    have ha : 11 < a.toNat := by omega
    rw [index?_none (k := 12) (n := u8 [a, b, c] 0) ha] at ho
    cases ho
  next => rfl

/-- What a change from PULSE to STATIC leaves of the runs (R111). -/
theorem dropHolds_runs (s : State) (o : OutputId) : (∀ k : RunSlotId, s.runs[k] = none → (s.dropHolds o).runs[k] = none) ∧
    (∀ (k : RunSlotId) (r : Run), s.runs[k] = some r → ∃ held : BitVec 12, (s.dropHolds o).runs[k] = some { r with held := held } ∧
      ∀ q : OutputId, held.getLsbD q.val = true ↔ r.held.getLsbD q.val = true ∧ q ≠ o) := by
  refine ⟨fun k hnone => by rw [State.dropHolds_at, hnone]; rfl,
    fun k r hrun => ⟨(r.dropHold o).held, by rw [State.dropHolds_at, hrun]; rfl, fun q => ?_⟩⟩
  rw [Run.dropHold_getLsbD, Bool.and_eq_true, Bool.not_eq_true', decide_eq_false_iff_not, eq_comm (a := o)]

/-! ### OUTPUT_DRIVE -/

section
variable {a b : Byte} {o : OutputId} {level : DriveLevel} (ho : a.toNat = o.val) (hb : b = level.code) {s : State}
include ho hb

theorem outputDrive_protected (hprotect : s.outputs[o].protect = true) :
    outputDrive [a, b] s = ⟨s, [1, 15, 0, 0, 0, 0, 0, 0]⟩ := by
  have hlevel : DriveLevel.ofCode (u8 [a, b] 1) = some level := (DriveLevel.ofCode_eq_some_iff _ _).mpr (congrArg BitVec.toNat hb)
  simp only [outputDrive, index?_eq (n := u8 [a, b] 0) o ho, hlevel, hprotect, if_true]
  rfl

variable (hprotect : s.outputs[o].protect = false)
include hprotect

theorem outputDrive_pulse (hmode : s.outputs[o].mode = .pulseMode) : outputDrive [a, b] s = ⟨s, [1, 2, 0, 0, 0, 0, 0, 0]⟩ := by
  have hlevel : DriveLevel.ofCode (u8 [a, b] 1) = some level := (DriveLevel.ofCode_eq_some_iff _ _).mpr (congrArg BitVec.toNat hb)
  simp only [outputDrive, index?_eq (n := u8 [a, b] 0) o ho, hlevel, hprotect, Bool.false_eq_true, if_false, hmode, if_true]
  rfl

variable (hmode : s.outputs[o].mode = .staticMode)
include hmode

theorem outputDrive_held (hactive : level = .active) (hheld : s.outputHeld o = true) :
    outputDrive [a, b] s = ⟨s, [1, 3, 0, 0, 0, 0, 0, 0]⟩ := by
  have hlevel : DriveLevel.ofCode (u8 [a, b] 1) = some level := (DriveLevel.ofCode_eq_some_iff _ _).mpr (congrArg BitVec.toNat hb)
  subst hactive
  simp only [outputDrive, index?_eq (n := u8 [a, b] 0) o ho, hlevel, hprotect, Bool.false_eq_true, if_false, hmode, reduceCtorEq,
    hheld, beq_self_eq_true, Bool.and_self, if_true]
  rfl

theorem outputDrive_drives (hlet : level = .inactive ∨ s.outputHeld o = false) :
    outputDrive [a, b] s = outputBecomes (s.setOutput o { s.outputs[o] with level := level }) o := by
  have hlevel : DriveLevel.ofCode (u8 [a, b] 1) = some level := (DriveLevel.ofCode_eq_some_iff _ _).mpr (congrArg BitVec.toNat hb)
  have hnot : (level == .active && s.outputHeld o) = false := by
    rcases hlet with rfl | hheld
    · rfl
    · rw [hheld, Bool.and_false]
  simp only [outputDrive, index?_eq (n := u8 [a, b] 0) o ho, hlevel, hprotect, Bool.false_eq_true, if_false, hmode, reduceCtorEq,
    hnot]

omit hprotect in
/-- The static level shows where the output is not held. -/
theorem drivenBytes (hlet : level = .inactive ∨ s.outputHeld o = false) :
    (s.setOutput o { s.outputs[o] with level := level }).outputBytes o = [0, s.outputs[o].polarity.code, 1, b,
      flagByte (s.outputHeld o), flagByte (decide (level = .active))] := by
  have hself (x : Output) : (s.setOutput o x).outputs[o] = x := Vector.getElem_set_self ..
  have hheld (x : Output) : (s.setOutput o x).outputHeld o = s.outputHeld o := rfl
  have hactive : (!s.outputHeld o && level == .active) = decide (level = .active) := by
    rcases hlet with rfl | hno
    · simp
    · rw [hno]; rfl
  simp only [State.outputBytes, State.outputActive, hself, hheld, hmode, hactive, hb]
  rfl

end

theorem outputDrive_badField {a b : Byte} (h : 11 < a.toNat ∨ 1 < b.toNat) (s : State) :
    outputDrive [a, b] s = ⟨s, [1, 1, 0, 0, 0, 0, 0, 0]⟩ := by
  have hone (x : DriveLevel) : x.code.toNat ≤ 1 := by cases x <;> decide
  unfold outputDrive
  split
  next o level ho hlevel =>
    have hb : b.toNat ≤ 1 := by rw [show b.toNat = _ from (DriveLevel.ofCode_eq_some_iff _ _).mp hlevel]; exact hone level
    have ha : 11 < a.toNat := by omega
    rw [index?_none (k := 12) (n := u8 [a, b] 0) ha] at ho
    cases ho
  next => rfl

/-- Settles O48: OUTPUT_SET by the protect flag and the change of mode, OUTPUT_DRIVE by its checks in their order. -/
theorem outputSetAndDrive : Obligations.OutputSetAndDrive := by
  constructor
  · intro tag a b c s hfree
    refine ⟨?_, fun hbad => arrive_answer hfree rfl rfl (outputSet_badField hbad s.closeUnlock)⟩
    intro o pol mode ho hb hc x answer
    refine ⟨fun hprotect => ?refused, fun hfree' hsame => ?same, fun hfree' hmode hto => ?toPulse,
      fun hfree' hmode hto => ?toStatic⟩
    case refused => exact arrive_answer hfree rfl rfl (outputSet_protected (s := s.closeUnlock) ho hb hc hprotect)
    case same => exact exec_outputSet_writes ho hb hc hfree tag hfree' (State.writeOutput_same hsame pol)
    case toPulse =>
      subst hto
      have hwrite := State.writeOutput_toPulse hmode pol
      rw [show s.outputs[o].protect = false from hfree'] at hwrite
      exact exec_outputSet_writes ho hb hc hfree tag hfree' hwrite
    case toStatic =>
      subst hto
      have hwrite := State.writeOutput_toStatic hmode pol
      rw [show s.outputs[o].protect = false from hfree'] at hwrite
      obtain ⟨hnone, hsome⟩ := dropHolds_runs s o
      exact ⟨(s.dropHolds o).runs, exec_outputSet_writes ho hb hc hfree tag hfree' hwrite, hnone, hsome⟩
  · intro tag a b s hfree
    refine ⟨?_, fun hbad => arrive_answer hfree rfl rfl (outputDrive_badField hbad s.closeUnlock)⟩
    intro o level ho hb x t
    refine ⟨fun hprotect => ?refused, fun hfree' hmode => ?pulse, fun hfree' hmode hactive hheld => ?held,
      fun hfree' hmode hlet => ?drives⟩
    case refused => exact arrive_answer hfree rfl rfl (outputDrive_protected (s := s.closeUnlock) ho hb hprotect)
    case pulse => exact arrive_answer hfree rfl rfl (outputDrive_pulse (s := s.closeUnlock) ho hb hfree' hmode)
    case held => exact arrive_answer hfree rfl rfl (outputDrive_held (s := s.closeUnlock) ho hb hfree' hmode hactive hheld)
    case drives =>
      refine arrive_answer hfree rfl rfl ((outputDrive_drives (s := s.closeUnlock) ho hb hfree' hmode hlet).trans ?_)
      rw [outputBecomes, drivenBytes (s := s.closeUnlock) ho hb hmode hlet]
      rfl

/-! ### OUTPUT_PROTECT and OUTPUT_READ -/

theorem State.protectOutputs_at (s : State) (set : Nat) (flag : Bool) (o : OutputId) : (s.protectOutputs set flag).outputs[o] =
    { s.outputs[o] with protect := if set.testBit o.val then flag else s.outputs[o].protect } := by
  refine (Vector.getElem_ofFn o.isLt).trans ?_
  split <;> rfl

theorem State.protectedSet_getLsbD (s : State) (o : OutputId) : s.protectedSet.getLsbD o.val = s.outputs[o].protect := by
  have hfold (xs : List OutputId) (m : BitVec 12) :
      (xs.foldl (fun m o => if s.outputs[o].protect then m ||| outputBit o else m) m).getLsbD o.val =
        (m.getLsbD o.val || (decide (o ∈ xs) && s.outputs[o].protect)) := by
    induction xs generalizing m with
    | nil => simp
    | cons p xs ih =>
      rw [List.foldl_cons, ih]
      by_cases hp : p = o
      · subst hp
        cases hprotect : s.outputs[p].protect <;> simp [outputBit_getLsbD, -Fin.getElem_fin]
      · have hbit : (if s.outputs[p].protect then m ||| outputBit p else m).getLsbD o.val = m.getLsbD o.val := by
          split
          · rw [BitVec.getLsbD_or, outputBit_getLsbD, decide_eq_false hp, Bool.or_false]
          · rfl
        rw [hbit]
        simp [Ne.symm hp]
  rw [State.protectedSet, hfold, allOutputs]
  simp

theorem outputProtect_protects {p : List Byte} (hflag : u8 p 0 ≤ 1) (hset : u16 p 1 < 4096) (s : State) : outputProtect p s =
    ⟨s.protectOutputs (u16 p 1) (decide (u8 p 0 = 1)),
      [0, 0] ++ le2 (s.protectOutputs (u16 p 1) (decide (u8 p 0 = 1))).protectedSet.toNat⟩ := by
  have hcode : bitOfCode (u8 p 0) = some (decide (u8 p 0 = 1)) := by
    rw [bitOfCode_eq_some_iff]
    obtain h | h : u8 p 0 = 0 ∨ u8 p 0 = 1 := by omega
    · rw [h]; rfl
    · rw [h]; rfl
  simp only [outputProtect, hcode, if_neg (Nat.not_le.mpr hset)]
  rfl

theorem outputProtect_badField {p : List Byte} (h : 1 < u8 p 0 ∨ 4096 ≤ u16 p 1) (s : State) :
    outputProtect p s = ⟨s, [1, 1, 0, 0]⟩ := by
  rcases h with hflag | hset
  · simp only [outputProtect, bitOfCode_none hflag]; rfl
  · simp only [outputProtect, if_pos hset]; cases bitOfCode (u8 p 0) <;> rfl

/-- The holders of an output, counted over the run slots. -/
theorem State.holders_length (s : State) (o : OutputId) : (s.holders o).length =
    allRunSlots.countP (fun k => match s.runs[k] with
      | none => false
      | some r => r.held.getLsbD o.val) := by
  rw [State.holders, ← List.countP_eq_length_filter]
  refine List.countP_congr fun k _ => ?_
  cases s.runs[k] <;> rfl

/-- Settles O49: OUTPUT_PROTECT by each output's flag and each bit of the set, OUTPUT_READ output by output. -/
theorem outputProtectAndRead : Obligations.OutputProtectAndRead := by
  refine ⟨fun tag p s hfree hlen => ⟨fun hflag hset => ⟨(s.protectOutputs (u16 p 1) (decide (u8 p 0 = 1))).outputs,
      (s.protectOutputs (u16 p 1) (decide (u8 p 0 = 1))).protectedSet, ?protects, s.protectOutputs_at _ _,
      State.protectedSet_getLsbD _⟩,
    fun hbad => arrive_answer hfree (beq_iff_eq.mpr hlen) rfl (outputProtect_badField hbad s.closeUnlock)⟩, fun tag s hfree => ?read⟩
  case protects => exact arrive_answer hfree (beq_iff_eq.mpr hlen) rfl (outputProtect_protects hflag hset s.closeUnlock)
  case read =>
    intro bit state holders
    have hbytes (o : OutputId) : s.outputStateBytes o = [BitVec.ofNat 8 (state o), BitVec.ofNat 8 (holders o)] := by
      simp only [State.outputStateBytes, s.holders_length, state, bit, decide_eq_true_eq]
      rfl
    refine arrive_answer hfree rfl rfl ?_
    show (⟨s.closeUnlock, okReply (allOutputs.flatMap s.outputStateBytes)⟩ : Answer) = _
    rw [funext hbytes]
    rfl

end Sys2Proof.Machine

/-! SUPPORT. Camera channels: the requests (R130 to R132), and the frames and deadlines that resolve expectations (R118, R123 to
R127). -/

namespace Sys2Proof.Machine

/-! ### Work pending on a camera (R130 check 3) -/

theorem State.reservedOn_pos_iff (s : State) (c : CameraId) :
    0 < s.reservedOn c ↔ ∃ (k : RunSlotId) (r : Run), s.runs[k] = some r ∧ r.reserved[c] ≠ 0 := by
  rw [State.reservedOn, vector_toList_eq_map_finRange, List.map_map, List.sum_pos_iff_exists_pos_nat]
  simp only [List.mem_map, List.mem_finRange, true_and, exists_exists_eq_and, Function.comp_apply]
  refine exists_congr fun k => ?_
  cases s.runs[k] with
  | none => simp
  | some r => simp [Nat.pos_iff_ne_zero]

theorem State.cameraPending_iff (s : State) (c : CameraId) : s.cameraPending c = true ↔
    s.cameras[c].queue ≠ [] ∨ ∃ (k : RunSlotId) (r : Run), s.runs[k] = some r ∧ r.reserved[c] ≠ 0 := by
  rw [State.cameraPending, Bool.or_eq_true, decide_eq_true_eq, s.reservedOn_pos_iff, Bool.not_eq_true',
    List.isEmpty_eq_false_iff]

/-! ### CAMERA_SET -/

theorem cameraSettingsAt_eq {p : List Byte} {y : CameraSettings} (hedge : u8 p 1 = y.edge.code.toNat)
    (hconfirm : u8 p 2 = if y.confirm then 1 else 0) (hwindow : u32 p 3 = y.window) (hinterval : u32 p 7 = y.minInterval)
    (hmin : 1 ≤ y.window) (hmax : y.window ≤ 16777216) (hmax' : y.minInterval ≤ 16777216)
    (hpair : ¬ (y.confirm = true ∧ y.edge = .ignore)) : cameraSettingsAt p = some y := by
  have hbit : bitOfCode (u8 p 2) = some y.confirm := by
    rw [bitOfCode_eq_some_iff, hconfirm]
    cases y.confirm <;> rfl
  have hspan : ¬ (y.window = 0 ∨ Config.longSpan < y.window ∨ Config.longSpan < y.minInterval) :=
    show ¬ (y.window = 0 ∨ 16777216 < y.window ∨ 16777216 < y.minInterval) by omega
  simp only [cameraSettingsAt, (FrameEdge.ofCode_eq_some_iff _ _).mpr hedge, hbit, hwindow, hinterval, if_neg hspan, if_neg hpair]

/-- The values that no settings have. -/
theorem cameraSettingsAt_none {p : List Byte} (h : 2 < u8 p 1 ∨ 1 < u8 p 2 ∨ u32 p 3 = 0 ∨ 16777216 < u32 p 3 ∨
    16777216 < u32 p 7 ∨ (u8 p 2 = 1 ∧ u8 p 1 = 0)) : cameraSettingsAt p = none := by
  unfold cameraSettingsAt
  dsimp only
  split
  next edge confirm hedge hconfirm =>
    have hcode := (FrameEdge.ofCode_eq_some_iff _ _).mp hedge
    have hcode' := (bitOfCode_eq_some_iff _ _).mp hconfirm
    have he : u8 p 1 ≤ 2 := by rw [hcode]; cases edge <;> decide
    have hb : u8 p 2 ≤ 1 := by rw [hcode']; cases confirm <;> decide
    split
    next => rfl
    next hspan =>
      have hspan : ¬ (u32 p 3 = 0 ∨ 16777216 < u32 p 3 ∨ 16777216 < u32 p 7) := hspan
      have hpair : u8 p 2 = 1 ∧ u8 p 1 = 0 := by omega
      rw [hpair.2] at hedge
      rw [hpair.1] at hconfirm
      cases hedge
      cases hconfirm
      rfl
  next => rfl

section
variable {p : List Byte} {c : CameraId} (hc : u8 p 0 = c.val) {y : CameraSettings} (hy : cameraSettingsAt p = some y) {s : State}
include hc hy

theorem cameraSet_writes (hidle : s.cameraPending c = false) : cameraSet p s = ⟨s.setCamera c { s.cameras[c] with settings := y },
    [0, 0, BitVec.ofNat 8 c.val, y.edge.code, flagByte y.confirm] ++ le4 y.window ++ le4 y.minInterval⟩ := by
  simp only [cameraSet, index?_eq c hc, hy, hidle, Bool.false_eq_true, if_false]
  rfl

theorem cameraSet_busy (hpending : s.cameraPending c = true) : cameraSet p s = ⟨s, [2, 16] ++ zeros 11⟩ := by
  simp only [cameraSet, index?_eq c hc, hy, hpending, if_true]
  rfl

end

theorem cameraSet_badField {p : List Byte} (h : 3 < u8 p 0 ∨ 2 < u8 p 1 ∨ 1 < u8 p 2 ∨ u32 p 3 = 0 ∨ 16777216 < u32 p 3 ∨
    16777216 < u32 p 7 ∨ (u8 p 2 = 1 ∧ u8 p 1 = 0)) (s : State) : cameraSet p s = ⟨s, [1, 1] ++ zeros 11⟩ := by
  rcases h with hcamera | hsettings
  · simp only [cameraSet, index?_none (k := 4) hcamera]; rfl
  · simp only [cameraSet, cameraSettingsAt_none hsettings]; cases index? 4 (u8 p 0) <;> rfl

/-! ### CAMERA_SETTLE -/

section
variable {a b : Byte} {c : CameraId} (hc : a.toNat = c.val) (hb : b.toNat ≤ 15) {s : State}
include hc hb

theorem cameraSettle_writes (hidle : s.cameraPending c = false) : cameraSettle [a, b] s =
    ⟨s.setCamera c { s.cameras[c] with settle := b.toNat }, [0, 0, b] ++ le4 s.cameras[c].counter.toNat⟩ := by
  simp only [cameraSettle, u8_cons_succ, u8_cons_zero, index?_eq (n := a.toNat) c hc, if_neg (Nat.not_lt.mpr hb), hidle,
    Bool.false_eq_true, if_false, le1_of_toNat (n := b.toNat) rfl]
  rfl

theorem cameraSettle_busy (hpending : s.cameraPending c = true) : cameraSettle [a, b] s = ⟨s, [2, 16, 0, 0, 0, 0, 0]⟩ := by
  simp only [cameraSettle, u8_cons_succ, u8_cons_zero, index?_eq (n := a.toNat) c hc, if_neg (Nat.not_lt.mpr hb), hpending, if_true]
  rfl

end

theorem cameraSettle_badField {a b : Byte} (h : 3 < a.toNat ∨ 15 < b.toNat) (s : State) :
    cameraSettle [a, b] s = ⟨s, [1, 1, 0, 0, 0, 0, 0]⟩ := by
  rcases h with hcamera | hcount
  · simp only [cameraSettle, index?_none (k := 4) (n := u8 [a, b] 0) hcamera]; rfl
  · have hcount : 15 < u8 [a, b] 1 := hcount
    simp only [cameraSettle, if_pos hcount]
    cases index? 4 (u8 [a, b] 0) <;> rfl

/-! ### CAMERA_READ -/

theorem expectationBytes_length (q : List Expectation) : (q.flatMap Expectation.bytes).length = 9 * q.length := by
  have hone (e : Expectation) : e.bytes.length = 9 := rfl
  simp [List.length_flatMap, hone, Nat.mul_comm]

theorem entryBytes_eq (q : List Expectation) : entryBytes q = (q.take 8).flatMap
    (fun e => le1 e.handle.val ++ le4 e.pulseStart.toNat ++ le4 e.deadline.toNat) ++ zeros (72 - 9 * (q.take 8).length) := by
  rw [← expectationBytes_length]
  rfl

theorem cameraRead_bytes {a : Byte} {c : CameraId} (hc : a.toNat = c.val) (s : State) : cameraRead [a] s =
    ⟨s, okReply ([0] ++ s.cameras[c].settings.bytes ++ le32 s.cameras[c].counter ++ le1 s.cameras[c].settle
      ++ [flagByte s.cameras[c].lastTrigger.isSome] ++ le32 (s.cameras[c].lastTrigger.getD 0) ++ le4 s.cameras[c].elapsed
      ++ le1 s.cameras[c].queue.length ++ le1 (s.reservedOn c) ++ le1 (s.freePlaces c) ++ entryBytes s.cameras[c].queue)⟩ := by
  simp only [cameraRead, index?_eq (n := u8 [a] 0) c hc]

theorem cameraRead_badField {a : Byte} (h : 3 < a.toNat) (s : State) : cameraRead [a] s = ⟨s, [1, 1] ++ zeros 100⟩ := by
  simp only [cameraRead, index?_none (k := 4) (n := u8 [a] 0) h]
  rfl

/-- A presence-marked timestamp as bytes, read either way. -/
theorem le32_getD (x : Option Timestamp) : le32 (x.getD 0) = le4 ((x.map BitVec.toNat).getD 0) := by
  cases x <;> rfl

/-- Settles O50: each request by its fields and by the work pending on the camera. -/
theorem cameraRequests : Obligations.CameraRequests := by
  intro tag a b p s hfree hlen
  refine ⟨?_, fun hbad => arrive_answer hfree (beq_iff_eq.mpr hlen) rfl (cameraSet_badField hbad s.closeUnlock),
    fun hbad => arrive_answer hfree rfl rfl (cameraSettle_badField hbad s.closeUnlock),
    fun hbad => arrive_answer hfree rfl rfl (cameraRead_badField hbad s.closeUnlock)⟩
  intro c x pending
  have hpending (h : pending) : s.closeUnlock.cameraPending c = true := (s.cameraPending_iff c).mpr h
  have hidle (h : ¬ pending) : s.closeUnlock.cameraPending c = false :=
    Bool.eq_false_of_not_eq_true (mt (s.cameraPending_iff c).mp h)
  refine ⟨fun y hc hedge hconfirm hwindow hinterval hmin hmax hmax' hpair => ?set, fun hc hb => ?settle, fun hc => ?read⟩
  case set =>
    have hy := cameraSettingsAt_eq hedge hconfirm hwindow hinterval hmin hmax hmax' hpair
    exact ⟨fun h => arrive_answer hfree (beq_iff_eq.mpr hlen) rfl (cameraSet_writes (s := s.closeUnlock) hc hy (hidle h)),
      fun h => arrive_answer hfree (beq_iff_eq.mpr hlen) rfl (cameraSet_busy (s := s.closeUnlock) hc hy (hpending h))⟩
  case settle =>
    exact ⟨fun h => arrive_answer hfree rfl rfl (cameraSettle_writes (s := s.closeUnlock) hc hb (hidle h)),
      fun h => arrive_answer hfree rfl rfl (cameraSettle_busy (s := s.closeUnlock) hc hb (hpending h))⟩
  case read =>
    refine (arrive_answer hfree rfl rfl (cameraRead_bytes hc s.closeUnlock)).trans ?_
    simp only [entryBytes_eq, le32_getD, CameraSettings.bytes, okReply, List.append_assoc]
    rfl

/-! ### An expectation resolved (R127) -/

/-- The state with the shot of a slot changed. -/
def State.withShot (s : State) (h : Handle) (sh : Shot) : State :=
  { s with slots := s.slots.set h ⟨s.slots[h].generation, some sh⟩ }

theorem State.mapShot_of_shot {s : State} {h : Handle} {sh : Shot} (hshot : s.slots[h].shot = some sh) (f : Shot → Shot) :
    s.mapShot h f = s.withShot h (f sh) := by
  rw [State.mapShot, hshot]
  rfl

theorem State.endIfResolved_withShot (s : State) (h : Handle) (sh : Shot) : (s.withShot h sh).endIfResolved h =
    if sh.phase = .awaiting ∧ sh.outstanding = 0 then (s.withShot h sh).endShot h sh.endCode else s.withShot h sh := by
  have hslot : (s.withShot h sh).slots[h] = ⟨s.slots[h].generation, some sh⟩ := Vector.getElem_set_self ..
  simp only [State.endIfResolved, hslot]

/-- A shot with one expectation less ends where it was the last of an AWAITING one. -/
theorem State.endIfResolved_cases {s : State} {h : Handle} {sh : Shot} {n : Nat} (hless : sh.outstanding = n - 1) :
    (sh.phase = .awaiting → n ≤ 1 → (s.withShot h sh).endIfResolved h = (s.withShot h sh).endShot h sh.endCode) ∧
    (sh.phase ≠ .awaiting ∨ 1 < n → (s.withShot h sh).endIfResolved h = s.withShot h sh) := by
  rw [State.endIfResolved_withShot]
  refine ⟨fun hphase hlast => if_pos ⟨hphase, by omega⟩, fun hstays => if_neg fun ⟨hphase, hnone⟩ => ?_⟩
  exact hstays.elim (fun hne => hne hphase) fun hmore => by omega

/-! ### FRAME_START -/

theorem FrameEdge.selects_iff (e : FrameEdge) (x : Level) :
    e.selects x = true ↔ (e = .rise ∧ x = .high) ∨ (e = .fall ∧ x = .low) := by
  cases e <;> cases x <;> decide

section
variable {s : State} {c : CameraId} {level : Level}

theorem exec_frameStart_same (h : s.cameras[c].fs = level) : exec (.frameStart c level) s = .next s := if_pos h

variable (hne : s.cameras[c].fs ≠ level)
include hne

/-- Out of service an edge moves the pin (R133). -/
theorem exec_frameStart_outOfService (hphase : s.phase ≠ .running) :
    exec (.frameStart c level) s = .next (s.setCamera c { s.cameras[c] with fs := level }) := by
  refine (if_neg hne).trans ?_
  split
  · exact absurd ‹_› hphase
  · rfl

variable (hrun : s.phase = .running)
include hrun

theorem exec_frameStart_unselected (h : ¬ s.cameras[c].settings.edge.selects level = true) :
    exec (.frameStart c level) s = .next (s.setCamera c { s.cameras[c] with fs := level }) := by
  refine (if_neg hne).trans ?_
  rw [hrun]
  exact if_neg h

theorem exec_frameStart_selected (h : s.cameras[c].settings.edge.selects level = true) :
    exec (.frameStart c level) s = .next ((s.setCamera c { s.cameras[c] with fs := level }).frameStarted c).beginTx := by
  refine (if_neg hne).trans ?_
  rw [hrun]
  exact if_pos h

end

/-! ### A frame counted (R118, R123) -/

theorem State.setCamera_setCamera (s : State) (c : CameraId) (x y : Camera) :
    (s.setCamera c x).setCamera c y = s.setCamera c y := by
  simp [State.setCamera]

section
variable {s : State} {c : CameraId} {x : Camera}

theorem State.frameStarted_settling (h : 0 < x.settle) : (s.setCamera c x).frameStarted c =
    s.setCamera c { x with counter := x.counter + 1, settle := x.settle - 1 } := by
  have hself : (s.setCamera c x).cameras[c] = x := Vector.getElem_set_self ..
  simp only [State.frameStarted, hself, if_pos h, State.setCamera_setCamera]

variable (hsettled : x.settle = 0)
include hsettled

theorem State.frameStarted_unconfirmed (h : x.settings.confirm = false) : (s.setCamera c x).frameStarted c =
    s.setCamera c { x with counter := x.counter + 1 } := by
  have hself : (s.setCamera c x).cameras[c] = x := Vector.getElem_set_self ..
  simp only [State.frameStarted, hself, hsettled, Nat.lt_irrefl, if_false, h, Bool.false_eq_true, State.setCamera_setCamera]

variable (hconfirm : x.settings.confirm = true)
include hconfirm

theorem State.frameStarted_stray (h : x.queue = []) : (s.setCamera c x).frameStarted c =
    (s.setCamera c { x with counter := x.counter + 1 }).latch (.stray c) := by
  have hself : (s.setCamera c x).cameras[c] = x := Vector.getElem_set_self ..
  simp only [State.frameStarted, hself, hsettled, Nat.lt_irrefl, if_false, hconfirm, if_true, h, State.setCamera_setCamera]

theorem State.frameStarted_confirms {e : Expectation} {rest : List Expectation} {sh : Shot} (h : x.queue = e :: rest)
    (hshot : s.slots[e.handle].shot = some sh) : (s.setCamera c x).frameStarted c =
    ((s.setCamera c { x with counter := x.counter + 1, queue := rest }).withShot e.handle
      (sh.confirmedBy c (x.counter + 1))).endIfResolved e.handle := by
  have hself : (s.setCamera c x).cameras[c] = x := Vector.getElem_set_self ..
  simp only [State.frameStarted, hself, hsettled, Nat.lt_irrefl, if_false, hconfirm, if_true, h, State.setCamera_setCamera]
  rw [State.mapShot_of_shot (s := s.setCamera c _) hshot]

end

/-! ### DEADLINE_EXPIRY -/

section
variable {s : State} {c : CameraId}

theorem exec_deadlineExpiry_of_notDue (h : ¬ s.cameras[c].deadlineDue s.timestamp = true) :
    exec (.deadlineExpiry c) s = .next s := if_neg h

theorem exec_deadlineExpiry_of_due (h : s.cameras[c].deadlineDue s.timestamp = true) :
    exec (.deadlineExpiry c) s = .next (s.expireOldest c).beginTx := if_pos h

theorem State.expireOldest_of_shot {e : Expectation} {rest : List Expectation} {sh : Shot} (h : s.cameras[c].queue = e :: rest)
    (hshot : s.slots[e.handle].shot = some sh) : s.expireOldest c =
    ((s.setCamera c { s.cameras[c] with queue := rest }).withShot e.handle sh.lostOne).endIfResolved e.handle := by
  simp only [State.expireOldest, h]
  rw [State.mapShot_of_shot (s := s.setCamera c _) hshot]

end

/-- Settles O51: a frame by the pin, the edge, the settle count and the queue; an expiry by the deadline of the oldest entry. -/
theorem expectationsAreConfirmedOrLost : Obligations.ExpectationsAreConfirmedOrLost := by
  refine ⟨?service, ?outOfService, ?expiry⟩
  case service =>
    intro c level s hrun x selected y camera
    have hselects : x.settings.edge.selects level = true ↔ selected := FrameEdge.selects_iff _ _
    have hframe (hne : x.fs ≠ level) (h : selected) := exec_frameStart_selected hne hrun (hselects.mpr h)
    refine ⟨exec_frameStart_same, fun hne hnot => exec_frameStart_unselected hne hrun (mt hselects.mp hnot),
      fun hne h hsettle => ?settling, fun hne h hsettled hconfirm => ?unconfirmed, fun hne h hsettled hconfirm hempty => ?stray,
      fun e rest sh hne h hsettled hconfirm hqueue hshot => ?confirmed⟩
    case settling => rw [hframe hne h, State.frameStarted_settling (by exact hsettle)]; rfl
    case unconfirmed => rw [hframe hne h, State.frameStarted_unconfirmed (by exact hsettled) (by exact hconfirm)]; rfl
    case stray => rw [hframe hne h, State.frameStarted_stray (by exact hsettled) (by exact hconfirm) (by exact hempty)]; rfl
    case confirmed =>
      intro sh' t code
      have hresolved := State.endIfResolved_cases (s := camera { y with queue := rest }) (h := e.handle) (sh := sh')
        (n := sh.outstanding) rfl
      rw [hframe hne h, State.frameStarted_confirms (by exact hsettled) (by exact hconfirm) (by exact hqueue) hshot]
      exact ⟨fun hphase hlast => congrArg done (hresolved.1 hphase hlast),
        fun hstays => congrArg done (hresolved.2 hstays)⟩
  case outOfService =>
    intro c level s hphase x
    exact ⟨exec_frameStart_same, fun hne => exec_frameStart_outOfService hne hphase⟩
  case expiry =>
    intro c s x
    refine ⟨fun hempty => exec_deadlineExpiry_of_notDue (by
      rw [Camera.deadlineDue, show s.cameras[c].queue = [] from hempty]
      exact Bool.false_ne_true), ?_⟩
    intro e rest sh hqueue hshot due t
    have hdue : x.deadlineDue s.timestamp = true ↔ due := by
      simp only [Camera.deadlineDue, hqueue, decide_eq_true_eq]
      rfl
    have hresolved := State.endIfResolved_cases (s := s.setCamera c { x with queue := rest }) (h := e.handle) (sh := sh.lostOne)
      (n := sh.outstanding) rfl
    have hcode : sh.lostOne.endCode = if sh.aborted then .aborted else .frameLost := by
      simp [Shot.endCode, Shot.lostOne]
    have hexpires (h : due) := (exec_deadlineExpiry_of_due (hdue.mpr h)).trans
      (congrArg done (State.expireOldest_of_shot hqueue hshot))
    refine ⟨fun hnot => exec_deadlineExpiry_of_notDue (mt hdue.mp hnot), fun h hphase hlast => (hexpires h).trans ?_,
      fun h hstays => (hexpires h).trans (congrArg done (hresolved.2 hstays))⟩
    rw [hresolved.1 hphase hlast, hcode]
    rfl

end Sys2Proof.Machine

/-! SUPPORT. Safe-stop inputs: what a hold takes (R115, R97, R98, R29), the onset, and the safe requests (R134 to R141). -/

namespace Sys2Proof.Machine

/-! ### What a hold takes -/

/-- A halt reaches the lanes and nothing else. -/
theorem State.haltLanes_only (s : State) (b : BitVec 4) : s.haltLanes b = { s with lanes := (s.haltLanes b).lanes } := by
  have hfold (ls : List LaneId) (t : State) : ls.foldl State.haltLane t = { t with lanes := (ls.foldl State.haltLane t).lanes } := by
    induction ls generalizing t with
    | nil => rfl
    | cons l ls ih =>
      have hfirst : t.haltLane l = { t with lanes := (t.haltLane l).lanes } := by
        unfold State.haltLane
        split <;> rfl
      rw [List.foldl_cons]
      refine (ih _).trans ?_
      rw [hfirst]
  exact hfold _ s

/-- The outputs made inactive, the runs aborted and the lanes halted are what a hold takes. -/
theorem holdTakes_holds (s : State) (g : BitVec 12) (b : BitVec 4) : holdTakes s g b ((s.holdOutputs g).haltLanes b) := by
  refine ⟨(s.forceInactive g).outputs, (s.haltLanes b).lanes, fun o => ?_, s.haltLanes_at b, ?_⟩
  · rw [State.forceInactive_at]
    split <;> rfl
  · have hlanes : ((s.holdOutputs g).haltLanes b).lanes = (s.haltLanes b).lanes :=
      State.haltLanes_lanes_congr (s.holdOutputs_lanes g) b
    rw [State.haltLanes_only, hlanes]
    rfl

theorem State.setSafe_setSafe (s : State) (n : SafeId) (x y : SafeInput) : (s.setSafe n x).setSafe n y = s.setSafe n y := by
  simp [State.setSafe]

/-- R135: the hold of an input that stands at `x` begins. -/
theorem State.onset_setSafe (s : State) (n : SafeId) (x : SafeInput) : (s.setSafe n x).onset n =
    (((s.setSafe n { x with hold := true }).holdOutputs x.group).haltLanes x.binding).latch (.safe n) := by
  have hself : (s.setSafe n x).safes[n] = x := Vector.getElem_set_self ..
  rw [State.onset, hself, State.setSafe_setSafe]

/-! ### SAFE_PIN_CHANGE -/

theorem Detection.detects_iff (d : Detection) (level : Level) : d.detects level = true ↔
    (d = .rise ∧ level = .high) ∨ (d = .fall ∧ level = .low) ∨ d = .both ∨ (d = .low ∧ level = .low) ∨
      (d = .high ∧ level = .high) := by
  cases d <;> cases level <;> decide

theorem Detection.showing_iff (d : Detection) (level : Level) :
    d.showing level = true ↔ (d = .low ∧ level = .low) ∨ (d = .high ∧ level = .high) := by
  cases d <;> cases level <;> decide

section
variable {s : State} {n : SafeId} {level : Level}

theorem exec_safePinChange_same (h : s.safes[n].pin = level) : exec (.safePinChange n level) s = .next s := if_pos h

variable (hne : s.safes[n].pin ≠ level)
include hne

theorem exec_safePinChange_reset (h : s.phase = .coldReset) :
    exec (.safePinChange n level) s = .next (s.setSafe n { s.safes[n] with pin := level }) := by
  refine (if_neg hne).trans ?_
  rw [h]

theorem exec_safePinChange_awake (h : s.phase ≠ .coldReset) :
    exec (.safePinChange n level) s = .next (s.safePin n level).beginTx := by
  refine (if_neg hne).trans ?_
  split
  · exact absurd ‹_› h
  · rfl

end

/-- Settles O52: a level the pin has, RSTN low, no onset, and the onset, which takes what `holdTakes_holds` says. -/
theorem safePinChangeStartsTheHold : Obligations.SafePinChangeStartsTheHold := by
  intro n level s x detects moved
  have hdetects : x.detection.detects level = true ↔ detects := Detection.detects_iff _ _
  refine ⟨exec_safePinChange_same, fun hne hcold => exec_safePinChange_reset hne hcold, fun hne awake hnone => ?_,
    fun hne awake hdetected hoff => ⟨((State.holdOutputs _ x.group).haltLanes x.binding), holdTakes_holds _ _ _, ?_⟩⟩
  · have hno : (x.detection.detects level && !x.hold) = false := by
      rcases hnone with hnot | hon
      · rw [Bool.eq_false_of_not_eq_true (mt hdetects.mp hnot), Bool.false_and]
      · rw [hon, Bool.not_true, Bool.and_false]
    rw [exec_safePinChange_awake hne awake, State.safePin]
    simp only [show (s.safes[n].detection.detects level && !s.safes[n].hold) = false from hno, Bool.false_eq_true, if_false]
    rfl
  · have hyes : (x.detection.detects level && !x.hold) = true := by rw [hdetects.mpr hdetected, hoff]; rfl
    rw [exec_safePinChange_awake hne awake, State.safePin]
    simp only [show (s.safes[n].detection.detects level && !s.safes[n].hold) = true from hyes, if_true, State.onset_setSafe]
    rfl

/-! ### Beside the unlock flag and the link -/

section
variable {φ : Link → Link} (aside : LinkAside φ) (υ : Bool → Bool)
include aside

theorem State.leaveFiring_beside (s : State) (h : Handle) : (s.beside υ φ).leaveFiring h = (s.leaveFiring h).beside υ φ := by
  unfold State.leaveFiring
  rw [show (s.beside υ φ).slots = s.slots from rfl]
  split
  · rfl
  · split
    · exact State.endShot_beside aside υ s h _
    · rfl

theorem State.abortRun_beside (s : State) (k : RunSlotId) : (s.beside υ φ).abortRun k = (s.abortRun k).beside υ φ := by
  unfold State.abortRun
  rw [show (s.beside υ φ).runs = s.runs from rfl]
  split
  · rfl
  · exact State.leaveFiring_beside aside υ ((s.setRun k none).mapShot _ _) _

theorem State.holdOutputs_beside (s : State) (g : BitVec 12) : (s.beside υ φ).holdOutputs g = (s.holdOutputs g).beside υ φ :=
  foldl_beside υ (State.abortRun_beside aside υ) _ (s.forceInactive g)

omit aside in
theorem State.haltLanes_beside (s : State) (b : BitVec 4) : (s.beside υ φ).haltLanes b = (s.haltLanes b).beside υ φ := by
  refine foldl_beside υ (fun t l => ?_) _ s
  unfold State.haltLane
  rw [show (t.beside υ φ).lanes = t.lanes from rfl]
  split <;> rfl

theorem State.onset_beside (s : State) (n : SafeId) : (s.beside υ φ).onset n = (s.onset n).beside υ φ := by
  show ((((s.setSafe n { s.safes[n] with hold := true }).beside υ φ).holdOutputs s.safes[n].group).haltLanes
    s.safes[n].binding).latch (.safe n) = _
  rw [State.holdOutputs_beside aside, State.haltLanes_beside, State.latch_beside aside]
  rfl

theorem State.installSafe_beside (s : State) (n : SafeId) (d : Detection) (g : BitVec 12) (b : BitVec 4) :
    (s.beside υ φ).installSafe n d g b = (s.installSafe n d g b).beside υ φ := by
  unfold State.installSafe
  rw [show (s.beside υ φ).safes = s.safes from rfl]
  dsimp only
  split
  · show (((s.setSafe n { s.safes[n] with detection := d, group := g, binding := b }).beside υ φ).holdOutputs _).haltLanes _ = _
    rw [State.holdOutputs_beside aside, State.haltLanes_beside]
  · split
    · exact State.onset_beside aside υ (s.setSafe n { s.safes[n] with detection := d, group := g, binding := b }) n
    · rfl

end

/-! ### SAFE_SET (R138, R139) -/

theorem safeSettingsAt_eq {p : List Byte} {d : Detection} {g : BitVec 12} {b : BitVec 4} (hd : u8 p 1 = d.code.toNat)
    (hg : u16 p 2 = g.toNat) (hb : u8 p 4 = b.toNat) : safeSettingsAt p = some (d, g, b) := by
  have hspan : ¬ (4096 ≤ g.toNat ∨ 16 ≤ b.toNat) := by
    have hg' : g.toNat < 4096 := g.isLt
    have hb' : b.toNat < 16 := b.isLt
    omega
  simp only [safeSettingsAt, (Detection.ofCode_eq_some_iff _ _).mpr hd, hg, hb, if_neg hspan, BitVec.ofNat_toNat, BitVec.setWidth_eq]

theorem safeSettingsAt_none {p : List Byte} (h : 5 < u8 p 1 ∨ 4096 ≤ u16 p 2 ∨ 16 ≤ u8 p 4) : safeSettingsAt p = none := by
  unfold safeSettingsAt
  dsimp only
  split
  next => rfl
  next d hd =>
    have hcode : u8 p 1 ≤ 5 := by rw [(Detection.ofCode_eq_some_iff _ _).mp hd]; cases d <;> decide
    exact if_pos (by omega)

theorem safeSet_locked (p : List Byte) (s : State) : safeSet false p s = ⟨s, [1, 17, 0, 0, 0, 0, 0, 0, 0]⟩ := rfl

theorem safeSet_badField {p : List Byte} (h : 1 < u8 p 0 ∨ 5 < u8 p 1 ∨ 4096 ≤ u16 p 2 ∨ 16 ≤ u8 p 4) (s : State) :
    safeSet true p s = ⟨s, [1, 1, 0, 0, 0, 0, 0, 0, 0]⟩ := by
  rcases h with hinput | hsettings
  · simp only [safeSet, index?_none (k := 2) hinput]; rfl
  · simp only [safeSet, safeSettingsAt_none hsettings]; cases index? 2 (u8 p 0) <;> rfl

/-- The fields of an input in the reply of SAFE_SET. -/
theorem State.safeBytes_eq {s : State} {n : SafeId} {x : SafeInput} (h : s.safes[n] = x) : okReply (s.safeBytes n) =
    [0, 0, 0, x.detection.code] ++ le2 x.group.toNat ++ le1 x.binding.toNat ++ [flagByte x.hold, levelCode x.pin] := by
  rw [State.safeBytes, h]
  rfl

section
variable {s : State} (hfree : LinkFree s) (tag : Byte) {p : List Byte} (hlen : p.length = 5)
include hfree hlen

theorem exec_safeSet_refused {reply : List Byte} (h : ∀ t, safeSet s.unlock p t = ⟨t, reply⟩) :
    exec (.safeSet tag p) s = .next (replied s 0xB9 tag reply) :=
  arrive_answer hfree (beq_iff_eq.mpr hlen) rfl (h s.closeUnlock)

/-- With the unlock flag noted the settings are installed, and the reply shows the input as it then stands. -/
theorem exec_safeSet_installs (hunlock : s.unlock = true) {n : SafeId} {d : Detection} {g : BitVec 12} {b : BitVec 4}
    (hn : u8 p 0 = n.val) (hsettings : safeSettingsAt p = some (d, g, b)) {t : State} (ht : s.installSafe n d g b = t)
    {x : SafeInput} (hx : t.safes[n] = x) : exec (.safeSet tag p) s = .next (replied t 0xB9 tag
      ([0, 0, 0, x.detection.code] ++ le2 x.group.toNat ++ le1 x.binding.toNat ++ [flagByte x.hold, levelCode x.pin])) := by
  refine arrive_answer hfree (beq_iff_eq.mpr hlen) rfl ?_
  simp only [safeSet, hunlock, if_true, index?_eq n hn, hsettings, s.closeUnlock_eq_beside,
    State.installSafe_beside linkAside_id, ht, ← t.closeUnlock_eq_beside, t.closeUnlock.safeBytes_eq (n := n) hx]

end

section
variable {s : State} {n : SafeId} (d : Detection) (g : BitVec 12) (b : BitVec 4)

theorem State.installSafe_quiet (hoff : s.safes[n].hold = false) (h : ¬ d.showing s.safes[n].pin = true) :
    s.installSafe n d g b = s.setSafe n ⟨d, g, b, false, s.safes[n].pin⟩ := by
  simp only [State.installSafe, hoff, Bool.false_eq_true, if_false, if_neg h]

/-- A level condition already present begins the hold. -/
theorem State.installSafe_begins (hoff : s.safes[n].hold = false) (h : d.showing s.safes[n].pin = true) :
    s.installSafe n d g b =
      (((s.setSafe n ⟨d, g, b, true, s.safes[n].pin⟩).holdOutputs g).haltLanes b).latch (.safe n) := by
  simp only [State.installSafe, hoff, Bool.false_eq_true, if_false, if_pos h]
  exact State.onset_setSafe s n ⟨d, g, b, false, s.safes[n].pin⟩

/-- A hold that is ON takes what is added. -/
theorem State.installSafe_adds (hon : s.safes[n].hold = true) : s.installSafe n d g b =
    ((s.setSafe n ⟨d, g, b, true, s.safes[n].pin⟩).holdOutputs (g &&& ~~~s.safes[n].group)).haltLanes
      (b &&& ~~~s.safes[n].binding) := by
  simp only [State.installSafe, hon, if_true]

end

/-! ### The other safe requests -/

/-- The unlock flag, closed at the taking, is set (R137). -/
theorem exec_safeUnlock {s : State} (hfree : LinkFree s) (tag : Byte) :
    exec (.safeUnlock tag []) s = .next { replied s 0xB8 tag [0, 0] with unlock := true } := by
  show arrive _ _ s = _
  rw [arrive_free _ _ _ hfree]
  rfl

/-- An input as SAFE_READ shows it, its level condition written out. -/
theorem SafeInput.bytes_eq (x : SafeInput) : x.bytes = [x.detection.code] ++ le2 x.group.toNat ++ le1 x.binding.toNat
    ++ [flagByte x.hold, levelCode x.pin, flagByte (decide ((x.detection = .low ∧ x.pin = .low) ∨
      (x.detection = .high ∧ x.pin = .high)))] := by
  have hshows : x.detection.showing x.pin = decide ((x.detection = .low ∧ x.pin = .low) ∨ (x.detection = .high ∧ x.pin = .high)) :=
    Bool.eq_iff_iff.mpr ((Detection.showing_iff _ _).trans decide_eq_true_iff.symm)
  rw [SafeInput.bytes, hshows]

section
variable {a : Byte} {n : SafeId} (hn : a.toNat = n.val) {s : State}
include hn

theorem safeRelease_held (hon : s.safes[n].hold = true) (h : s.safes[n].detection.showing s.safes[n].pin = true) :
    safeRelease [a] s = ⟨s, [1, 3, 1, levelCode s.safes[n].pin]⟩ := by
  simp only [safeRelease, index?_eq (n := u8 [a] 0) n hn, hon, h, Bool.and_self, if_true, SafeInput.holdBytes]
  rfl

theorem safeRelease_releases (h : ¬ s.safes[n].detection.showing s.safes[n].pin = true) :
    safeRelease [a] s = ⟨s.setSafe n { s.safes[n] with hold := false }, [0, 0, 0, levelCode s.safes[n].pin]⟩ := by
  simp only [safeRelease, index?_eq (n := u8 [a] 0) n hn, Bool.eq_false_of_not_eq_true h, Bool.and_false, Bool.false_eq_true, if_false]
  rfl

/-- The release of a hold that is OFF leaves it so. -/
theorem safeRelease_off (hoff : s.safes[n].hold = false) : safeRelease [a] s = ⟨s, [0, 0, 0, levelCode s.safes[n].pin]⟩ := by
  have hself : s.setSafe n { s.safes[n] with hold := false } = s := by
    rw [← hoff]
    show s.setSafe n s.safes[n] = s
    simp [State.setSafe]
  simp only [safeRelease, index?_eq (n := u8 [a] 0) n hn, hoff, Bool.false_and, Bool.false_eq_true, if_false, hself]
  rfl

end

theorem safeRelease_badField {a : Byte} (h : 1 < a.toNat) (s : State) : safeRelease [a] s = ⟨s, [1, 1, 0, 0]⟩ := by
  simp only [safeRelease, index?_none (k := 2) (n := u8 [a] 0) h]
  rfl

/-- Settles O53: SAFE_SET by the unlock flag, the fields and what the hold does with the new settings; the others by their rules. -/
theorem safeRequests : Obligations.SafeRequests := by
  constructor
  · intro tag p s hfree hlen
    refine ⟨exec_safeUnlock hfree tag, fun hlocked => ?locked, fun hunlock hbad => ?badField, ?set, ?read⟩
    case locked => exact exec_safeSet_refused hfree tag hlen (by rw [hlocked]; exact safeSet_locked p)
    case badField => exact exec_safeSet_refused hfree tag hlen (by rw [hunlock]; exact safeSet_badField hbad)
    case set =>
      intro n d g b hunlock hn hd hg hb x shows installed reply
      have hshows : d.showing x.pin = true ↔ shows := Detection.showing_iff _ _
      have hinstalls {t : State} (ht : s.installSafe n d g b = t) {hold : Bool} (hx : t.safes[n] = ⟨d, g, b, hold, x.pin⟩) :
          exec (.safeSet tag p) s = .next (replied t 0xB9 tag (reply hold)) :=
        exec_safeSet_installs hfree tag hlen hunlock hn (safeSettingsAt_eq hd hg hb) ht hx
      have hself (hold : Bool) : (installed hold).safes[n] = ⟨d, g, b, hold, x.pin⟩ := Vector.getElem_set_self ..
      refine ⟨fun hoff hnot => ?quiet, fun hoff h => ⟨_, holdTakes_holds (installed true) g b, ?begins⟩,
        fun hon => ⟨_, holdTakes_holds (installed true) _ _, ?adds⟩⟩
      case quiet => exact hinstalls (State.installSafe_quiet d g b hoff (mt hshows.mp hnot)) (hself false)
      case begins =>
        refine hinstalls (State.installSafe_begins d g b hoff (hshows.mpr h)) ?_
        rw [State.latch_safes, State.haltLanes_safes, State.holdOutputs_safes]
        exact hself true
      case adds =>
        refine hinstalls (State.installSafe_adds d g b hon) ?_
        rw [State.haltLanes_safes, State.holdOutputs_safes]
        exact hself true
    case read =>
      rintro input rfl
      refine arrive_answer hfree rfl rfl ?_
      simp only [safeRead, SafeInput.bytes_eq]
      rfl
  · intro tag a s hfree
    refine ⟨?_, fun hbad => arrive_answer hfree rfl rfl (safeRelease_badField hbad s.closeUnlock)⟩
    intro n hn x shows
    have hshows : x.detection.showing x.pin = true ↔ shows := Detection.showing_iff _ _
    exact ⟨fun hon h => arrive_answer hfree rfl rfl (safeRelease_held (s := s.closeUnlock) hn hon (hshows.mpr h)),
      fun _ hnot => arrive_answer hfree rfl rfl (safeRelease_releases (s := s.closeUnlock) hn (mt hshows.mp hnot)),
      fun hoff => arrive_answer hfree rfl rfl (safeRelease_off (s := s.closeUnlock) hn hoff)⟩

end Sys2Proof.Machine

/-! SUPPORT. A request that waited is taken as one that comes in (R161): no request's rule looks at the receive buffer, and none but
RESET touches it. -/

namespace Sys2Proof.Machine

/-! ### Rules that look at the link for nothing but its reports -/

/-- An answer with the link of its state changed. -/
def Answer.onLink (a : Answer) (φ : Link → Link) : Answer := ⟨a.state.onLink φ, a.reply⟩

/-- The rule goes on alike where the link is changed. -/
def LinkBlind (φ : Link → Link) (body : State → Answer) : Prop := ∀ s, body (s.onLink φ) = (body s).onLink φ

section
variable {φ : Link → Link}

theorem answer_ite {c : Prop} [Decidable c] {a b a' b' : Answer} (ha : a = a'.onLink φ) (hb : b = b'.onLink φ) :
    (if c then a else b) = (if c then a' else b').onLink φ := by
  split
  · exact ha
  · exact hb

theorem encoderSet_blind (p : List Byte) : LinkBlind φ (encoderSet p) := fun s => by
  unfold encoderSet
  cases index? 2 (u8 p 0) with
  | none => rfl
  | some n => cases encoderConfigAt p with
    | none => rfl
    | some c => exact answer_ite rfl rfl

theorem encoderRead_blind (p : List Byte) : LinkBlind φ (encoderRead p) := fun s => by
  unfold encoderRead
  cases index? 2 (u8 p 0) with
  | none => rfl
  | some n => cases yesAt p 1 <;> rfl

theorem pacerSet_blind (p : List Byte) : LinkBlind φ (pacerSet p) := fun s => by
  unfold pacerSet
  cases index? 2 (u8 p 0) with
  | none => rfl
  | some n => exact answer_ite rfl (answer_ite rfl rfl)

theorem pacerRun_blind (p : List Byte) : LinkBlind φ (pacerRun p) := fun s => by
  unfold pacerRun
  cases index? 2 (u8 p 0) with
  | none => rfl
  | some n => cases bitOfCode (u8 p 1) <;> rfl

theorem pacerRead_blind (p : List Byte) : LinkBlind φ (pacerRead p) := fun s => by
  unfold pacerRead
  cases index? 2 (u8 p 0) <;> rfl

theorem laneSet_blind (p : List Byte) : LinkBlind φ (laneSet p) := fun s => by
  unfold laneSet
  cases index? 4 (u8 p 0) with
  | none => rfl
  | some l => cases laneSettingsAt p with
    | none => rfl
    | some c => exact answer_ite rfl rfl

theorem laneArm_blind (p : List Byte) : LinkBlind φ (laneArm p) := fun s => by
  unfold laneArm
  cases index? 4 (u8 p 0) with
  | none => rfl
  | some l =>
    rw [show (s.onLink φ).lanes = s.lanes from rfl]
    dsimp only
    cases s.lanes[l].state with
    | off => exact answer_ite rfl rfl
    | armed | paused | halted => rfl

theorem lanePause_blind (p : List Byte) : LinkBlind φ (lanePause p) := fun s => by
  unfold lanePause
  cases index? 4 (u8 p 0) with
  | none => rfl
  | some l =>
    rw [show (s.onLink φ).lanes = s.lanes from rfl]
    dsimp only
    cases s.lanes[l].state <;> rfl

theorem laneResume_blind (p : List Byte) : LinkBlind φ (laneResume p) := fun s => by
  unfold laneResume
  cases index? 4 (u8 p 0) with
  | none => rfl
  | some l =>
    rw [show (s.onLink φ).lanes = s.lanes from rfl]
    dsimp only
    cases s.lanes[l].state with
    | halted => exact answer_ite rfl rfl
    | off | armed | paused => rfl

theorem laneDisarm_blind (aside : LinkAside φ) (p : List Byte) : LinkBlind φ (laneDisarm p) := fun s => by
  unfold laneDisarm
  cases index? 4 (u8 p 0) with
  | none => rfl
  | some l => exact congrArg (Answer.mk · _) (State.disarm_beside aside id s l)

theorem laneRead_blind (p : List Byte) : LinkBlind φ (laneRead p) := fun s => by
  unfold laneRead
  cases index? 4 (u8 p 0) <;> rfl

theorem State.admitAll_onLink (l : LaneId) (rel : Bool) (es : List Entry) (base : Position) (s : State) :
    (s.onLink φ).admitAll l rel base es =
      { s.admitAll l rel base es with state := (s.admitAll l rel base es).state.onLink φ } := by
  induction es generalizing base s with
  | nil => rfl
  | cons e rest ih =>
    have hsame : (s.onLink φ).checkEntry l rel e (e.trigger rel base) = s.checkEntry l rel e (e.trigger rel base) := rfl
    cases hcheck : s.checkEntry l rel e (e.trigger rel base) with
    | error r => rw [State.admitAll_refused rest hcheck, State.admitAll_refused rest (hsame.trans hcheck)]
    | ok x =>
      have henter : (s.onLink φ).admitEntry l e (e.trigger rel base) x.1 x.2 =
        (s.admitEntry l e (e.trigger rel base) x.1 x.2).onLink φ := rfl
      rw [State.admitAll_admitted rest hcheck, State.admitAll_admitted rest (hsame.trans hcheck), henter, ih]
      rfl

theorem submit_blind (p : List Byte) : LinkBlind φ (submit p) := fun s => by
  unfold submit
  cases index? 4 (u8 p 0) with
  | none => rfl
  | some l => cases bitOfCode (u8 p 1) with
    | none => rfl
    | some rel =>
      refine answer_ite rfl ?_
      rw [State.admitAll_onLink]
      rfl

theorem cancel_blind (aside : LinkAside φ) (p : List Byte) : LinkBlind φ (cancel p) := fun s => by
  unfold cancel
  dsimp only
  rw [show (s.onLink φ).queuedShot (handleAt p 0) = s.queuedShot (handleAt p 0) from rfl]
  cases s.queuedShot (handleAt p 0) with
  | none => rfl
  | some sh =>
    refine answer_ite ?_ rfl
    rw [show (s.onLink φ).cancelShot (handleAt p 0) sh = (s.cancelShot (handleAt p 0) sh).onLink φ from
      State.cancelShot_beside aside id s _ sh]
    rfl

theorem State.amendShot_onLink (s : State) (a : AmendSet) : (s.onLink φ).amendShot a = (s.amendShot a).onLink φ := by
  have hmove (old new : ProgramId) : (s.onLink φ).moveRef old new = (s.moveRef old new).onLink φ := by
    unfold State.moveRef
    split <;> rfl
  unfold State.amendShot
  rw [show (s.onLink φ).slots = s.slots from rfl]
  split
  · rfl
  · dsimp only
    rw [hmove]
    rfl

theorem amend_blind (p : List Byte) : LinkBlind φ (amend p) := fun s => by
  unfold amend
  dsimp only
  rw [show (s.onLink φ).amendCheck (amendAt p 0) = s.amendCheck (amendAt p 0) from rfl]
  cases s.amendCheck (amendAt p 0) with
  | some r => rfl
  | none => simp only [State.amendShot_onLink]; rfl

theorem amendPair_blind (p : List Byte) : LinkBlind φ (amendPair p) := fun s => by
  unfold amendPair
  dsimp only
  rw [show (s.onLink φ).pairCheck (amendAt p 0) (amendAt p 8) = s.pairCheck (amendAt p 0) (amendAt p 8) from rfl]
  cases s.pairCheck (amendAt p 0) (amendAt p 8) with
  | some r => rfl
  | none => simp only [State.amendShot_onLink]; rfl

theorem programWrite_blind (p : List Byte) : LinkBlind φ (programWrite p) := fun s => by
  unfold programWrite
  cases writeCheck p with
  | error r => rfl
  | ok x =>
    have hstore : (s.onLink φ).storeVersion x.1 x.2 = (s.storeVersion x.1 x.2).onLink φ := by
      unfold State.storeVersion
      rw [show (s.onLink φ).updateHold = s.updateHold from rfl]
      split <;> rfl
    exact congrArg (Answer.mk · _) hstore

theorem programRead_blind (p : List Byte) : LinkBlind φ (programRead p) := fun s => by
  unfold programRead
  cases index? 32 (u8 p 0) with
  | none => rfl
  | some i => cases bitOfCode (u8 p 1) <;> rfl

theorem programClear_blind (p : List Byte) : LinkBlind φ (programClear p) := fun s => by
  unfold programClear
  cases index? 32 (u8 p 0) with
  | none => rfl
  | some i => exact answer_ite rfl (answer_ite rfl rfl)

theorem holdOpen_blind : LinkBlind φ holdOpen := fun s => by
  unfold holdOpen
  rw [show (s.onLink φ).updateHold = s.updateHold from rfl]
  split <;> rfl

theorem holdRelease_blind : LinkBlind φ holdRelease := fun s => by
  unfold holdRelease
  rw [show (s.onLink φ).updateHold = s.updateHold from rfl]
  split <;> rfl

theorem holdDiscard_blind : LinkBlind φ holdDiscard := fun s => by
  unfold holdDiscard
  rw [show (s.onLink φ).updateHold = s.updateHold from rfl]
  split <;> rfl

theorem State.writeOutput_onLink (s : State) (o : OutputId) (pol : Polarity) (mode : OutputMode) :
    (s.onLink φ).writeOutput o pol mode = (s.writeOutput o pol mode).onLink φ := by
  rcases OutputMode.change s.outputs[o].mode mode with hsame | ⟨hmode, rfl⟩ | ⟨hmode, rfl⟩
  · rw [State.writeOutput_same hsame, State.writeOutput_same (s := s.onLink φ) hsame]; rfl
  · rw [State.writeOutput_toPulse hmode, State.writeOutput_toPulse (s := s.onLink φ) hmode]; rfl
  · rw [State.writeOutput_toStatic hmode, State.writeOutput_toStatic (s := s.onLink φ) hmode]; rfl

theorem outputSet_blind (p : List Byte) : LinkBlind φ (outputSet p) := fun s => by
  unfold outputSet
  cases index? 12 (u8 p 0) with
  | none => rfl
  | some o => cases Polarity.ofCode (u8 p 1) with
    | none => rfl
    | some pol => cases OutputMode.ofCode (u8 p 2) with
      | none => rfl
      | some mode =>
        refine answer_ite rfl ?_
        rw [State.writeOutput_onLink]
        rfl

theorem outputDrive_blind (p : List Byte) : LinkBlind φ (outputDrive p) := fun s => by
  unfold outputDrive
  cases index? 12 (u8 p 0) with
  | none => rfl
  | some o => cases DriveLevel.ofCode (u8 p 1) with
    | none => rfl
    | some level => exact answer_ite rfl (answer_ite rfl (answer_ite rfl rfl))

theorem outputProtect_blind (p : List Byte) : LinkBlind φ (outputProtect p) := fun s => by
  unfold outputProtect
  cases bitOfCode (u8 p 0) with
  | none => rfl
  | some flag => exact answer_ite rfl rfl

theorem cameraSet_blind (p : List Byte) : LinkBlind φ (cameraSet p) := fun s => by
  unfold cameraSet
  cases index? 4 (u8 p 0) with
  | none => rfl
  | some c => cases cameraSettingsAt p with
    | none => rfl
    | some x => exact answer_ite rfl rfl

theorem cameraSettle_blind (p : List Byte) : LinkBlind φ (cameraSettle p) := fun s => by
  unfold cameraSettle
  cases index? 4 (u8 p 0) with
  | none => rfl
  | some c => exact answer_ite rfl (answer_ite rfl rfl)

theorem cameraRead_blind (p : List Byte) : LinkBlind φ (cameraRead p) := fun s => by
  unfold cameraRead
  cases index? 4 (u8 p 0) <;> rfl

theorem safeSet_blind (aside : LinkAside φ) (noted : Bool) (p : List Byte) : LinkBlind φ (safeSet noted p) := fun s => by
  unfold safeSet
  refine answer_ite ?_ rfl
  cases index? 2 (u8 p 0) with
  | none => rfl
  | some n => cases safeSettingsAt p with
    | none => rfl
    | some x =>
      have hinstall : (s.onLink φ).installSafe n x.1 x.2.1 x.2.2 = (s.installSafe n x.1 x.2.1 x.2.2).onLink φ :=
        State.installSafe_beside aside id s n _ _ _
      dsimp only
      rw [hinstall]
      rfl

theorem safeRelease_blind (p : List Byte) : LinkBlind φ (safeRelease p) := fun s => by
  unfold safeRelease
  cases index? 2 (u8 p 0) with
  | none => rfl
  | some n => exact answer_ite rfl rfl

theorem outcomeFetch_blind (p : List Byte) : LinkBlind φ (outcomeFetch p) := fun _ => answer_ite rfl rfl

end

/-! ### The taking of a frame -/

/-- A taking goes on alike where the receive buffer is changed, and leaves a reply, or it is the warm reset. -/
def TakenAlike (r : List Frame) (take : State → State) (s : State) : Prop :=
  (take (s.onLink fun x => { x with rxBuffer := r }) = (take s).onLink (fun x => { x with rxBuffer := r }) ∧
    (take s).link.replies ≠ []) ∨
  (take (s.onLink fun x => { x with rxBuffer := r }) = s.closeUnlock.warmReset ∧ take s = s.closeUnlock.warmReset)

theorem rxBuffer_aside (r : List Frame) : LinkAside fun x => { x with rxBuffer := r } :=
  ⟨fun _ => rfl, fun _ => rfl, fun _ _ _ => rfl⟩

theorem State.queueReply_replies (s : State) (kind tag : Byte) (reply : List Byte) :
    (s.queueReply kind tag reply).link.replies ≠ [] := by
  simp [State.queueReply, State.setLink]

theorem takeRequest_alike {r : List Frame} {body : Bool → State → Answer}
    (h : ∀ noted, LinkBlind (fun x => { x with rxBuffer := r }) (body noted)) (kind tag : Byte) (lengthOk : Bool) (s : State) :
    TakenAlike r (takeRequest kind tag lengthOk body) s := by
  refine .inl ⟨?_, ?_⟩
  · have hbody := h s.unlock s.closeUnlock
    cases lengthOk with
    | false => rfl
    | true =>
      have hstart : (s.onLink fun x => { x with rxBuffer := r }).closeUnlock =
        s.closeUnlock.onLink fun x => { x with rxBuffer := r } := rfl
      show ((body s.unlock ((s.onLink _).closeUnlock)).state.queueReply kind tag
        (body s.unlock ((s.onLink _).closeUnlock)).reply) = _
      rw [hstart, hbody]
      rfl
  · cases lengthOk <;> exact State.queueReply_replies _ _ _ _

theorem takeReset_alike (r : List Frame) (tag : Byte) (p : List Byte) (s : State) : TakenAlike r (takeReset tag p) s := by
  cases p with
  | nil => exact .inr ⟨rfl, rfl⟩
  | cons b p => exact .inl ⟨rfl, State.queueReply_replies _ _ _ _⟩

end Sys2Proof.Machine

/-! SUPPORT. The taking of a frame by its KIND, and the frame that waited (R161). -/

namespace Sys2Proof.Machine

theorem takeFrame_alike (r : List Frame) (f : Frame) (s : State) : TakenAlike r (takeFrame f) s := by
  have hfun : takeFrame f = fun s => takeFrame f s := rfl
  rw [hfun]
  unfold takeFrame
  split
  · exact takeRequest_alike (fun _ _ => rfl) ..
  · exact takeRequest_alike (fun _ _ => rfl) ..
  · exact takeReset_alike ..
  · exact takeRequest_alike (fun _ => encoderSet_blind _) ..
  · exact takeRequest_alike (fun _ => encoderRead_blind _) ..
  · exact takeRequest_alike (fun _ => pacerSet_blind _) ..
  · exact takeRequest_alike (fun _ => pacerRun_blind _) ..
  · exact takeRequest_alike (fun _ => pacerRead_blind _) ..
  · exact takeRequest_alike (fun _ => laneSet_blind _) ..
  · exact takeRequest_alike (fun _ => laneArm_blind _) ..
  · exact takeRequest_alike (fun _ => lanePause_blind _) ..
  · exact takeRequest_alike (fun _ => laneResume_blind _) ..
  · exact takeRequest_alike (fun _ => laneDisarm_blind (rxBuffer_aside r) _) ..
  · exact takeRequest_alike (fun _ => laneRead_blind _) ..
  · exact takeRequest_alike (fun _ => submit_blind _) ..
  · exact takeRequest_alike (fun _ => cancel_blind (rxBuffer_aside r) _) ..
  · exact takeRequest_alike (fun _ _ => rfl) ..
  · exact takeRequest_alike (fun _ => amend_blind _) ..
  · exact takeRequest_alike (fun _ => amendPair_blind _) ..
  · exact takeRequest_alike (fun _ => programWrite_blind _) ..
  · exact takeRequest_alike (fun _ => programRead_blind _) ..
  · exact takeRequest_alike (fun _ => programClear_blind _) ..
  · exact takeRequest_alike (fun _ => holdOpen_blind) ..
  · exact takeRequest_alike (fun _ => holdRelease_blind) ..
  · exact takeRequest_alike (fun _ => holdDiscard_blind) ..
  · exact takeRequest_alike (fun _ => outputSet_blind _) ..
  · exact takeRequest_alike (fun _ => outputDrive_blind _) ..
  · exact takeRequest_alike (fun _ => outputProtect_blind _) ..
  · exact takeRequest_alike (fun _ _ => rfl) ..
  · exact takeRequest_alike (fun _ => cameraSet_blind _) ..
  · exact takeRequest_alike (fun _ => cameraSettle_blind _) ..
  · exact takeRequest_alike (fun _ => cameraRead_blind _) ..
  · exact takeRequest_alike (fun _ _ => rfl) ..
  · exact takeRequest_alike (fun noted => safeSet_blind (rxBuffer_aside r) noted _) ..
  · exact takeRequest_alike (fun _ => safeRelease_blind _) ..
  · exact takeRequest_alike (fun _ _ => rfl) ..
  · exact takeRequest_alike (fun _ => outcomeFetch_blind _) ..
  · exact takeRequest_alike (fun _ _ => rfl) ..
  · exact takeRequest_alike (fun _ _ => rfl) ..
  · exact takeRequest_alike (fun _ _ => rfl) ..
  · exact .inl ⟨rfl, State.queueReply_replies _ _ _ _⟩

/-- A request that is answered leaves the part in its phase. -/
theorem takeFrame_phase {f : Frame} {s : State} (hanswered : (takeFrame f s).link.replies ≠ []) :
    (takeFrame f s).phase = s.phase := by
  have hmoved {t : State} (hmoves : RequestMoves s.closeUnlock t) : t.phase = s.phase := by
    induction hmoves with
    | refl => rfl
    | tail _ hmove ih => exact hmove.phase_eq.trans ih
  rcases takeFrame_moves f s with heq | ⟨u, kind, r, hmoves, heq⟩
  · exact absurd (by rw [heq]; rfl) hanswered
  · calc (takeFrame f s).phase
      _ = (u.queueReply kind f.tag r).phase := by rw [heq]
      _ = u.phase := rfl
      _ = s.phase := hmoved hmoves

theorem Link.begin_setRxBuffer (x : Link) (r : List Frame) :
    Link.begin { x with rxBuffer := r } = { x.begin with rxBuffer := r } := by
  unfold Link.begin Link.beginReport Link.startWaits
  dsimp only
  (repeat' split) <;> rfl

/-- Settles O10: a frame that waited is taken by the rule of a request that comes in. -/
theorem waitingFrameIsTakenAsItsRequest : Obligations.WaitingFrameIsTakenAsItsRequest := by
  intro i f rest s hreq hrun hroom hbuf
  have hfree : LinkFree (s.onLink fun x => { x with rxBuffer := [] }) := ⟨hrun, rfl, hroom⟩
  have hfirst : exec i { s with link := { s.link with rxBuffer := [] } } =
      done (takeFrame f (s.onLink fun x => { x with rxBuffer := [] })) := by
    rw [exec_request hreq]
    exact arrive_free _ _ _ hfree
  have hdue : s.takeDue = true := s.takeDue_iff.2 ⟨hrun, by simp [hbuf], hroom⟩
  have holdest : execTakeOldest s =
      done (takeFrame f (s.onLink fun x => { x with rxBuffer := rest })) := by
    unfold execTakeOldest State.takeOldest
    rw [if_pos hdue, hbuf]
    rfl
  rw [hfirst, holdest]
  refine ⟨⟨_, rfl, ?_⟩, fun hrest => by rw [hrest]⟩
  rcases takeFrame_alike rest f (s.onLink fun x => { x with rxBuffer := [] }) with ⟨halike, hanswered⟩ | ⟨hwaited, hcame⟩
  · have hphase : (takeFrame f (s.onLink fun x => { x with rxBuffer := [] })).beginTx.phase = .running :=
      (takeFrame_phase hanswered).trans hrun
    rw [if_pos hphase]
    refine (congrArg done halike).trans (congrArg Host.Outcome.next ?_)
    exact congrArg (State.setLink _) (Link.begin_setRxBuffer _ rest)
  · rw [hcame, if_neg nofun]
    refine (congrArg done hwaited).trans (congrArg Host.Outcome.next ?_)
    exact congrArg (State.setLink _) (Link.begin_setRxBuffer s.closeUnlock.warmReset.link [])

end Sys2Proof.Machine
